-- ==== Sys2Proof/Word.lean ====
section
/-! DEFINITION. The word types and the register banks: values the manual treats as bits. -/

namespace Sys2Proof

/-- A register-wide value. XLEN-wide registers are held in 64 bits whatever XLEN is (10_state.md R40, R46);
`Sys2Proof.Machine.trunc` reads them modulo `2^XLEN`. -/
abbrev Word := BitVec 64

/-- A 32-bit special-purpose register or an instruction word (10_state.md R50, 30_encoding.md R300). -/
abbrev Word32 := BitVec 32

/-- A byte of memory (20_memory.md R200). -/
abbrev Byte := BitVec 8

/-- A register number: the 5-bit D, A or B field (10_state.md R40, 30_encoding.md R302). -/
abbrev Reg := BitVec 5

/-- A bank of `2^w` registers, numbered by a `w`-bit number. -/
abbrev Bank (w : Nat) (α : Type) := Vector α (2 ^ w)

/-- Register `i` of a bank. -/
def Bank.at {w : Nat} {α : Type} (b : Bank w α) (i : BitVec w) : α := b[i.toNat]'i.isLt

/-- The bank with register `i` replaced. -/
def Bank.put {w : Nat} {α : Type} (b : Bank w α) (i : BitVec w) (v : α) : Bank w α := b.set i.toNat v i.isLt

/-- A bank whose registers all hold `v`. -/
def Bank.fill (w : Nat) {α : Type} (v : α) : Bank w α := Vector.replicate (2 ^ w) v

@[simp] theorem Bank.at_put_self {w : Nat} {α : Type} (b : Bank w α) (i : BitVec w) (v : α) :
    (b.put i v).at i = v := by
  simp [Bank.at, Bank.put]

theorem Bank.at_put_ne {w : Nat} {α : Type} (b : Bank w α) {i j : BitVec w} (v : α) (h : j ≠ i) :
    (b.put i v).at j = b.at j := by
  have h' : i.toNat ≠ j.toNat := fun e => h (BitVec.eq_of_toNat_eq e.symm)
  simp [Bank.at, Bank.put, h']

theorem Bank.at_put {w : Nat} {α : Type} (b : Bank w α) (i j : BitVec w) (v : α) :
    (b.put i v).at j = if j = i then v else b.at j := by
  by_cases h : j = i
  · subst h; simp
  · simp [h, Bank.at_put_ne b v h]

@[simp] theorem Bank.at_fill (w : Nat) {α : Type} (v : α) (i : BitVec w) : (Bank.fill w v).at i = v := by
  simp [Bank.at, Bank.fill]

end Sys2Proof
end

