-- ==== Sys2Proof/Syntax.lean ====
section
/-! DEFINITION. The instructions: one constructor for each row of spec/opcode_table.json, in the table's order.

Operands stand in the order D, A, B, immediate. Register fields are register numbers (30_encoding.md R302), immediates
are the raw field bits; a split immediate is assembled (R304). -/

namespace Sys2Proof

/-- An OpenRISC 1000 instruction (30_encoding.md R301-R319, spec/opcode_table.json). -/
inductive Instr where
  /-- `l.add rD,rA,rB`: R353 -/
  | lAdd (rd : Reg) (ra : Reg) (rb : Reg)
  /-- `l.addc rD,rA,rB`: R354 -/
  | lAddc (rd : Reg) (ra : Reg) (rb : Reg)
  /-- `l.addi rD,rA,I`: R355 -/
  | lAddi (rd : Reg) (ra : Reg) (i : BitVec 16)
  /-- `l.addic rD,rA,I`: R356 -/
  | lAddic (rd : Reg) (ra : Reg) (i : BitVec 16)
  /-- `l.sub rD,rA,rB`: R357 -/
  | lSub (rd : Reg) (ra : Reg) (rb : Reg)
  /-- `l.mul rD,rA,rB`: R358 -/
  | lMul (rd : Reg) (ra : Reg) (rb : Reg)
  /-- `l.muli rD,rA,I`: R359 -/
  | lMuli (rd : Reg) (ra : Reg) (i : BitVec 16)
  /-- `l.mulu rD,rA,rB`: R360 -/
  | lMulu (rd : Reg) (ra : Reg) (rb : Reg)
  /-- `l.div rD,rA,rB`: R361 -/
  | lDiv (rd : Reg) (ra : Reg) (rb : Reg)
  /-- `l.divu rD,rA,rB`: R362 -/
  | lDivu (rd : Reg) (ra : Reg) (rb : Reg)
  /-- `l.mac rA,rB`: R366 -/
  | lMac (ra : Reg) (rb : Reg)
  /-- `l.maci rA,I`: R367 -/
  | lMaci (ra : Reg) (i : BitVec 16)
  /-- `l.macu rA,rB`: R368 -/
  | lMacu (ra : Reg) (rb : Reg)
  /-- `l.msb rA,rB`: R369 -/
  | lMsb (ra : Reg) (rb : Reg)
  /-- `l.msbu rA,rB`: R370 -/
  | lMsbu (ra : Reg) (rb : Reg)
  /-- `l.macrc rD`: R371 -/
  | lMacrc (rd : Reg)
  /-- `l.muld rA,rB`: R372 -/
  | lMuld (ra : Reg) (rb : Reg)
  /-- `l.muldu rA,rB`: R373 -/
  | lMuldu (ra : Reg) (rb : Reg)
  /-- `l.cmov rD,rA,rB`: R376 -/
  | lCmov (rd : Reg) (ra : Reg) (rb : Reg)
  /-- `l.ff1 rD,rA`: R378 -/
  | lFf1 (rd : Reg) (ra : Reg)
  /-- `l.fl1 rD,rA`: R379 -/
  | lFl1 (rd : Reg) (ra : Reg)
  /-- `l.and rD,rA,rB`: R402 -/
  | lAnd (rd : Reg) (ra : Reg) (rb : Reg)
  /-- `l.andi rD,rA,K`: R403 -/
  | lAndi (rd : Reg) (ra : Reg) (k : BitVec 16)
  /-- `l.or rD,rA,rB`: R404 -/
  | lOr (rd : Reg) (ra : Reg) (rb : Reg)
  /-- `l.ori rD,rA,K`: R405 -/
  | lOri (rd : Reg) (ra : Reg) (k : BitVec 16)
  /-- `l.xor rD,rA,rB`: R406 -/
  | lXor (rd : Reg) (ra : Reg) (rb : Reg)
  /-- `l.xori rD,rA,I`: R407 -/
  | lXori (rd : Reg) (ra : Reg) (i : BitVec 16)
  /-- `l.sll rD,rA,rB`: R408 -/
  | lSll (rd : Reg) (ra : Reg) (rb : Reg)
  /-- `l.slli rD,rA,L`: R409 -/
  | lSlli (rd : Reg) (ra : Reg) (l : BitVec 6)
  /-- `l.srl rD,rA,rB`: R410 -/
  | lSrl (rd : Reg) (ra : Reg) (rb : Reg)
  /-- `l.srli rD,rA,L`: R411 -/
  | lSrli (rd : Reg) (ra : Reg) (l : BitVec 6)
  /-- `l.sra rD,rA,rB`: R412 -/
  | lSra (rd : Reg) (ra : Reg) (rb : Reg)
  /-- `l.srai rD,rA,L`: R413 -/
  | lSrai (rd : Reg) (ra : Reg) (l : BitVec 6)
  /-- `l.ror rD,rA,rB`: R414 -/
  | lRor (rd : Reg) (ra : Reg) (rb : Reg)
  /-- `l.rori rD,rA,L`: R415 -/
  | lRori (rd : Reg) (ra : Reg) (l : BitVec 6)
  /-- `l.extbs rD,rA`: R416 -/
  | lExtbs (rd : Reg) (ra : Reg)
  /-- `l.extbz rD,rA`: R417 -/
  | lExtbz (rd : Reg) (ra : Reg)
  /-- `l.exths rD,rA`: R418 -/
  | lExths (rd : Reg) (ra : Reg)
  /-- `l.exthz rD,rA`: R419 -/
  | lExthz (rd : Reg) (ra : Reg)
  /-- `l.extws rD,rA`: R420 -/
  | lExtws (rd : Reg) (ra : Reg)
  /-- `l.extwz rD,rA`: R421 -/
  | lExtwz (rd : Reg) (ra : Reg)
  /-- `l.movhi rD,K`: R422 -/
  | lMovhi (rd : Reg) (k : BitVec 16)
  /-- `l.sfeq rA,rB`: R453 -/
  | lSfeq (ra : Reg) (rb : Reg)
  /-- `l.sfne rA,rB`: R454 -/
  | lSfne (ra : Reg) (rb : Reg)
  /-- `l.sfgtu rA,rB`: R455 -/
  | lSfgtu (ra : Reg) (rb : Reg)
  /-- `l.sfgeu rA,rB`: R456 -/
  | lSfgeu (ra : Reg) (rb : Reg)
  /-- `l.sfltu rA,rB`: R457 -/
  | lSfltu (ra : Reg) (rb : Reg)
  /-- `l.sfleu rA,rB`: R458 -/
  | lSfleu (ra : Reg) (rb : Reg)
  /-- `l.sfgts rA,rB`: R459 -/
  | lSfgts (ra : Reg) (rb : Reg)
  /-- `l.sfges rA,rB`: R460 -/
  | lSfges (ra : Reg) (rb : Reg)
  /-- `l.sflts rA,rB`: R461 -/
  | lSflts (ra : Reg) (rb : Reg)
  /-- `l.sfles rA,rB`: R462 -/
  | lSfles (ra : Reg) (rb : Reg)
  /-- `l.sfeqi rA,I`: R463 -/
  | lSfeqi (ra : Reg) (i : BitVec 16)
  /-- `l.sfnei rA,I`: R464 -/
  | lSfnei (ra : Reg) (i : BitVec 16)
  /-- `l.sfgtui rA,I`: R465 -/
  | lSfgtui (ra : Reg) (i : BitVec 16)
  /-- `l.sfgeui rA,I`: R466 -/
  | lSfgeui (ra : Reg) (i : BitVec 16)
  /-- `l.sfltui rA,I`: R467 -/
  | lSfltui (ra : Reg) (i : BitVec 16)
  /-- `l.sfleui rA,I`: R468 -/
  | lSfleui (ra : Reg) (i : BitVec 16)
  /-- `l.sfgtsi rA,I`: R469 -/
  | lSfgtsi (ra : Reg) (i : BitVec 16)
  /-- `l.sfgesi rA,I`: R470 -/
  | lSfgesi (ra : Reg) (i : BitVec 16)
  /-- `l.sfltsi rA,I`: R471 -/
  | lSfltsi (ra : Reg) (i : BitVec 16)
  /-- `l.sflesi rA,I`: R472 -/
  | lSflesi (ra : Reg) (i : BitVec 16)
  /-- `l.lbz rD,I(rA)`: R504 -/
  | lLbz (rd : Reg) (ra : Reg) (i : BitVec 16)
  /-- `l.lbs rD,I(rA)`: R505 -/
  | lLbs (rd : Reg) (ra : Reg) (i : BitVec 16)
  /-- `l.lhz rD,I(rA)`: R506 -/
  | lLhz (rd : Reg) (ra : Reg) (i : BitVec 16)
  /-- `l.lhs rD,I(rA)`: R507 -/
  | lLhs (rd : Reg) (ra : Reg) (i : BitVec 16)
  /-- `l.lwz rD,I(rA)`: R509 -/
  | lLwz (rd : Reg) (ra : Reg) (i : BitVec 16)
  /-- `l.lws rD,I(rA)`: R510 -/
  | lLws (rd : Reg) (ra : Reg) (i : BitVec 16)
  /-- `l.ld rD,I(rA)`: R511 -/
  | lLd (rd : Reg) (ra : Reg) (i : BitVec 16)
  /-- `l.lwa rD,I(rA)`: R508 -/
  | lLwa (rd : Reg) (ra : Reg) (i : BitVec 16)
  /-- `l.sb I(rA),rB`: R512 -/
  | lSb (ra : Reg) (rb : Reg) (i : BitVec 16)
  /-- `l.sh I(rA),rB`: R514 -/
  | lSh (ra : Reg) (rb : Reg) (i : BitVec 16)
  /-- `l.sw I(rA),rB`: R515 -/
  | lSw (ra : Reg) (rb : Reg) (i : BitVec 16)
  /-- `l.sd I(rA),rB`: R516 -/
  | lSd (ra : Reg) (rb : Reg) (i : BitVec 16)
  /-- `l.swa I(rA),rB`: R513 -/
  | lSwa (ra : Reg) (rb : Reg) (i : BitVec 16)
  /-- `l.j N`: R552 -/
  | lJ (n : BitVec 26)
  /-- `l.jal N`: R553 -/
  | lJal (n : BitVec 26)
  /-- `l.jr rB`: R554 -/
  | lJr (rb : Reg)
  /-- `l.jalr rB`: R555 -/
  | lJalr (rb : Reg)
  /-- `l.bf N`: R557 -/
  | lBf (n : BitVec 26)
  /-- `l.bnf N`: R558 -/
  | lBnf (n : BitVec 26)
  /-- `l.nop K`: R559 -/
  | lNop (k : BitVec 16)
  /-- `l.sys K`: R560 -/
  | lSys (k : BitVec 16)
  /-- `l.trap K`: R561 -/
  | lTrap (k : BitVec 16)
  /-- `l.rfe`: R564 -/
  | lRfe
  /-- `l.mtspr rA,rB,K`: R565 -/
  | lMtspr (ra : Reg) (rb : Reg) (k : BitVec 16)
  /-- `l.mfspr rD,rA,K`: R566 -/
  | lMfspr (rd : Reg) (ra : Reg) (k : BitVec 16)
  /-- `l.msync`: R567 -/
  | lMsync
  /-- `l.csync`: R568 -/
  | lCsync
  /-- `l.psync`: R569 -/
  | lPsync
  /-- `lf.add.s rD,rA,rB`: R610 -/
  | lfAddS (rd : Reg) (ra : Reg) (rb : Reg)
  /-- `lf.sub.s rD,rA,rB`: R611 -/
  | lfSubS (rd : Reg) (ra : Reg) (rb : Reg)
  /-- `lf.mul.s rD,rA,rB`: R612 -/
  | lfMulS (rd : Reg) (ra : Reg) (rb : Reg)
  /-- `lf.div.s rD,rA,rB`: R613 -/
  | lfDivS (rd : Reg) (ra : Reg) (rb : Reg)
  /-- `lf.rem.s rD,rA,rB`: R614 -/
  | lfRemS (rd : Reg) (ra : Reg) (rb : Reg)
  /-- `lf.madd.s rD,rA,rB`: R615 -/
  | lfMaddS (rd : Reg) (ra : Reg) (rb : Reg)
  /-- `lf.itof.s rD,rA`: R616 -/
  | lfItofS (rd : Reg) (ra : Reg)
  /-- `lf.ftoi.s rD,rA`: R617 -/
  | lfFtoiS (rd : Reg) (ra : Reg)
  /-- `lf.sfeq.s rA,rB`: R618 -/
  | lfSfeqS (ra : Reg) (rb : Reg)
  /-- `lf.sfne.s rA,rB`: R619 -/
  | lfSfneS (ra : Reg) (rb : Reg)
  /-- `lf.sfgt.s rA,rB`: R620 -/
  | lfSfgtS (ra : Reg) (rb : Reg)
  /-- `lf.sfge.s rA,rB`: R621 -/
  | lfSfgeS (ra : Reg) (rb : Reg)
  /-- `lf.sflt.s rA,rB`: R622 -/
  | lfSfltS (ra : Reg) (rb : Reg)
  /-- `lf.sfle.s rA,rB`: R623 -/
  | lfSfleS (ra : Reg) (rb : Reg)
  /-- `lf.cust1.s rA,rB`: R624 -/
  | lfCust1S (ra : Reg) (rb : Reg)
  /-- `lf.add.d rD,rA,rB`: R625 -/
  | lfAddD (rd : Reg) (ra : Reg) (rb : Reg)
  /-- `lf.sub.d rD,rA,rB`: R626 -/
  | lfSubD (rd : Reg) (ra : Reg) (rb : Reg)
  /-- `lf.mul.d rD,rA,rB`: R627 -/
  | lfMulD (rd : Reg) (ra : Reg) (rb : Reg)
  /-- `lf.div.d rD,rA,rB`: R628 -/
  | lfDivD (rd : Reg) (ra : Reg) (rb : Reg)
  /-- `lf.rem.d rD,rA,rB`: R629 -/
  | lfRemD (rd : Reg) (ra : Reg) (rb : Reg)
  /-- `lf.madd.d rD,rA,rB`: R630 -/
  | lfMaddD (rd : Reg) (ra : Reg) (rb : Reg)
  /-- `lf.itof.d rD,rA`: R631 -/
  | lfItofD (rd : Reg) (ra : Reg)
  /-- `lf.ftoi.d rD,rA`: R632 -/
  | lfFtoiD (rd : Reg) (ra : Reg)
  /-- `lf.sfeq.d rA,rB`: R633 -/
  | lfSfeqD (ra : Reg) (rb : Reg)
  /-- `lf.sfne.d rA,rB`: R634 -/
  | lfSfneD (ra : Reg) (rb : Reg)
  /-- `lf.sfgt.d rA,rB`: R635 -/
  | lfSfgtD (ra : Reg) (rb : Reg)
  /-- `lf.sfge.d rA,rB`: R636 -/
  | lfSfgeD (ra : Reg) (rb : Reg)
  /-- `lf.sflt.d rA,rB`: R637 -/
  | lfSfltD (ra : Reg) (rb : Reg)
  /-- `lf.sfle.d rA,rB`: R638 -/
  | lfSfleD (ra : Reg) (rb : Reg)
  /-- `lf.cust1.d rA,rB`: R639 -/
  | lfCust1D (ra : Reg) (rb : Reg)
  /-- `lv.add.b rD,rA,rB`: R690 -/
  | lvAddB (rd : Reg) (ra : Reg) (rb : Reg)
  /-- `lv.add.h rD,rA,rB`: R691 -/
  | lvAddH (rd : Reg) (ra : Reg) (rb : Reg)
  /-- `lv.adds.b rD,rA,rB`: R692 -/
  | lvAddsB (rd : Reg) (ra : Reg) (rb : Reg)
  /-- `lv.adds.h rD,rA,rB`: R693 -/
  | lvAddsH (rd : Reg) (ra : Reg) (rb : Reg)
  /-- `lv.addu.b rD,rA,rB`: R694 -/
  | lvAdduB (rd : Reg) (ra : Reg) (rb : Reg)
  /-- `lv.addu.h rD,rA,rB`: R695 -/
  | lvAdduH (rd : Reg) (ra : Reg) (rb : Reg)
  /-- `lv.addus.b rD,rA,rB`: R696 -/
  | lvAddusB (rd : Reg) (ra : Reg) (rb : Reg)
  /-- `lv.addus.h rD,rA,rB`: R697 -/
  | lvAddusH (rd : Reg) (ra : Reg) (rb : Reg)
  /-- `lv.all_eq.b rD,rA,rB`: R700 -/
  | lvAllEqB (rd : Reg) (ra : Reg) (rb : Reg)
  /-- `lv.all_eq.h rD,rA,rB`: R701 -/
  | lvAllEqH (rd : Reg) (ra : Reg) (rb : Reg)
  /-- `lv.all_ge.b rD,rA,rB`: R702 -/
  | lvAllGeB (rd : Reg) (ra : Reg) (rb : Reg)
  /-- `lv.all_ge.h rD,rA,rB`: R703 -/
  | lvAllGeH (rd : Reg) (ra : Reg) (rb : Reg)
  /-- `lv.all_gt.b rD,rA,rB`: R704 -/
  | lvAllGtB (rd : Reg) (ra : Reg) (rb : Reg)
  /-- `lv.all_gt.h rD,rA,rB`: R705 -/
  | lvAllGtH (rd : Reg) (ra : Reg) (rb : Reg)
  /-- `lv.all_le.b rD,rA,rB`: R706 -/
  | lvAllLeB (rd : Reg) (ra : Reg) (rb : Reg)
  /-- `lv.all_le.h rD,rA,rB`: R707 -/
  | lvAllLeH (rd : Reg) (ra : Reg) (rb : Reg)
  /-- `lv.all_lt.b rD,rA,rB`: R708 -/
  | lvAllLtB (rd : Reg) (ra : Reg) (rb : Reg)
  /-- `lv.all_lt.h rD,rA,rB`: R709 -/
  | lvAllLtH (rd : Reg) (ra : Reg) (rb : Reg)
  /-- `lv.all_ne.b rD,rA,rB`: R710 -/
  | lvAllNeB (rd : Reg) (ra : Reg) (rb : Reg)
  /-- `lv.all_ne.h rD,rA,rB`: R711 -/
  | lvAllNeH (rd : Reg) (ra : Reg) (rb : Reg)
  /-- `lv.any_eq.b rD,rA,rB`: R712 -/
  | lvAnyEqB (rd : Reg) (ra : Reg) (rb : Reg)
  /-- `lv.any_eq.h rD,rA,rB`: R713 -/
  | lvAnyEqH (rd : Reg) (ra : Reg) (rb : Reg)
  /-- `lv.any_ge.b rD,rA,rB`: R714 -/
  | lvAnyGeB (rd : Reg) (ra : Reg) (rb : Reg)
  /-- `lv.any_ge.h rD,rA,rB`: R715 -/
  | lvAnyGeH (rd : Reg) (ra : Reg) (rb : Reg)
  /-- `lv.any_gt.b rD,rA,rB`: R716 -/
  | lvAnyGtB (rd : Reg) (ra : Reg) (rb : Reg)
  /-- `lv.any_gt.h rD,rA,rB`: R717 -/
  | lvAnyGtH (rd : Reg) (ra : Reg) (rb : Reg)
  /-- `lv.any_le.b rD,rA,rB`: R718 -/
  | lvAnyLeB (rd : Reg) (ra : Reg) (rb : Reg)
  /-- `lv.any_le.h rD,rA,rB`: R719 -/
  | lvAnyLeH (rd : Reg) (ra : Reg) (rb : Reg)
  /-- `lv.any_lt.b rD,rA,rB`: R720 -/
  | lvAnyLtB (rd : Reg) (ra : Reg) (rb : Reg)
  /-- `lv.any_lt.h rD,rA,rB`: R721 -/
  | lvAnyLtH (rd : Reg) (ra : Reg) (rb : Reg)
  /-- `lv.any_ne.b rD,rA,rB`: R722 -/
  | lvAnyNeB (rd : Reg) (ra : Reg) (rb : Reg)
  /-- `lv.any_ne.h rD,rA,rB`: R723 -/
  | lvAnyNeH (rd : Reg) (ra : Reg) (rb : Reg)
  /-- `lv.and rD,rA,rB`: R724 -/
  | lvAnd (rd : Reg) (ra : Reg) (rb : Reg)
  /-- `lv.avg.b rD,rA,rB`: R725 -/
  | lvAvgB (rd : Reg) (ra : Reg) (rb : Reg)
  /-- `lv.avg.h rD,rA,rB`: R726 -/
  | lvAvgH (rd : Reg) (ra : Reg) (rb : Reg)
  /-- `lv.cmp_eq.b rD,rA,rB`: R730 -/
  | lvCmpEqB (rd : Reg) (ra : Reg) (rb : Reg)
  /-- `lv.cmp_eq.h rD,rA,rB`: R731 -/
  | lvCmpEqH (rd : Reg) (ra : Reg) (rb : Reg)
  /-- `lv.cmp_ge.b rD,rA,rB`: R732 -/
  | lvCmpGeB (rd : Reg) (ra : Reg) (rb : Reg)
  /-- `lv.cmp_ge.h rD,rA,rB`: R733 -/
  | lvCmpGeH (rd : Reg) (ra : Reg) (rb : Reg)
  /-- `lv.cmp_gt.b rD,rA,rB`: R734 -/
  | lvCmpGtB (rd : Reg) (ra : Reg) (rb : Reg)
  /-- `lv.cmp_gt.h rD,rA,rB`: R735 -/
  | lvCmpGtH (rd : Reg) (ra : Reg) (rb : Reg)
  /-- `lv.cmp_le.b rD,rA,rB`: R736 -/
  | lvCmpLeB (rd : Reg) (ra : Reg) (rb : Reg)
  /-- `lv.cmp_le.h rD,rA,rB`: R737 -/
  | lvCmpLeH (rd : Reg) (ra : Reg) (rb : Reg)
  /-- `lv.cmp_lt.b rD,rA,rB`: R738 -/
  | lvCmpLtB (rd : Reg) (ra : Reg) (rb : Reg)
  /-- `lv.cmp_lt.h rD,rA,rB`: R739 -/
  | lvCmpLtH (rd : Reg) (ra : Reg) (rb : Reg)
  /-- `lv.cmp_ne.b rD,rA,rB`: R740 -/
  | lvCmpNeB (rd : Reg) (ra : Reg) (rb : Reg)
  /-- `lv.cmp_ne.h rD,rA,rB`: R741 -/
  | lvCmpNeH (rd : Reg) (ra : Reg) (rb : Reg)
  /-- `lv.madds.h rD,rA,rB`: R760 -/
  | lvMaddsH (rd : Reg) (ra : Reg) (rb : Reg)
  /-- `lv.max.b rD,rA,rB`: R762 -/
  | lvMaxB (rd : Reg) (ra : Reg) (rb : Reg)
  /-- `lv.max.h rD,rA,rB`: R763 -/
  | lvMaxH (rd : Reg) (ra : Reg) (rb : Reg)
  /-- `lv.merge.b rD,rA,rB`: R764 -/
  | lvMergeB (rd : Reg) (ra : Reg) (rb : Reg)
  /-- `lv.merge.h rD,rA,rB`: R765 -/
  | lvMergeH (rd : Reg) (ra : Reg) (rb : Reg)
  /-- `lv.min.b rD,rA,rB`: R766 -/
  | lvMinB (rd : Reg) (ra : Reg) (rb : Reg)
  /-- `lv.min.h rD,rA,rB`: R767 -/
  | lvMinH (rd : Reg) (ra : Reg) (rb : Reg)
  /-- `lv.msubs.h rD,rA,rB`: R768 -/
  | lvMsubsH (rd : Reg) (ra : Reg) (rb : Reg)
  /-- `lv.muls.h rD,rA,rB`: R769 -/
  | lvMulsH (rd : Reg) (ra : Reg) (rb : Reg)
  /-- `lv.nand rD,rA,rB`: R770 -/
  | lvNand (rd : Reg) (ra : Reg) (rb : Reg)
  /-- `lv.nor rD,rA,rB`: R771 -/
  | lvNor (rd : Reg) (ra : Reg) (rb : Reg)
  /-- `lv.or rD,rA,rB`: R772 -/
  | lvOr (rd : Reg) (ra : Reg) (rb : Reg)
  /-- `lv.pack.b rD,rA,rB`: R773 -/
  | lvPackB (rd : Reg) (ra : Reg) (rb : Reg)
  /-- `lv.pack.h rD,rA,rB`: R774 -/
  | lvPackH (rd : Reg) (ra : Reg) (rb : Reg)
  /-- `lv.packs.b rD,rA,rB`: R775 -/
  | lvPacksB (rd : Reg) (ra : Reg) (rb : Reg)
  /-- `lv.packs.h rD,rA,rB`: R776 -/
  | lvPacksH (rd : Reg) (ra : Reg) (rb : Reg)
  /-- `lv.packus.b rD,rA,rB`: R777 -/
  | lvPackusB (rd : Reg) (ra : Reg) (rb : Reg)
  /-- `lv.packus.h rD,rA,rB`: R778 -/
  | lvPackusH (rd : Reg) (ra : Reg) (rb : Reg)
  /-- `lv.perm.n rD,rA,rB`: R779 -/
  | lvPermN (rd : Reg) (ra : Reg) (rb : Reg)
  /-- `lv.rl.b rD,rA,rB`: R780 -/
  | lvRlB (rd : Reg) (ra : Reg) (rb : Reg)
  /-- `lv.rl.h rD,rA,rB`: R781 -/
  | lvRlH (rd : Reg) (ra : Reg) (rb : Reg)
  /-- `lv.sll.b rD,rA,rB`: R782 -/
  | lvSllB (rd : Reg) (ra : Reg) (rb : Reg)
  /-- `lv.sll.h rD,rA,rB`: R783 -/
  | lvSllH (rd : Reg) (ra : Reg) (rb : Reg)
  /-- `lv.sll rD,rA,rB`: R784 -/
  | lvSll (rd : Reg) (ra : Reg) (rb : Reg)
  /-- `lv.srl.b rD,rA,rB`: R785 -/
  | lvSrlB (rd : Reg) (ra : Reg) (rb : Reg)
  /-- `lv.srl.h rD,rA,rB`: R786 -/
  | lvSrlH (rd : Reg) (ra : Reg) (rb : Reg)
  /-- `lv.sra.b rD,rA,rB`: R787 -/
  | lvSraB (rd : Reg) (ra : Reg) (rb : Reg)
  /-- `lv.sra.h rD,rA,rB`: R788 -/
  | lvSraH (rd : Reg) (ra : Reg) (rb : Reg)
  /-- `lv.srl rD,rA,rB`: R789 -/
  | lvSrl (rd : Reg) (ra : Reg) (rb : Reg)
  /-- `lv.sub.b rD,rA,rB`: R790 -/
  | lvSubB (rd : Reg) (ra : Reg) (rb : Reg)
  /-- `lv.sub.h rD,rA,rB`: R791 -/
  | lvSubH (rd : Reg) (ra : Reg) (rb : Reg)
  /-- `lv.subs.b rD,rA,rB`: R792 -/
  | lvSubsB (rd : Reg) (ra : Reg) (rb : Reg)
  /-- `lv.subs.h rD,rA,rB`: R793 -/
  | lvSubsH (rd : Reg) (ra : Reg) (rb : Reg)
  /-- `lv.subu.b rD,rA,rB`: R794 -/
  | lvSubuB (rd : Reg) (ra : Reg) (rb : Reg)
  /-- `lv.subu.h rD,rA,rB`: R795 -/
  | lvSubuH (rd : Reg) (ra : Reg) (rb : Reg)
  /-- `lv.subus.b rD,rA,rB`: R796 -/
  | lvSubusB (rd : Reg) (ra : Reg) (rb : Reg)
  /-- `lv.subus.h rD,rA,rB`: R797 -/
  | lvSubusH (rd : Reg) (ra : Reg) (rb : Reg)
  /-- `lv.unpack.b rD,rA,rB`: R798 -/
  | lvUnpackB (rd : Reg) (ra : Reg) (rb : Reg)
  /-- `lv.unpack.h rD,rA,rB`: R799 -/
  | lvUnpackH (rd : Reg) (ra : Reg) (rb : Reg)
  /-- `lv.xor rD,rA,rB`: R800 -/
  | lvXor (rd : Reg) (ra : Reg) (rb : Reg)
  /-- `lv.cust1`: R801 -/
  | lvCust1
  /-- `lv.cust2`: R802 -/
  | lvCust2
  /-- `lv.cust3`: R803 -/
  | lvCust3
  /-- `lv.cust4`: R804 -/
  | lvCust4
  /-- `l.cust1`: R571 -/
  | lCust1
  /-- `l.cust2`: R571 -/
  | lCust2
  /-- `l.cust3`: R571 -/
  | lCust3
  /-- `l.cust4`: R571 -/
  | lCust4
  /-- `l.cust5 rD,rA,rB,L,K`: R571 -/
  | lCust5 (rd : Reg) (ra : Reg) (rb : Reg) (l : BitVec 6) (k : BitVec 5)
  /-- `l.cust6`: R571 -/
  | lCust6
  /-- `l.cust7`: R571 -/
  | lCust7
  /-- `l.cust8`: R571 -/
  | lCust8
  deriving DecidableEq, Repr

end Sys2Proof
end

