-- ==== Sys2Proof/Decode.lean ====
section
/-! DEFINITION. Decoding and encoding (30_encoding.md R300-R333).

`opcodeTable` reads like spec/opcode_table.json: a word `w` is the instruction of a row when `w AND mask = pattern`; no
two rows overlap (`Sys2Proof.Laws.opcodeTable_disjoint`), so the first match is the only one. Reserved bits are outside the masks:
they are ignored on decoding (R330, 92_eei_decisions.md D17) and written as zero by `encode`. -/

namespace Sys2Proof

/-- The D field, bits 25:21 (R302). -/
def fieldD (w : Word32) : Reg := w.extractLsb' 21 5

/-- The A field, bits 20:16 (R302). -/
def fieldA (w : Word32) : Reg := w.extractLsb' 16 5

/-- The B field, bits 15:11 (R302). -/
def fieldB (w : Word32) : Reg := w.extractLsb' 11 5

/-- The contiguous 16-bit immediate I or K, bits 15:0 (R302). -/
def fieldI (w : Word32) : BitVec 16 := w.extractLsb' 0 16

/-- The split 16-bit immediate of the stores and of `l.mtspr`: bits 25:21 are its high part, bits 10:0 its low part
(R304). PRESUMED by the spec itself: "from general knowledge, not in source". -/
def fieldS (w : Word32) : BitVec 16 := w.extractLsb' 21 5 ++ w.extractLsb' 0 11

/-- The jump offset N, bits 25:0 (R302). -/
def fieldN (w : Word32) : BitVec 26 := w.extractLsb' 0 26

/-- The shift amount L, bits 5:0 (R302). -/
def fieldL (w : Word32) : BitVec 6 := w.extractLsb' 0 6

/-- The L field of `l.cust5`, bits 10:5 (R302). -/
def fieldCL (w : Word32) : BitVec 6 := w.extractLsb' 5 6

/-- The K field of `l.cust5`, bits 4:0 (R302). -/
def fieldCK (w : Word32) : BitVec 5 := w.extractLsb' 0 5

/-- A row of the opcode table: the fixed bits, where they stand, and the instruction read from a matching word. -/
structure OpRow where
  pattern : Word32
  mask : Word32
  build : Word32 → Instr

/-- Whether a word is an instruction of this row. -/
def OpRow.hits (r : OpRow) (w : Word32) : Bool := (w &&& r.mask) == r.pattern

/-- Rows 0 to 31 of the opcode table. -/
def opcodeRows0 : List OpRow := [
  ⟨0xE0000000, 0xFC00030F, fun w => .lAdd (fieldD w) (fieldA w) (fieldB w)⟩,
  ⟨0xE0000001, 0xFC00030F, fun w => .lAddc (fieldD w) (fieldA w) (fieldB w)⟩,
  ⟨0x9C000000, 0xFC000000, fun w => .lAddi (fieldD w) (fieldA w) (fieldI w)⟩,
  ⟨0xA0000000, 0xFC000000, fun w => .lAddic (fieldD w) (fieldA w) (fieldI w)⟩,
  ⟨0xE0000002, 0xFC00030F, fun w => .lSub (fieldD w) (fieldA w) (fieldB w)⟩,
  ⟨0xE0000306, 0xFC00030F, fun w => .lMul (fieldD w) (fieldA w) (fieldB w)⟩,
  ⟨0xB0000000, 0xFC000000, fun w => .lMuli (fieldD w) (fieldA w) (fieldI w)⟩,
  ⟨0xE000030B, 0xFC00030F, fun w => .lMulu (fieldD w) (fieldA w) (fieldB w)⟩,
  ⟨0xE0000309, 0xFC00030F, fun w => .lDiv (fieldD w) (fieldA w) (fieldB w)⟩,
  ⟨0xE000030A, 0xFC00030F, fun w => .lDivu (fieldD w) (fieldA w) (fieldB w)⟩,
  ⟨0xC4000001, 0xFC00000F, fun w => .lMac (fieldA w) (fieldB w)⟩,
  ⟨0x4C000000, 0xFC000000, fun w => .lMaci (fieldA w) (fieldI w)⟩,
  ⟨0xC4000003, 0xFC00000F, fun w => .lMacu (fieldA w) (fieldB w)⟩,
  ⟨0xC4000002, 0xFC00000F, fun w => .lMsb (fieldA w) (fieldB w)⟩,
  ⟨0xC4000004, 0xFC00000F, fun w => .lMsbu (fieldA w) (fieldB w)⟩,
  ⟨0x18010000, 0xFC01FFFF, fun w => .lMacrc (fieldD w)⟩,
  ⟨0xE0000307, 0xFC00030F, fun w => .lMuld (fieldA w) (fieldB w)⟩,
  ⟨0xE000030C, 0xFC00030F, fun w => .lMuldu (fieldA w) (fieldB w)⟩,
  ⟨0xE000000E, 0xFC00030F, fun w => .lCmov (fieldD w) (fieldA w) (fieldB w)⟩,
  ⟨0xE000000F, 0xFC00030F, fun w => .lFf1 (fieldD w) (fieldA w)⟩,
  ⟨0xE000010F, 0xFC00030F, fun w => .lFl1 (fieldD w) (fieldA w)⟩,
  ⟨0xE0000003, 0xFC00030F, fun w => .lAnd (fieldD w) (fieldA w) (fieldB w)⟩,
  ⟨0xA4000000, 0xFC000000, fun w => .lAndi (fieldD w) (fieldA w) (fieldI w)⟩,
  ⟨0xE0000004, 0xFC00030F, fun w => .lOr (fieldD w) (fieldA w) (fieldB w)⟩,
  ⟨0xA8000000, 0xFC000000, fun w => .lOri (fieldD w) (fieldA w) (fieldI w)⟩,
  ⟨0xE0000005, 0xFC00030F, fun w => .lXor (fieldD w) (fieldA w) (fieldB w)⟩,
  ⟨0xAC000000, 0xFC000000, fun w => .lXori (fieldD w) (fieldA w) (fieldI w)⟩,
  ⟨0xE0000008, 0xFC0003CF, fun w => .lSll (fieldD w) (fieldA w) (fieldB w)⟩,
  ⟨0xB8000000, 0xFC0000C0, fun w => .lSlli (fieldD w) (fieldA w) (fieldL w)⟩,
  ⟨0xE0000048, 0xFC0003CF, fun w => .lSrl (fieldD w) (fieldA w) (fieldB w)⟩,
  ⟨0xB8000040, 0xFC0000C0, fun w => .lSrli (fieldD w) (fieldA w) (fieldL w)⟩,
  ⟨0xE0000088, 0xFC0003CF, fun w => .lSra (fieldD w) (fieldA w) (fieldB w)⟩]

/-- Rows 32 to 63 of the opcode table. -/
def opcodeRows1 : List OpRow := [
  ⟨0xB8000080, 0xFC0000C0, fun w => .lSrai (fieldD w) (fieldA w) (fieldL w)⟩,
  ⟨0xE00000C8, 0xFC0003CF, fun w => .lRor (fieldD w) (fieldA w) (fieldB w)⟩,
  ⟨0xB80000C0, 0xFC0000C0, fun w => .lRori (fieldD w) (fieldA w) (fieldL w)⟩,
  ⟨0xE000004C, 0xFC0003CF, fun w => .lExtbs (fieldD w) (fieldA w)⟩,
  ⟨0xE00000CC, 0xFC0003CF, fun w => .lExtbz (fieldD w) (fieldA w)⟩,
  ⟨0xE000000C, 0xFC0003CF, fun w => .lExths (fieldD w) (fieldA w)⟩,
  ⟨0xE000008C, 0xFC0003CF, fun w => .lExthz (fieldD w) (fieldA w)⟩,
  ⟨0xE000000D, 0xFC0003CF, fun w => .lExtws (fieldD w) (fieldA w)⟩,
  ⟨0xE000004D, 0xFC0003CF, fun w => .lExtwz (fieldD w) (fieldA w)⟩,
  ⟨0x18000000, 0xFC010000, fun w => .lMovhi (fieldD w) (fieldI w)⟩,
  ⟨0xE4000000, 0xFFE00000, fun w => .lSfeq (fieldA w) (fieldB w)⟩,
  ⟨0xE4200000, 0xFFE00000, fun w => .lSfne (fieldA w) (fieldB w)⟩,
  ⟨0xE4400000, 0xFFE00000, fun w => .lSfgtu (fieldA w) (fieldB w)⟩,
  ⟨0xE4600000, 0xFFE00000, fun w => .lSfgeu (fieldA w) (fieldB w)⟩,
  ⟨0xE4800000, 0xFFE00000, fun w => .lSfltu (fieldA w) (fieldB w)⟩,
  ⟨0xE4A00000, 0xFFE00000, fun w => .lSfleu (fieldA w) (fieldB w)⟩,
  ⟨0xE5400000, 0xFFE00000, fun w => .lSfgts (fieldA w) (fieldB w)⟩,
  ⟨0xE5600000, 0xFFE00000, fun w => .lSfges (fieldA w) (fieldB w)⟩,
  ⟨0xE5800000, 0xFFE00000, fun w => .lSflts (fieldA w) (fieldB w)⟩,
  ⟨0xE5A00000, 0xFFE00000, fun w => .lSfles (fieldA w) (fieldB w)⟩,
  ⟨0xBC000000, 0xFFE00000, fun w => .lSfeqi (fieldA w) (fieldI w)⟩,
  ⟨0xBC200000, 0xFFE00000, fun w => .lSfnei (fieldA w) (fieldI w)⟩,
  ⟨0xBC400000, 0xFFE00000, fun w => .lSfgtui (fieldA w) (fieldI w)⟩,
  ⟨0xBC600000, 0xFFE00000, fun w => .lSfgeui (fieldA w) (fieldI w)⟩,
  ⟨0xBC800000, 0xFFE00000, fun w => .lSfltui (fieldA w) (fieldI w)⟩,
  ⟨0xBCA00000, 0xFFE00000, fun w => .lSfleui (fieldA w) (fieldI w)⟩,
  ⟨0xBD400000, 0xFFE00000, fun w => .lSfgtsi (fieldA w) (fieldI w)⟩,
  ⟨0xBD600000, 0xFFE00000, fun w => .lSfgesi (fieldA w) (fieldI w)⟩,
  ⟨0xBD800000, 0xFFE00000, fun w => .lSfltsi (fieldA w) (fieldI w)⟩,
  ⟨0xBDA00000, 0xFFE00000, fun w => .lSflesi (fieldA w) (fieldI w)⟩,
  ⟨0x8C000000, 0xFC000000, fun w => .lLbz (fieldD w) (fieldA w) (fieldI w)⟩,
  ⟨0x90000000, 0xFC000000, fun w => .lLbs (fieldD w) (fieldA w) (fieldI w)⟩]

/-- Rows 64 to 95 of the opcode table. -/
def opcodeRows2 : List OpRow := [
  ⟨0x94000000, 0xFC000000, fun w => .lLhz (fieldD w) (fieldA w) (fieldI w)⟩,
  ⟨0x98000000, 0xFC000000, fun w => .lLhs (fieldD w) (fieldA w) (fieldI w)⟩,
  ⟨0x84000000, 0xFC000000, fun w => .lLwz (fieldD w) (fieldA w) (fieldI w)⟩,
  ⟨0x88000000, 0xFC000000, fun w => .lLws (fieldD w) (fieldA w) (fieldI w)⟩,
  ⟨0x80000000, 0xFC000000, fun w => .lLd (fieldD w) (fieldA w) (fieldI w)⟩,
  ⟨0x6C000000, 0xFC000000, fun w => .lLwa (fieldD w) (fieldA w) (fieldI w)⟩,
  ⟨0xD8000000, 0xFC000000, fun w => .lSb (fieldA w) (fieldB w) (fieldS w)⟩,
  ⟨0xDC000000, 0xFC000000, fun w => .lSh (fieldA w) (fieldB w) (fieldS w)⟩,
  ⟨0xD4000000, 0xFC000000, fun w => .lSw (fieldA w) (fieldB w) (fieldS w)⟩,
  ⟨0xD0000000, 0xFC000000, fun w => .lSd (fieldA w) (fieldB w) (fieldS w)⟩,
  ⟨0xCC000000, 0xFC000000, fun w => .lSwa (fieldA w) (fieldB w) (fieldS w)⟩,
  ⟨0x00000000, 0xFC000000, fun w => .lJ (fieldN w)⟩,
  ⟨0x04000000, 0xFC000000, fun w => .lJal (fieldN w)⟩,
  ⟨0x44000000, 0xFC000000, fun w => .lJr (fieldB w)⟩,
  ⟨0x48000000, 0xFC000000, fun w => .lJalr (fieldB w)⟩,
  ⟨0x10000000, 0xFC000000, fun w => .lBf (fieldN w)⟩,
  ⟨0x0C000000, 0xFC000000, fun w => .lBnf (fieldN w)⟩,
  ⟨0x15000000, 0xFF000000, fun w => .lNop (fieldI w)⟩,
  ⟨0x20000000, 0xFFFF0000, fun w => .lSys (fieldI w)⟩,
  ⟨0x21000000, 0xFFFF0000, fun w => .lTrap (fieldI w)⟩,
  ⟨0x24000000, 0xFC000000, fun _ => .lRfe⟩,
  ⟨0xC0000000, 0xFC000000, fun w => .lMtspr (fieldA w) (fieldB w) (fieldS w)⟩,
  ⟨0xB4000000, 0xFC000000, fun w => .lMfspr (fieldD w) (fieldA w) (fieldI w)⟩,
  ⟨0x22000000, 0xFFFFFFFF, fun _ => .lMsync⟩,
  ⟨0x23000000, 0xFFFFFFFF, fun _ => .lCsync⟩,
  ⟨0x22800000, 0xFFFFFFFF, fun _ => .lPsync⟩,
  ⟨0xC8000000, 0xFC0000FF, fun w => .lfAddS (fieldD w) (fieldA w) (fieldB w)⟩,
  ⟨0xC8000001, 0xFC0000FF, fun w => .lfSubS (fieldD w) (fieldA w) (fieldB w)⟩,
  ⟨0xC8000002, 0xFC0000FF, fun w => .lfMulS (fieldD w) (fieldA w) (fieldB w)⟩,
  ⟨0xC8000003, 0xFC0000FF, fun w => .lfDivS (fieldD w) (fieldA w) (fieldB w)⟩,
  ⟨0xC8000006, 0xFC0000FF, fun w => .lfRemS (fieldD w) (fieldA w) (fieldB w)⟩,
  ⟨0xC8000007, 0xFC0000FF, fun w => .lfMaddS (fieldD w) (fieldA w) (fieldB w)⟩]

/-- Rows 96 to 127 of the opcode table. -/
def opcodeRows3 : List OpRow := [
  ⟨0xC8000004, 0xFC00F8FF, fun w => .lfItofS (fieldD w) (fieldA w)⟩,
  ⟨0xC8000005, 0xFC00F8FF, fun w => .lfFtoiS (fieldD w) (fieldA w)⟩,
  ⟨0xC8000008, 0xFC0000FF, fun w => .lfSfeqS (fieldA w) (fieldB w)⟩,
  ⟨0xC8000009, 0xFC0000FF, fun w => .lfSfneS (fieldA w) (fieldB w)⟩,
  ⟨0xC800000A, 0xFC0000FF, fun w => .lfSfgtS (fieldA w) (fieldB w)⟩,
  ⟨0xC800000B, 0xFC0000FF, fun w => .lfSfgeS (fieldA w) (fieldB w)⟩,
  ⟨0xC800000C, 0xFC0000FF, fun w => .lfSfltS (fieldA w) (fieldB w)⟩,
  ⟨0xC800000D, 0xFC0000FF, fun w => .lfSfleS (fieldA w) (fieldB w)⟩,
  ⟨0xC80000D0, 0xFC0000F0, fun w => .lfCust1S (fieldA w) (fieldB w)⟩,
  ⟨0xC8000010, 0xFC0000FF, fun w => .lfAddD (fieldD w) (fieldA w) (fieldB w)⟩,
  ⟨0xC8000011, 0xFC0000FF, fun w => .lfSubD (fieldD w) (fieldA w) (fieldB w)⟩,
  ⟨0xC8000012, 0xFC0000FF, fun w => .lfMulD (fieldD w) (fieldA w) (fieldB w)⟩,
  ⟨0xC8000013, 0xFC0000FF, fun w => .lfDivD (fieldD w) (fieldA w) (fieldB w)⟩,
  ⟨0xC8000016, 0xFC0000FF, fun w => .lfRemD (fieldD w) (fieldA w) (fieldB w)⟩,
  ⟨0xC8000017, 0xFC0000FF, fun w => .lfMaddD (fieldD w) (fieldA w) (fieldB w)⟩,
  ⟨0xC8000014, 0xFC00F8FF, fun w => .lfItofD (fieldD w) (fieldA w)⟩,
  ⟨0xC8000015, 0xFC00F8FF, fun w => .lfFtoiD (fieldD w) (fieldA w)⟩,
  ⟨0xC8000018, 0xFC0000FF, fun w => .lfSfeqD (fieldA w) (fieldB w)⟩,
  ⟨0xC8000019, 0xFC0000FF, fun w => .lfSfneD (fieldA w) (fieldB w)⟩,
  ⟨0xC800001A, 0xFC0000FF, fun w => .lfSfgtD (fieldA w) (fieldB w)⟩,
  ⟨0xC800001B, 0xFC0000FF, fun w => .lfSfgeD (fieldA w) (fieldB w)⟩,
  ⟨0xC800001C, 0xFC0000FF, fun w => .lfSfltD (fieldA w) (fieldB w)⟩,
  ⟨0xC800001D, 0xFC0000FF, fun w => .lfSfleD (fieldA w) (fieldB w)⟩,
  ⟨0xC80000E0, 0xFC0000F0, fun w => .lfCust1D (fieldA w) (fieldB w)⟩,
  ⟨0x28000030, 0xFC0000FF, fun w => .lvAddB (fieldD w) (fieldA w) (fieldB w)⟩,
  ⟨0x28000031, 0xFC0000FF, fun w => .lvAddH (fieldD w) (fieldA w) (fieldB w)⟩,
  ⟨0x28000032, 0xFC0000FF, fun w => .lvAddsB (fieldD w) (fieldA w) (fieldB w)⟩,
  ⟨0x28000033, 0xFC0000FF, fun w => .lvAddsH (fieldD w) (fieldA w) (fieldB w)⟩,
  ⟨0x28000034, 0xFC0000FF, fun w => .lvAdduB (fieldD w) (fieldA w) (fieldB w)⟩,
  ⟨0x28000035, 0xFC0000FF, fun w => .lvAdduH (fieldD w) (fieldA w) (fieldB w)⟩,
  ⟨0x28000036, 0xFC0000FF, fun w => .lvAddusB (fieldD w) (fieldA w) (fieldB w)⟩,
  ⟨0x28000037, 0xFC0000FF, fun w => .lvAddusH (fieldD w) (fieldA w) (fieldB w)⟩]

/-- Rows 128 to 159 of the opcode table. -/
def opcodeRows4 : List OpRow := [
  ⟨0x28000010, 0xFC0000FF, fun w => .lvAllEqB (fieldD w) (fieldA w) (fieldB w)⟩,
  ⟨0x28000011, 0xFC0000FF, fun w => .lvAllEqH (fieldD w) (fieldA w) (fieldB w)⟩,
  ⟨0x28000012, 0xFC0000FF, fun w => .lvAllGeB (fieldD w) (fieldA w) (fieldB w)⟩,
  ⟨0x28000013, 0xFC0000FF, fun w => .lvAllGeH (fieldD w) (fieldA w) (fieldB w)⟩,
  ⟨0x28000014, 0xFC0000FF, fun w => .lvAllGtB (fieldD w) (fieldA w) (fieldB w)⟩,
  ⟨0x28000015, 0xFC0000FF, fun w => .lvAllGtH (fieldD w) (fieldA w) (fieldB w)⟩,
  ⟨0x28000016, 0xFC0000FF, fun w => .lvAllLeB (fieldD w) (fieldA w) (fieldB w)⟩,
  ⟨0x28000017, 0xFC0000FF, fun w => .lvAllLeH (fieldD w) (fieldA w) (fieldB w)⟩,
  ⟨0x28000018, 0xFC0000FF, fun w => .lvAllLtB (fieldD w) (fieldA w) (fieldB w)⟩,
  ⟨0x28000019, 0xFC0000FF, fun w => .lvAllLtH (fieldD w) (fieldA w) (fieldB w)⟩,
  ⟨0x2800001A, 0xFC0000FF, fun w => .lvAllNeB (fieldD w) (fieldA w) (fieldB w)⟩,
  ⟨0x2800001B, 0xFC0000FF, fun w => .lvAllNeH (fieldD w) (fieldA w) (fieldB w)⟩,
  ⟨0x28000020, 0xFC0000FF, fun w => .lvAnyEqB (fieldD w) (fieldA w) (fieldB w)⟩,
  ⟨0x28000021, 0xFC0000FF, fun w => .lvAnyEqH (fieldD w) (fieldA w) (fieldB w)⟩,
  ⟨0x28000022, 0xFC0000FF, fun w => .lvAnyGeB (fieldD w) (fieldA w) (fieldB w)⟩,
  ⟨0x28000023, 0xFC0000FF, fun w => .lvAnyGeH (fieldD w) (fieldA w) (fieldB w)⟩,
  ⟨0x28000024, 0xFC0000FF, fun w => .lvAnyGtB (fieldD w) (fieldA w) (fieldB w)⟩,
  ⟨0x28000025, 0xFC0000FF, fun w => .lvAnyGtH (fieldD w) (fieldA w) (fieldB w)⟩,
  ⟨0x28000026, 0xFC0000FF, fun w => .lvAnyLeB (fieldD w) (fieldA w) (fieldB w)⟩,
  ⟨0x28000027, 0xFC0000FF, fun w => .lvAnyLeH (fieldD w) (fieldA w) (fieldB w)⟩,
  ⟨0x28000028, 0xFC0000FF, fun w => .lvAnyLtB (fieldD w) (fieldA w) (fieldB w)⟩,
  ⟨0x28000029, 0xFC0000FF, fun w => .lvAnyLtH (fieldD w) (fieldA w) (fieldB w)⟩,
  ⟨0x2800002A, 0xFC0000FF, fun w => .lvAnyNeB (fieldD w) (fieldA w) (fieldB w)⟩,
  ⟨0x2800002B, 0xFC0000FF, fun w => .lvAnyNeH (fieldD w) (fieldA w) (fieldB w)⟩,
  ⟨0x28000038, 0xFC0000FF, fun w => .lvAnd (fieldD w) (fieldA w) (fieldB w)⟩,
  ⟨0x28000039, 0xFC0000FF, fun w => .lvAvgB (fieldD w) (fieldA w) (fieldB w)⟩,
  ⟨0x2800003A, 0xFC0000FF, fun w => .lvAvgH (fieldD w) (fieldA w) (fieldB w)⟩,
  ⟨0x28000040, 0xFC0000FF, fun w => .lvCmpEqB (fieldD w) (fieldA w) (fieldB w)⟩,
  ⟨0x28000041, 0xFC0000FF, fun w => .lvCmpEqH (fieldD w) (fieldA w) (fieldB w)⟩,
  ⟨0x28000042, 0xFC0000FF, fun w => .lvCmpGeB (fieldD w) (fieldA w) (fieldB w)⟩,
  ⟨0x28000043, 0xFC0000FF, fun w => .lvCmpGeH (fieldD w) (fieldA w) (fieldB w)⟩,
  ⟨0x28000044, 0xFC0000FF, fun w => .lvCmpGtB (fieldD w) (fieldA w) (fieldB w)⟩]

/-- Rows 160 to 191 of the opcode table. -/
def opcodeRows5 : List OpRow := [
  ⟨0x28000045, 0xFC0000FF, fun w => .lvCmpGtH (fieldD w) (fieldA w) (fieldB w)⟩,
  ⟨0x28000046, 0xFC0000FF, fun w => .lvCmpLeB (fieldD w) (fieldA w) (fieldB w)⟩,
  ⟨0x28000047, 0xFC0000FF, fun w => .lvCmpLeH (fieldD w) (fieldA w) (fieldB w)⟩,
  ⟨0x28000048, 0xFC0000FF, fun w => .lvCmpLtB (fieldD w) (fieldA w) (fieldB w)⟩,
  ⟨0x28000049, 0xFC0000FF, fun w => .lvCmpLtH (fieldD w) (fieldA w) (fieldB w)⟩,
  ⟨0x2800004A, 0xFC0000FF, fun w => .lvCmpNeB (fieldD w) (fieldA w) (fieldB w)⟩,
  ⟨0x2800004B, 0xFC0000FF, fun w => .lvCmpNeH (fieldD w) (fieldA w) (fieldB w)⟩,
  ⟨0x28000054, 0xFC0000FF, fun w => .lvMaddsH (fieldD w) (fieldA w) (fieldB w)⟩,
  ⟨0x28000055, 0xFC0000FF, fun w => .lvMaxB (fieldD w) (fieldA w) (fieldB w)⟩,
  ⟨0x28000056, 0xFC0000FF, fun w => .lvMaxH (fieldD w) (fieldA w) (fieldB w)⟩,
  ⟨0x28000057, 0xFC0000FF, fun w => .lvMergeB (fieldD w) (fieldA w) (fieldB w)⟩,
  ⟨0x28000058, 0xFC0000FF, fun w => .lvMergeH (fieldD w) (fieldA w) (fieldB w)⟩,
  ⟨0x28000059, 0xFC0000FF, fun w => .lvMinB (fieldD w) (fieldA w) (fieldB w)⟩,
  ⟨0x2800005A, 0xFC0000FF, fun w => .lvMinH (fieldD w) (fieldA w) (fieldB w)⟩,
  ⟨0x2800005B, 0xFC0000FF, fun w => .lvMsubsH (fieldD w) (fieldA w) (fieldB w)⟩,
  ⟨0x2800005C, 0xFC0000FF, fun w => .lvMulsH (fieldD w) (fieldA w) (fieldB w)⟩,
  ⟨0x2800005D, 0xFC0000FF, fun w => .lvNand (fieldD w) (fieldA w) (fieldB w)⟩,
  ⟨0x2800005E, 0xFC0000FF, fun w => .lvNor (fieldD w) (fieldA w) (fieldB w)⟩,
  ⟨0x2800005F, 0xFC0000FF, fun w => .lvOr (fieldD w) (fieldA w) (fieldB w)⟩,
  ⟨0x28000060, 0xFC0000FF, fun w => .lvPackB (fieldD w) (fieldA w) (fieldB w)⟩,
  ⟨0x28000061, 0xFC0000FF, fun w => .lvPackH (fieldD w) (fieldA w) (fieldB w)⟩,
  ⟨0x28000062, 0xFC0000FF, fun w => .lvPacksB (fieldD w) (fieldA w) (fieldB w)⟩,
  ⟨0x28000063, 0xFC0000FF, fun w => .lvPacksH (fieldD w) (fieldA w) (fieldB w)⟩,
  ⟨0x28000064, 0xFC0000FF, fun w => .lvPackusB (fieldD w) (fieldA w) (fieldB w)⟩,
  ⟨0x28000065, 0xFC0000FF, fun w => .lvPackusH (fieldD w) (fieldA w) (fieldB w)⟩,
  ⟨0x28000066, 0xFC0000FF, fun w => .lvPermN (fieldD w) (fieldA w) (fieldB w)⟩,
  ⟨0x28000067, 0xFC0000FF, fun w => .lvRlB (fieldD w) (fieldA w) (fieldB w)⟩,
  ⟨0x28000068, 0xFC0000FF, fun w => .lvRlH (fieldD w) (fieldA w) (fieldB w)⟩,
  ⟨0x28000069, 0xFC0000FF, fun w => .lvSllB (fieldD w) (fieldA w) (fieldB w)⟩,
  ⟨0x2800006A, 0xFC0000FF, fun w => .lvSllH (fieldD w) (fieldA w) (fieldB w)⟩,
  ⟨0x2800006B, 0xFC0000FF, fun w => .lvSll (fieldD w) (fieldA w) (fieldB w)⟩,
  ⟨0x2800006C, 0xFC0000FF, fun w => .lvSrlB (fieldD w) (fieldA w) (fieldB w)⟩]

/-- Rows 192 to 218 of the opcode table. -/
def opcodeRows6 : List OpRow := [
  ⟨0x2800006D, 0xFC0000FF, fun w => .lvSrlH (fieldD w) (fieldA w) (fieldB w)⟩,
  ⟨0x2800006E, 0xFC0000FF, fun w => .lvSraB (fieldD w) (fieldA w) (fieldB w)⟩,
  ⟨0x2800006F, 0xFC0000FF, fun w => .lvSraH (fieldD w) (fieldA w) (fieldB w)⟩,
  ⟨0x28000070, 0xFC0000FF, fun w => .lvSrl (fieldD w) (fieldA w) (fieldB w)⟩,
  ⟨0x28000071, 0xFC0000FF, fun w => .lvSubB (fieldD w) (fieldA w) (fieldB w)⟩,
  ⟨0x28000072, 0xFC0000FF, fun w => .lvSubH (fieldD w) (fieldA w) (fieldB w)⟩,
  ⟨0x28000073, 0xFC0000FF, fun w => .lvSubsB (fieldD w) (fieldA w) (fieldB w)⟩,
  ⟨0x28000074, 0xFC0000FF, fun w => .lvSubsH (fieldD w) (fieldA w) (fieldB w)⟩,
  ⟨0x28000075, 0xFC0000FF, fun w => .lvSubuB (fieldD w) (fieldA w) (fieldB w)⟩,
  ⟨0x28000076, 0xFC0000FF, fun w => .lvSubuH (fieldD w) (fieldA w) (fieldB w)⟩,
  ⟨0x28000077, 0xFC0000FF, fun w => .lvSubusB (fieldD w) (fieldA w) (fieldB w)⟩,
  ⟨0x28000078, 0xFC0000FF, fun w => .lvSubusH (fieldD w) (fieldA w) (fieldB w)⟩,
  ⟨0x28000079, 0xFC0000FF, fun w => .lvUnpackB (fieldD w) (fieldA w) (fieldB w)⟩,
  ⟨0x2800007A, 0xFC0000FF, fun w => .lvUnpackH (fieldD w) (fieldA w) (fieldB w)⟩,
  ⟨0x2800007B, 0xFC0000FF, fun w => .lvXor (fieldD w) (fieldA w) (fieldB w)⟩,
  ⟨0x280000C0, 0xFC0000F0, fun _ => .lvCust1⟩,
  ⟨0x280000D0, 0xFC0000F0, fun _ => .lvCust2⟩,
  ⟨0x280000E0, 0xFC0000F0, fun _ => .lvCust3⟩,
  ⟨0x280000F0, 0xFC0000F0, fun _ => .lvCust4⟩,
  ⟨0x70000000, 0xFC000000, fun _ => .lCust1⟩,
  ⟨0x74000000, 0xFC000000, fun _ => .lCust2⟩,
  ⟨0x78000000, 0xFC000000, fun _ => .lCust3⟩,
  ⟨0x7C000000, 0xFC000000, fun _ => .lCust4⟩,
  ⟨0xF0000000, 0xFC000000, fun w => .lCust5 (fieldD w) (fieldA w) (fieldB w) (fieldCL w) (fieldCK w)⟩,
  ⟨0xF4000000, 0xFC000000, fun _ => .lCust6⟩,
  ⟨0xF8000000, 0xFC000000, fun _ => .lCust7⟩,
  ⟨0xFC000000, 0xFC000000, fun _ => .lCust8⟩]

/-- The opcode table, rows 0 to 218 in the order of spec/opcode_table.json. -/
def opcodeTable : List OpRow :=
  opcodeRows0 ++ opcodeRows1 ++ opcodeRows2 ++ opcodeRows3 ++ opcodeRows4 ++ opcodeRows5 ++ opcodeRows6

/-- Decode one instruction word; `none` where it matches no row (R331). -/
def decodeWord (w : Word32) : Option Instr :=
  match opcodeTable.find? (fun r => r.hits w) with
  | some r => some (r.build w)
  | none => none

/-- Why bytes are not an instruction. -/
inductive DecodeError where
  /-- fewer than the four bytes every instruction has (R300) -/
  | tooShort
  /-- the word matches no row of the opcode table: Illegal Instruction when executed (R331) -/
  | unallocated (w : Word32)
  deriving DecidableEq, Repr

/-- Decode the first four bytes, the lowest address first and most significant (R300); the rest is handed back. -/
def decodeBytes : List Byte → Except DecodeError (Instr × List Byte)
  | b0 :: b1 :: b2 :: b3 :: rest =>
    match decodeWord (b0 ++ b1 ++ b2 ++ b3) with
    | some i => .ok (i, rest)
    | none => .error (.unallocated (b0 ++ b1 ++ b2 ++ b3))
  | _ => .error .tooShort

/-- The four bytes of a word, most significant first (R300, 20_memory.md R202). -/
def wordBytes (w : Word32) : List Byte :=
  [w.extractLsb' 24 8, w.extractLsb' 16 8, w.extractLsb' 8 8, w.extractLsb' 0 8]

/-- The instruction the decoder reads from the opcode-table word `w` of `nbits` bits, laid out as memory holds it. -/
def decodeTableWord (nbits w : Nat) : Option Instr :=
  match decodeBytes (wordBytes (BitVec.ofNat 32 (w % 2 ^ nbits))) with
  | .ok (i, _) => some i
  | .error _ => none

/-! ## Encoding -/

/-- A D field in place. -/
def bitsD (d : Reg) : Word32 := d.setWidth 32 <<< 21

/-- An A field in place. -/
def bitsA (a : Reg) : Word32 := a.setWidth 32 <<< 16

/-- A B field in place. -/
def bitsB (b : Reg) : Word32 := b.setWidth 32 <<< 11

/-- A contiguous 16-bit immediate in place. -/
def bitsI (i : BitVec 16) : Word32 := i.setWidth 32

/-- A split 16-bit immediate in place (R304). -/
def bitsS (i : BitVec 16) : Word32 := (i.extractLsb' 11 5).setWidth 32 <<< 21 ||| (i.extractLsb' 0 11).setWidth 32

/-- A jump offset in place. -/
def bitsN (n : BitVec 26) : Word32 := n.setWidth 32

/-- A shift amount in place. -/
def bitsL (l : BitVec 6) : Word32 := l.setWidth 32

/-- The L field of `l.cust5` in place. -/
def bitsCL (l : BitVec 6) : Word32 := l.setWidth 32 <<< 5

/-- The K field of `l.cust5` in place. -/
def bitsCK (k : BitVec 5) : Word32 := k.setWidth 32

/-- The word of an instruction, its reserved bits zero (R302-R304, R330). -/
def encode : Instr → Word32
  | .lAdd rd ra rb => 0xE0000000 ||| bitsD rd ||| bitsA ra ||| bitsB rb
  | .lAddc rd ra rb => 0xE0000001 ||| bitsD rd ||| bitsA ra ||| bitsB rb
  | .lAddi rd ra i => 0x9C000000 ||| bitsD rd ||| bitsA ra ||| bitsI i
  | .lAddic rd ra i => 0xA0000000 ||| bitsD rd ||| bitsA ra ||| bitsI i
  | .lSub rd ra rb => 0xE0000002 ||| bitsD rd ||| bitsA ra ||| bitsB rb
  | .lMul rd ra rb => 0xE0000306 ||| bitsD rd ||| bitsA ra ||| bitsB rb
  | .lMuli rd ra i => 0xB0000000 ||| bitsD rd ||| bitsA ra ||| bitsI i
  | .lMulu rd ra rb => 0xE000030B ||| bitsD rd ||| bitsA ra ||| bitsB rb
  | .lDiv rd ra rb => 0xE0000309 ||| bitsD rd ||| bitsA ra ||| bitsB rb
  | .lDivu rd ra rb => 0xE000030A ||| bitsD rd ||| bitsA ra ||| bitsB rb
  | .lMac ra rb => 0xC4000001 ||| bitsA ra ||| bitsB rb
  | .lMaci ra i => 0x4C000000 ||| bitsA ra ||| bitsI i
  | .lMacu ra rb => 0xC4000003 ||| bitsA ra ||| bitsB rb
  | .lMsb ra rb => 0xC4000002 ||| bitsA ra ||| bitsB rb
  | .lMsbu ra rb => 0xC4000004 ||| bitsA ra ||| bitsB rb
  | .lMacrc rd => 0x18010000 ||| bitsD rd
  | .lMuld ra rb => 0xE0000307 ||| bitsA ra ||| bitsB rb
  | .lMuldu ra rb => 0xE000030C ||| bitsA ra ||| bitsB rb
  | .lCmov rd ra rb => 0xE000000E ||| bitsD rd ||| bitsA ra ||| bitsB rb
  | .lFf1 rd ra => 0xE000000F ||| bitsD rd ||| bitsA ra
  | .lFl1 rd ra => 0xE000010F ||| bitsD rd ||| bitsA ra
  | .lAnd rd ra rb => 0xE0000003 ||| bitsD rd ||| bitsA ra ||| bitsB rb
  | .lAndi rd ra k => 0xA4000000 ||| bitsD rd ||| bitsA ra ||| bitsI k
  | .lOr rd ra rb => 0xE0000004 ||| bitsD rd ||| bitsA ra ||| bitsB rb
  | .lOri rd ra k => 0xA8000000 ||| bitsD rd ||| bitsA ra ||| bitsI k
  | .lXor rd ra rb => 0xE0000005 ||| bitsD rd ||| bitsA ra ||| bitsB rb
  | .lXori rd ra i => 0xAC000000 ||| bitsD rd ||| bitsA ra ||| bitsI i
  | .lSll rd ra rb => 0xE0000008 ||| bitsD rd ||| bitsA ra ||| bitsB rb
  | .lSlli rd ra l => 0xB8000000 ||| bitsD rd ||| bitsA ra ||| bitsL l
  | .lSrl rd ra rb => 0xE0000048 ||| bitsD rd ||| bitsA ra ||| bitsB rb
  | .lSrli rd ra l => 0xB8000040 ||| bitsD rd ||| bitsA ra ||| bitsL l
  | .lSra rd ra rb => 0xE0000088 ||| bitsD rd ||| bitsA ra ||| bitsB rb
  | .lSrai rd ra l => 0xB8000080 ||| bitsD rd ||| bitsA ra ||| bitsL l
  | .lRor rd ra rb => 0xE00000C8 ||| bitsD rd ||| bitsA ra ||| bitsB rb
  | .lRori rd ra l => 0xB80000C0 ||| bitsD rd ||| bitsA ra ||| bitsL l
  | .lExtbs rd ra => 0xE000004C ||| bitsD rd ||| bitsA ra
  | .lExtbz rd ra => 0xE00000CC ||| bitsD rd ||| bitsA ra
  | .lExths rd ra => 0xE000000C ||| bitsD rd ||| bitsA ra
  | .lExthz rd ra => 0xE000008C ||| bitsD rd ||| bitsA ra
  | .lExtws rd ra => 0xE000000D ||| bitsD rd ||| bitsA ra
  | .lExtwz rd ra => 0xE000004D ||| bitsD rd ||| bitsA ra
  | .lMovhi rd k => 0x18000000 ||| bitsD rd ||| bitsI k
  | .lSfeq ra rb => 0xE4000000 ||| bitsA ra ||| bitsB rb
  | .lSfne ra rb => 0xE4200000 ||| bitsA ra ||| bitsB rb
  | .lSfgtu ra rb => 0xE4400000 ||| bitsA ra ||| bitsB rb
  | .lSfgeu ra rb => 0xE4600000 ||| bitsA ra ||| bitsB rb
  | .lSfltu ra rb => 0xE4800000 ||| bitsA ra ||| bitsB rb
  | .lSfleu ra rb => 0xE4A00000 ||| bitsA ra ||| bitsB rb
  | .lSfgts ra rb => 0xE5400000 ||| bitsA ra ||| bitsB rb
  | .lSfges ra rb => 0xE5600000 ||| bitsA ra ||| bitsB rb
  | .lSflts ra rb => 0xE5800000 ||| bitsA ra ||| bitsB rb
  | .lSfles ra rb => 0xE5A00000 ||| bitsA ra ||| bitsB rb
  | .lSfeqi ra i => 0xBC000000 ||| bitsA ra ||| bitsI i
  | .lSfnei ra i => 0xBC200000 ||| bitsA ra ||| bitsI i
  | .lSfgtui ra i => 0xBC400000 ||| bitsA ra ||| bitsI i
  | .lSfgeui ra i => 0xBC600000 ||| bitsA ra ||| bitsI i
  | .lSfltui ra i => 0xBC800000 ||| bitsA ra ||| bitsI i
  | .lSfleui ra i => 0xBCA00000 ||| bitsA ra ||| bitsI i
  | .lSfgtsi ra i => 0xBD400000 ||| bitsA ra ||| bitsI i
  | .lSfgesi ra i => 0xBD600000 ||| bitsA ra ||| bitsI i
  | .lSfltsi ra i => 0xBD800000 ||| bitsA ra ||| bitsI i
  | .lSflesi ra i => 0xBDA00000 ||| bitsA ra ||| bitsI i
  | .lLbz rd ra i => 0x8C000000 ||| bitsD rd ||| bitsA ra ||| bitsI i
  | .lLbs rd ra i => 0x90000000 ||| bitsD rd ||| bitsA ra ||| bitsI i
  | .lLhz rd ra i => 0x94000000 ||| bitsD rd ||| bitsA ra ||| bitsI i
  | .lLhs rd ra i => 0x98000000 ||| bitsD rd ||| bitsA ra ||| bitsI i
  | .lLwz rd ra i => 0x84000000 ||| bitsD rd ||| bitsA ra ||| bitsI i
  | .lLws rd ra i => 0x88000000 ||| bitsD rd ||| bitsA ra ||| bitsI i
  | .lLd rd ra i => 0x80000000 ||| bitsD rd ||| bitsA ra ||| bitsI i
  | .lLwa rd ra i => 0x6C000000 ||| bitsD rd ||| bitsA ra ||| bitsI i
  | .lSb ra rb i => 0xD8000000 ||| bitsA ra ||| bitsB rb ||| bitsS i
  | .lSh ra rb i => 0xDC000000 ||| bitsA ra ||| bitsB rb ||| bitsS i
  | .lSw ra rb i => 0xD4000000 ||| bitsA ra ||| bitsB rb ||| bitsS i
  | .lSd ra rb i => 0xD0000000 ||| bitsA ra ||| bitsB rb ||| bitsS i
  | .lSwa ra rb i => 0xCC000000 ||| bitsA ra ||| bitsB rb ||| bitsS i
  | .lJ n => 0x00000000 ||| bitsN n
  | .lJal n => 0x04000000 ||| bitsN n
  | .lJr rb => 0x44000000 ||| bitsB rb
  | .lJalr rb => 0x48000000 ||| bitsB rb
  | .lBf n => 0x10000000 ||| bitsN n
  | .lBnf n => 0x0C000000 ||| bitsN n
  | .lNop k => 0x15000000 ||| bitsI k
  | .lSys k => 0x20000000 ||| bitsI k
  | .lTrap k => 0x21000000 ||| bitsI k
  | .lRfe => 0x24000000
  | .lMtspr ra rb k => 0xC0000000 ||| bitsA ra ||| bitsB rb ||| bitsS k
  | .lMfspr rd ra k => 0xB4000000 ||| bitsD rd ||| bitsA ra ||| bitsI k
  | .lMsync => 0x22000000
  | .lCsync => 0x23000000
  | .lPsync => 0x22800000
  | .lfAddS rd ra rb => 0xC8000000 ||| bitsD rd ||| bitsA ra ||| bitsB rb
  | .lfSubS rd ra rb => 0xC8000001 ||| bitsD rd ||| bitsA ra ||| bitsB rb
  | .lfMulS rd ra rb => 0xC8000002 ||| bitsD rd ||| bitsA ra ||| bitsB rb
  | .lfDivS rd ra rb => 0xC8000003 ||| bitsD rd ||| bitsA ra ||| bitsB rb
  | .lfRemS rd ra rb => 0xC8000006 ||| bitsD rd ||| bitsA ra ||| bitsB rb
  | .lfMaddS rd ra rb => 0xC8000007 ||| bitsD rd ||| bitsA ra ||| bitsB rb
  | .lfItofS rd ra => 0xC8000004 ||| bitsD rd ||| bitsA ra
  | .lfFtoiS rd ra => 0xC8000005 ||| bitsD rd ||| bitsA ra
  | .lfSfeqS ra rb => 0xC8000008 ||| bitsA ra ||| bitsB rb
  | .lfSfneS ra rb => 0xC8000009 ||| bitsA ra ||| bitsB rb
  | .lfSfgtS ra rb => 0xC800000A ||| bitsA ra ||| bitsB rb
  | .lfSfgeS ra rb => 0xC800000B ||| bitsA ra ||| bitsB rb
  | .lfSfltS ra rb => 0xC800000C ||| bitsA ra ||| bitsB rb
  | .lfSfleS ra rb => 0xC800000D ||| bitsA ra ||| bitsB rb
  | .lfCust1S ra rb => 0xC80000D0 ||| bitsA ra ||| bitsB rb
  | .lfAddD rd ra rb => 0xC8000010 ||| bitsD rd ||| bitsA ra ||| bitsB rb
  | .lfSubD rd ra rb => 0xC8000011 ||| bitsD rd ||| bitsA ra ||| bitsB rb
  | .lfMulD rd ra rb => 0xC8000012 ||| bitsD rd ||| bitsA ra ||| bitsB rb
  | .lfDivD rd ra rb => 0xC8000013 ||| bitsD rd ||| bitsA ra ||| bitsB rb
  | .lfRemD rd ra rb => 0xC8000016 ||| bitsD rd ||| bitsA ra ||| bitsB rb
  | .lfMaddD rd ra rb => 0xC8000017 ||| bitsD rd ||| bitsA ra ||| bitsB rb
  | .lfItofD rd ra => 0xC8000014 ||| bitsD rd ||| bitsA ra
  | .lfFtoiD rd ra => 0xC8000015 ||| bitsD rd ||| bitsA ra
  | .lfSfeqD ra rb => 0xC8000018 ||| bitsA ra ||| bitsB rb
  | .lfSfneD ra rb => 0xC8000019 ||| bitsA ra ||| bitsB rb
  | .lfSfgtD ra rb => 0xC800001A ||| bitsA ra ||| bitsB rb
  | .lfSfgeD ra rb => 0xC800001B ||| bitsA ra ||| bitsB rb
  | .lfSfltD ra rb => 0xC800001C ||| bitsA ra ||| bitsB rb
  | .lfSfleD ra rb => 0xC800001D ||| bitsA ra ||| bitsB rb
  | .lfCust1D ra rb => 0xC80000E0 ||| bitsA ra ||| bitsB rb
  | .lvAddB rd ra rb => 0x28000030 ||| bitsD rd ||| bitsA ra ||| bitsB rb
  | .lvAddH rd ra rb => 0x28000031 ||| bitsD rd ||| bitsA ra ||| bitsB rb
  | .lvAddsB rd ra rb => 0x28000032 ||| bitsD rd ||| bitsA ra ||| bitsB rb
  | .lvAddsH rd ra rb => 0x28000033 ||| bitsD rd ||| bitsA ra ||| bitsB rb
  | .lvAdduB rd ra rb => 0x28000034 ||| bitsD rd ||| bitsA ra ||| bitsB rb
  | .lvAdduH rd ra rb => 0x28000035 ||| bitsD rd ||| bitsA ra ||| bitsB rb
  | .lvAddusB rd ra rb => 0x28000036 ||| bitsD rd ||| bitsA ra ||| bitsB rb
  | .lvAddusH rd ra rb => 0x28000037 ||| bitsD rd ||| bitsA ra ||| bitsB rb
  | .lvAllEqB rd ra rb => 0x28000010 ||| bitsD rd ||| bitsA ra ||| bitsB rb
  | .lvAllEqH rd ra rb => 0x28000011 ||| bitsD rd ||| bitsA ra ||| bitsB rb
  | .lvAllGeB rd ra rb => 0x28000012 ||| bitsD rd ||| bitsA ra ||| bitsB rb
  | .lvAllGeH rd ra rb => 0x28000013 ||| bitsD rd ||| bitsA ra ||| bitsB rb
  | .lvAllGtB rd ra rb => 0x28000014 ||| bitsD rd ||| bitsA ra ||| bitsB rb
  | .lvAllGtH rd ra rb => 0x28000015 ||| bitsD rd ||| bitsA ra ||| bitsB rb
  | .lvAllLeB rd ra rb => 0x28000016 ||| bitsD rd ||| bitsA ra ||| bitsB rb
  | .lvAllLeH rd ra rb => 0x28000017 ||| bitsD rd ||| bitsA ra ||| bitsB rb
  | .lvAllLtB rd ra rb => 0x28000018 ||| bitsD rd ||| bitsA ra ||| bitsB rb
  | .lvAllLtH rd ra rb => 0x28000019 ||| bitsD rd ||| bitsA ra ||| bitsB rb
  | .lvAllNeB rd ra rb => 0x2800001A ||| bitsD rd ||| bitsA ra ||| bitsB rb
  | .lvAllNeH rd ra rb => 0x2800001B ||| bitsD rd ||| bitsA ra ||| bitsB rb
  | .lvAnyEqB rd ra rb => 0x28000020 ||| bitsD rd ||| bitsA ra ||| bitsB rb
  | .lvAnyEqH rd ra rb => 0x28000021 ||| bitsD rd ||| bitsA ra ||| bitsB rb
  | .lvAnyGeB rd ra rb => 0x28000022 ||| bitsD rd ||| bitsA ra ||| bitsB rb
  | .lvAnyGeH rd ra rb => 0x28000023 ||| bitsD rd ||| bitsA ra ||| bitsB rb
  | .lvAnyGtB rd ra rb => 0x28000024 ||| bitsD rd ||| bitsA ra ||| bitsB rb
  | .lvAnyGtH rd ra rb => 0x28000025 ||| bitsD rd ||| bitsA ra ||| bitsB rb
  | .lvAnyLeB rd ra rb => 0x28000026 ||| bitsD rd ||| bitsA ra ||| bitsB rb
  | .lvAnyLeH rd ra rb => 0x28000027 ||| bitsD rd ||| bitsA ra ||| bitsB rb
  | .lvAnyLtB rd ra rb => 0x28000028 ||| bitsD rd ||| bitsA ra ||| bitsB rb
  | .lvAnyLtH rd ra rb => 0x28000029 ||| bitsD rd ||| bitsA ra ||| bitsB rb
  | .lvAnyNeB rd ra rb => 0x2800002A ||| bitsD rd ||| bitsA ra ||| bitsB rb
  | .lvAnyNeH rd ra rb => 0x2800002B ||| bitsD rd ||| bitsA ra ||| bitsB rb
  | .lvAnd rd ra rb => 0x28000038 ||| bitsD rd ||| bitsA ra ||| bitsB rb
  | .lvAvgB rd ra rb => 0x28000039 ||| bitsD rd ||| bitsA ra ||| bitsB rb
  | .lvAvgH rd ra rb => 0x2800003A ||| bitsD rd ||| bitsA ra ||| bitsB rb
  | .lvCmpEqB rd ra rb => 0x28000040 ||| bitsD rd ||| bitsA ra ||| bitsB rb
  | .lvCmpEqH rd ra rb => 0x28000041 ||| bitsD rd ||| bitsA ra ||| bitsB rb
  | .lvCmpGeB rd ra rb => 0x28000042 ||| bitsD rd ||| bitsA ra ||| bitsB rb
  | .lvCmpGeH rd ra rb => 0x28000043 ||| bitsD rd ||| bitsA ra ||| bitsB rb
  | .lvCmpGtB rd ra rb => 0x28000044 ||| bitsD rd ||| bitsA ra ||| bitsB rb
  | .lvCmpGtH rd ra rb => 0x28000045 ||| bitsD rd ||| bitsA ra ||| bitsB rb
  | .lvCmpLeB rd ra rb => 0x28000046 ||| bitsD rd ||| bitsA ra ||| bitsB rb
  | .lvCmpLeH rd ra rb => 0x28000047 ||| bitsD rd ||| bitsA ra ||| bitsB rb
  | .lvCmpLtB rd ra rb => 0x28000048 ||| bitsD rd ||| bitsA ra ||| bitsB rb
  | .lvCmpLtH rd ra rb => 0x28000049 ||| bitsD rd ||| bitsA ra ||| bitsB rb
  | .lvCmpNeB rd ra rb => 0x2800004A ||| bitsD rd ||| bitsA ra ||| bitsB rb
  | .lvCmpNeH rd ra rb => 0x2800004B ||| bitsD rd ||| bitsA ra ||| bitsB rb
  | .lvMaddsH rd ra rb => 0x28000054 ||| bitsD rd ||| bitsA ra ||| bitsB rb
  | .lvMaxB rd ra rb => 0x28000055 ||| bitsD rd ||| bitsA ra ||| bitsB rb
  | .lvMaxH rd ra rb => 0x28000056 ||| bitsD rd ||| bitsA ra ||| bitsB rb
  | .lvMergeB rd ra rb => 0x28000057 ||| bitsD rd ||| bitsA ra ||| bitsB rb
  | .lvMergeH rd ra rb => 0x28000058 ||| bitsD rd ||| bitsA ra ||| bitsB rb
  | .lvMinB rd ra rb => 0x28000059 ||| bitsD rd ||| bitsA ra ||| bitsB rb
  | .lvMinH rd ra rb => 0x2800005A ||| bitsD rd ||| bitsA ra ||| bitsB rb
  | .lvMsubsH rd ra rb => 0x2800005B ||| bitsD rd ||| bitsA ra ||| bitsB rb
  | .lvMulsH rd ra rb => 0x2800005C ||| bitsD rd ||| bitsA ra ||| bitsB rb
  | .lvNand rd ra rb => 0x2800005D ||| bitsD rd ||| bitsA ra ||| bitsB rb
  | .lvNor rd ra rb => 0x2800005E ||| bitsD rd ||| bitsA ra ||| bitsB rb
  | .lvOr rd ra rb => 0x2800005F ||| bitsD rd ||| bitsA ra ||| bitsB rb
  | .lvPackB rd ra rb => 0x28000060 ||| bitsD rd ||| bitsA ra ||| bitsB rb
  | .lvPackH rd ra rb => 0x28000061 ||| bitsD rd ||| bitsA ra ||| bitsB rb
  | .lvPacksB rd ra rb => 0x28000062 ||| bitsD rd ||| bitsA ra ||| bitsB rb
  | .lvPacksH rd ra rb => 0x28000063 ||| bitsD rd ||| bitsA ra ||| bitsB rb
  | .lvPackusB rd ra rb => 0x28000064 ||| bitsD rd ||| bitsA ra ||| bitsB rb
  | .lvPackusH rd ra rb => 0x28000065 ||| bitsD rd ||| bitsA ra ||| bitsB rb
  | .lvPermN rd ra rb => 0x28000066 ||| bitsD rd ||| bitsA ra ||| bitsB rb
  | .lvRlB rd ra rb => 0x28000067 ||| bitsD rd ||| bitsA ra ||| bitsB rb
  | .lvRlH rd ra rb => 0x28000068 ||| bitsD rd ||| bitsA ra ||| bitsB rb
  | .lvSllB rd ra rb => 0x28000069 ||| bitsD rd ||| bitsA ra ||| bitsB rb
  | .lvSllH rd ra rb => 0x2800006A ||| bitsD rd ||| bitsA ra ||| bitsB rb
  | .lvSll rd ra rb => 0x2800006B ||| bitsD rd ||| bitsA ra ||| bitsB rb
  | .lvSrlB rd ra rb => 0x2800006C ||| bitsD rd ||| bitsA ra ||| bitsB rb
  | .lvSrlH rd ra rb => 0x2800006D ||| bitsD rd ||| bitsA ra ||| bitsB rb
  | .lvSraB rd ra rb => 0x2800006E ||| bitsD rd ||| bitsA ra ||| bitsB rb
  | .lvSraH rd ra rb => 0x2800006F ||| bitsD rd ||| bitsA ra ||| bitsB rb
  | .lvSrl rd ra rb => 0x28000070 ||| bitsD rd ||| bitsA ra ||| bitsB rb
  | .lvSubB rd ra rb => 0x28000071 ||| bitsD rd ||| bitsA ra ||| bitsB rb
  | .lvSubH rd ra rb => 0x28000072 ||| bitsD rd ||| bitsA ra ||| bitsB rb
  | .lvSubsB rd ra rb => 0x28000073 ||| bitsD rd ||| bitsA ra ||| bitsB rb
  | .lvSubsH rd ra rb => 0x28000074 ||| bitsD rd ||| bitsA ra ||| bitsB rb
  | .lvSubuB rd ra rb => 0x28000075 ||| bitsD rd ||| bitsA ra ||| bitsB rb
  | .lvSubuH rd ra rb => 0x28000076 ||| bitsD rd ||| bitsA ra ||| bitsB rb
  | .lvSubusB rd ra rb => 0x28000077 ||| bitsD rd ||| bitsA ra ||| bitsB rb
  | .lvSubusH rd ra rb => 0x28000078 ||| bitsD rd ||| bitsA ra ||| bitsB rb
  | .lvUnpackB rd ra rb => 0x28000079 ||| bitsD rd ||| bitsA ra ||| bitsB rb
  | .lvUnpackH rd ra rb => 0x2800007A ||| bitsD rd ||| bitsA ra ||| bitsB rb
  | .lvXor rd ra rb => 0x2800007B ||| bitsD rd ||| bitsA ra ||| bitsB rb
  | .lvCust1 => 0x280000C0
  | .lvCust2 => 0x280000D0
  | .lvCust3 => 0x280000E0
  | .lvCust4 => 0x280000F0
  | .lCust1 => 0x70000000
  | .lCust2 => 0x74000000
  | .lCust3 => 0x78000000
  | .lCust4 => 0x7C000000
  | .lCust5 rd ra rb l k => 0xF0000000 ||| bitsD rd ||| bitsA ra ||| bitsB rb ||| bitsCL l ||| bitsCK k
  | .lCust6 => 0xF4000000
  | .lCust7 => 0xF8000000
  | .lCust8 => 0xFC000000

/-- The bytes of an instruction as memory holds them. -/
def encodeBytes (i : Instr) : List Byte := wordBytes (encode i)

/-- The row number of an instruction in spec/opcode_table.json, from 0. -/
def Instr.row : Instr → Nat
  | .lAdd _ _ _ => 0
  | .lAddc _ _ _ => 1
  | .lAddi _ _ _ => 2
  | .lAddic _ _ _ => 3
  | .lSub _ _ _ => 4
  | .lMul _ _ _ => 5
  | .lMuli _ _ _ => 6
  | .lMulu _ _ _ => 7
  | .lDiv _ _ _ => 8
  | .lDivu _ _ _ => 9
  | .lMac _ _ => 10
  | .lMaci _ _ => 11
  | .lMacu _ _ => 12
  | .lMsb _ _ => 13
  | .lMsbu _ _ => 14
  | .lMacrc _ => 15
  | .lMuld _ _ => 16
  | .lMuldu _ _ => 17
  | .lCmov _ _ _ => 18
  | .lFf1 _ _ => 19
  | .lFl1 _ _ => 20
  | .lAnd _ _ _ => 21
  | .lAndi _ _ _ => 22
  | .lOr _ _ _ => 23
  | .lOri _ _ _ => 24
  | .lXor _ _ _ => 25
  | .lXori _ _ _ => 26
  | .lSll _ _ _ => 27
  | .lSlli _ _ _ => 28
  | .lSrl _ _ _ => 29
  | .lSrli _ _ _ => 30
  | .lSra _ _ _ => 31
  | .lSrai _ _ _ => 32
  | .lRor _ _ _ => 33
  | .lRori _ _ _ => 34
  | .lExtbs _ _ => 35
  | .lExtbz _ _ => 36
  | .lExths _ _ => 37
  | .lExthz _ _ => 38
  | .lExtws _ _ => 39
  | .lExtwz _ _ => 40
  | .lMovhi _ _ => 41
  | .lSfeq _ _ => 42
  | .lSfne _ _ => 43
  | .lSfgtu _ _ => 44
  | .lSfgeu _ _ => 45
  | .lSfltu _ _ => 46
  | .lSfleu _ _ => 47
  | .lSfgts _ _ => 48
  | .lSfges _ _ => 49
  | .lSflts _ _ => 50
  | .lSfles _ _ => 51
  | .lSfeqi _ _ => 52
  | .lSfnei _ _ => 53
  | .lSfgtui _ _ => 54
  | .lSfgeui _ _ => 55
  | .lSfltui _ _ => 56
  | .lSfleui _ _ => 57
  | .lSfgtsi _ _ => 58
  | .lSfgesi _ _ => 59
  | .lSfltsi _ _ => 60
  | .lSflesi _ _ => 61
  | .lLbz _ _ _ => 62
  | .lLbs _ _ _ => 63
  | .lLhz _ _ _ => 64
  | .lLhs _ _ _ => 65
  | .lLwz _ _ _ => 66
  | .lLws _ _ _ => 67
  | .lLd _ _ _ => 68
  | .lLwa _ _ _ => 69
  | .lSb _ _ _ => 70
  | .lSh _ _ _ => 71
  | .lSw _ _ _ => 72
  | .lSd _ _ _ => 73
  | .lSwa _ _ _ => 74
  | .lJ _ => 75
  | .lJal _ => 76
  | .lJr _ => 77
  | .lJalr _ => 78
  | .lBf _ => 79
  | .lBnf _ => 80
  | .lNop _ => 81
  | .lSys _ => 82
  | .lTrap _ => 83
  | .lRfe => 84
  | .lMtspr _ _ _ => 85
  | .lMfspr _ _ _ => 86
  | .lMsync => 87
  | .lCsync => 88
  | .lPsync => 89
  | .lfAddS _ _ _ => 90
  | .lfSubS _ _ _ => 91
  | .lfMulS _ _ _ => 92
  | .lfDivS _ _ _ => 93
  | .lfRemS _ _ _ => 94
  | .lfMaddS _ _ _ => 95
  | .lfItofS _ _ => 96
  | .lfFtoiS _ _ => 97
  | .lfSfeqS _ _ => 98
  | .lfSfneS _ _ => 99
  | .lfSfgtS _ _ => 100
  | .lfSfgeS _ _ => 101
  | .lfSfltS _ _ => 102
  | .lfSfleS _ _ => 103
  | .lfCust1S _ _ => 104
  | .lfAddD _ _ _ => 105
  | .lfSubD _ _ _ => 106
  | .lfMulD _ _ _ => 107
  | .lfDivD _ _ _ => 108
  | .lfRemD _ _ _ => 109
  | .lfMaddD _ _ _ => 110
  | .lfItofD _ _ => 111
  | .lfFtoiD _ _ => 112
  | .lfSfeqD _ _ => 113
  | .lfSfneD _ _ => 114
  | .lfSfgtD _ _ => 115
  | .lfSfgeD _ _ => 116
  | .lfSfltD _ _ => 117
  | .lfSfleD _ _ => 118
  | .lfCust1D _ _ => 119
  | .lvAddB _ _ _ => 120
  | .lvAddH _ _ _ => 121
  | .lvAddsB _ _ _ => 122
  | .lvAddsH _ _ _ => 123
  | .lvAdduB _ _ _ => 124
  | .lvAdduH _ _ _ => 125
  | .lvAddusB _ _ _ => 126
  | .lvAddusH _ _ _ => 127
  | .lvAllEqB _ _ _ => 128
  | .lvAllEqH _ _ _ => 129
  | .lvAllGeB _ _ _ => 130
  | .lvAllGeH _ _ _ => 131
  | .lvAllGtB _ _ _ => 132
  | .lvAllGtH _ _ _ => 133
  | .lvAllLeB _ _ _ => 134
  | .lvAllLeH _ _ _ => 135
  | .lvAllLtB _ _ _ => 136
  | .lvAllLtH _ _ _ => 137
  | .lvAllNeB _ _ _ => 138
  | .lvAllNeH _ _ _ => 139
  | .lvAnyEqB _ _ _ => 140
  | .lvAnyEqH _ _ _ => 141
  | .lvAnyGeB _ _ _ => 142
  | .lvAnyGeH _ _ _ => 143
  | .lvAnyGtB _ _ _ => 144
  | .lvAnyGtH _ _ _ => 145
  | .lvAnyLeB _ _ _ => 146
  | .lvAnyLeH _ _ _ => 147
  | .lvAnyLtB _ _ _ => 148
  | .lvAnyLtH _ _ _ => 149
  | .lvAnyNeB _ _ _ => 150
  | .lvAnyNeH _ _ _ => 151
  | .lvAnd _ _ _ => 152
  | .lvAvgB _ _ _ => 153
  | .lvAvgH _ _ _ => 154
  | .lvCmpEqB _ _ _ => 155
  | .lvCmpEqH _ _ _ => 156
  | .lvCmpGeB _ _ _ => 157
  | .lvCmpGeH _ _ _ => 158
  | .lvCmpGtB _ _ _ => 159
  | .lvCmpGtH _ _ _ => 160
  | .lvCmpLeB _ _ _ => 161
  | .lvCmpLeH _ _ _ => 162
  | .lvCmpLtB _ _ _ => 163
  | .lvCmpLtH _ _ _ => 164
  | .lvCmpNeB _ _ _ => 165
  | .lvCmpNeH _ _ _ => 166
  | .lvMaddsH _ _ _ => 167
  | .lvMaxB _ _ _ => 168
  | .lvMaxH _ _ _ => 169
  | .lvMergeB _ _ _ => 170
  | .lvMergeH _ _ _ => 171
  | .lvMinB _ _ _ => 172
  | .lvMinH _ _ _ => 173
  | .lvMsubsH _ _ _ => 174
  | .lvMulsH _ _ _ => 175
  | .lvNand _ _ _ => 176
  | .lvNor _ _ _ => 177
  | .lvOr _ _ _ => 178
  | .lvPackB _ _ _ => 179
  | .lvPackH _ _ _ => 180
  | .lvPacksB _ _ _ => 181
  | .lvPacksH _ _ _ => 182
  | .lvPackusB _ _ _ => 183
  | .lvPackusH _ _ _ => 184
  | .lvPermN _ _ _ => 185
  | .lvRlB _ _ _ => 186
  | .lvRlH _ _ _ => 187
  | .lvSllB _ _ _ => 188
  | .lvSllH _ _ _ => 189
  | .lvSll _ _ _ => 190
  | .lvSrlB _ _ _ => 191
  | .lvSrlH _ _ _ => 192
  | .lvSraB _ _ _ => 193
  | .lvSraH _ _ _ => 194
  | .lvSrl _ _ _ => 195
  | .lvSubB _ _ _ => 196
  | .lvSubH _ _ _ => 197
  | .lvSubsB _ _ _ => 198
  | .lvSubsH _ _ _ => 199
  | .lvSubuB _ _ _ => 200
  | .lvSubuH _ _ _ => 201
  | .lvSubusB _ _ _ => 202
  | .lvSubusH _ _ _ => 203
  | .lvUnpackB _ _ _ => 204
  | .lvUnpackH _ _ _ => 205
  | .lvXor _ _ _ => 206
  | .lvCust1 => 207
  | .lvCust2 => 208
  | .lvCust3 => 209
  | .lvCust4 => 210
  | .lCust1 => 211
  | .lCust2 => 212
  | .lCust3 => 213
  | .lCust4 => 214
  | .lCust5 _ _ _ _ _ => 215
  | .lCust6 => 216
  | .lCust7 => 217
  | .lCust8 => 218

end Sys2Proof
end

