-- ==== Sys2Proof/Config.lean ====
section
/-! DEFINITION. The implementation's parameters (00_scope.md R8, R10) and the free values of the model.

The architecture is a family; `Config` holds, as plain data, every parameter that R8 lists. A state carries its
configuration in `State.cfg`, no instruction changes it, and every statement quantifies over it. `Config.reference` is
the reference configuration of R8 and 92_eei_decisions.md D1; `Config.full` is a 64-bit member with every unit and
every instruction subset, used for witnesses and tests. -/

namespace Sys2Proof

/-- XLEN, the width of a general-purpose register (00_scope.md R8). -/
inductive Xlen where
  | x32
  | x64
  deriving DecidableEq, Repr

/-- XLEN as a number of bits. -/
def Xlen.bits : Xlen → Nat
  | .x32 => 32
  | .x64 => 64

/-- What `lf.rem` computes (00_scope.md R8 FP_REM_KIND, 92_eei_decisions.md D31). -/
inductive RemKind where
  | ieee
  | trunc
  deriving DecidableEq, Repr

/-- Geometry and options of one MMU: the fields of DMMUCFGR or IMMUCFGR (10_state.md R88, R89). -/
structure MmuCfg where
  /-- ways minus one -/
  ntw : BitVec 2
  /-- log2 of the sets -/
  nts : BitVec 3
  /-- ATB entries, 0 to 4 -/
  nae : BitVec 3
  /-- DMMUCR/IMMUCR implemented -/
  cri : Bool
  /-- DMMUPR/IMMUPR implemented -/
  pri : Bool
  /-- DTLBEIR/ITLBEIR implemented -/
  teiri : Bool
  /-- hardware TLB reload -/
  htr : Bool
  deriving DecidableEq, Repr

/-- Geometry and options of one cache: the fields of DCCFGR or ICCFGR (10_state.md R90, R91). -/
structure CacheCfg where
  /-- log2 of the ways -/
  ncw : BitVec 3
  /-- log2 of the sets -/
  ncs : BitVec 4
  /-- 32-byte blocks -/
  cbs : Bool
  /-- write-back strategy (data cache only) -/
  cws : Bool
  /-- control register implemented -/
  ccri : Bool
  /-- block invalidate register implemented -/
  cbiri : Bool
  /-- block prefetch register implemented -/
  cbpri : Bool
  /-- block lock register implemented -/
  cblri : Bool
  /-- block flush register implemented (data cache only) -/
  cbfri : Bool
  /-- block write-back register implemented (data cache only) -/
  cbwbri : Bool
  deriving DecidableEq, Repr

/-- A region of valid physical addresses: `base` and `size` in bytes (20_memory.md R207). -/
structure Region where
  base : Nat
  size : Nat
  deriving DecidableEq, Repr

/-- A window of the map from 64-bit effective addresses to physical addresses while translation is off: the `size` bytes from
`ea` lie at `pa` on. All three count in doublewords of 8 bytes, so an aligned operand stays in one piece. -/
structure EaWindow where
  ea : Nat
  pa : Nat
  size : Nat
  deriving DecidableEq, Repr

/-- The parameters of an implementation (00_scope.md R8; 10_state.md R53 for a unified MMU or cache). -/
structure Config where
  /-- register width -/
  xlen : Xlen
  /-- NGPR = 16 (CPUCFGR[CGF]) -/
  ngpr16 : Bool
  /-- NSGF, number of shadow GPR sets -/
  nsgf : BitVec 4
  /-- ND: no delay slot -/
  nd : Bool
  /-- HAS_ORBIS64 -/
  orbis64 : Bool
  /-- HAS_ORFPX32 -/
  orfpx32 : Bool
  /-- HAS_ORFPX64 -/
  orfpx64 : Bool
  /-- HAS_ORVDX64 -/
  orvdx64 : Bool
  /-- complement of CLASS2: row numbers (from 0) of spec/opcode_table.json of class II instructions left out -/
  absent : List Nat
  /-- HAS_AECR -/
  hasAecr : Bool
  /-- HAS_EVBAR -/
  hasEvbar : Bool
  /-- HAS_AVR -/
  hasAvr : Bool
  /-- HAS_ISR -/
  hasIsr : Bool
  /-- HAS_VR2 (VR[UVRP]) -/
  hasVr2 : Bool
  /-- VR[VER] -/
  vrVer : BitVec 8
  /-- VR[CFG] -/
  vrCfg : BitVec 8
  /-- VR[REV] -/
  vrRev : BitVec 6
  /-- VR2[CPUID] -/
  vr2Cpuid : BitVec 8
  /-- VR2[VER] -/
  vr2Ver : BitVec 24
  /-- AVR[REV] -/
  avrRev : BitVec 8
  /-- contents of ISR0-ISR7 -/
  isr : Bank 3 Word32
  /-- UPR[UP] -/
  up : Bool
  /-- UPR[DCP] -/
  dcp : Bool
  /-- UPR[ICP] -/
  icp : Bool
  /-- UPR[DMP] -/
  dmp : Bool
  /-- UPR[IMP] -/
  imp : Bool
  /-- UPR[MP] -/
  mp : Bool
  /-- UPR[DUP] -/
  dup : Bool
  /-- UPR[PCUP] -/
  pcup : Bool
  /-- UPR[PICP] -/
  picp : Bool
  /-- UPR[PMP] -/
  pmp : Bool
  /-- the bits of PMR whose features are implemented (61_platform_units.md R1020, entry 49) -/
  pmrFields : BitVec 8
  /-- UPR[TTP] -/
  ttp : Bool
  /-- UPR[CUP] -/
  cup : BitVec 8
  /-- one MMU for data and instructions: SPR groups 1 and 2 are one set of registers (10_state.md R53, entry 45) -/
  unifiedMmu : Bool
  /-- one cache for data and instructions: the registers of groups 3 and 4 are merged (10_state.md R53, 20_memory.md R268, entry 45) -/
  unifiedCache : Bool
  /-- DMMUCFGR -/
  dmmu : MmuCfg
  /-- IMMUCFGR -/
  immu : MmuCfg
  /-- DCCFGR -/
  dc : CacheCfg
  /-- ICCFGR -/
  ic : CacheCfg
  /-- DCFGR[NDP]: debug pairs minus one -/
  ndp : BitVec 3
  /-- DCFGR[WPCI] -/
  wpci : Bool
  /-- PCCFGR[NPC]: performance counters minus one -/
  npc : BitVec 3
  /-- PA_BITS: the width of an untranslated address with XLEN = 64; which physical addresses exist is `ram` alone (entry 2) -/
  paBits : Nat
  /-- with XLEN = 64, where untranslated effective addresses lie in physical memory; the first window that holds an address
  counts (93_implementation_defined.md U8, entry 16) -/
  eaMap : List EaWindow
  /-- the physical addresses that exist: `PhysValid` of 20_memory.md R207 -/
  ram : List Region
  /-- LEE_SUPPORTED -/
  leeSupported : Bool
  /-- UNALIGNED_SUPPORTED -/
  unalignedSupported : Bool
  /-- STRONG_ORDER: without it `l.lwa` and `l.swa` are synchronisation points (20_memory.md R234) -/
  strongOrder : Bool
  /-- COREID -/
  coreId : Nat
  /-- NUMCORES -/
  numCores : Nat
  /-- COREID and NUMCORES registers implemented -/
  hasCoreRegs : Bool
  /-- EVBAR_RESET -/
  evbarReset : Word32
  /-- PIC_EDGE -/
  picEdge : Word32
  /-- PIC_NMI_MASK = 3 -/
  picNmi : Bool
  /-- a watchpoint counter matches as long as COUNT equals MATCH, not only when it gets there (61_platform_units.md R987(4), entry 21) -/
  counterLevel : Bool
  /-- OMPIC_BASE, none without an OMPIC -/
  ompicBase : Option Nat
  /-- OMPIC_IRQ -/
  ompicIrq : BitVec 5
  /-- R0_HARDWIRED -/
  r0Hardwired : Bool
  /-- FP_TRAP_MASK over FPCSR bits 11:3 (bit 0 of the mask is OVF) -/
  fpTrapMask : BitVec 9
  /-- FP_REM_KIND -/
  fpRem : RemKind
  /-- tininess is detected after rounding (93_implementation_defined.md U13) -/
  fpTinyAfter : Bool
  /-- denormal operands and results are supported; otherwise they are zeros of the same sign (U13) -/
  fpDenormals : Bool
  /-- LV_ORDER_SIGNED -/
  lvOrderSigned : Bool
  /-- the EA bit that bit 10 of an ATB match register stands for, XLEN = 64 only (20_memory.md R253) -/
  atbVpnBit : Nat
  /-- the physical address bit that bit 10 of an ATB translate register stands for (20_memory.md R253) -/
  atbPpnBit : Nat
  deriving DecidableEq, Repr

namespace Config

/-- An MMU configuration register of zeros: one way, one set, nothing optional. -/
def noMmu : MmuCfg :=
  { ntw := 0, nts := 0, nae := 0, cri := false, pri := false, teiri := false, htr := false }

/-- A cache configuration register of zeros. -/
def noCache : CacheCfg :=
  { ncw := 0, ncs := 0, cbs := false, cws := false, ccri := false, cbiri := false, cbpri := false, cblri := false,
    cbfri := false, cbwbri := false }

/-- The reference configuration (00_scope.md R8 last column, 92_eei_decisions.md D1). DESIGN CHOICES of the model, where R8 or
93_implementation_defined.md leaves the value to the implementation: the identification values (VR, VR2, AVR[REV]) and the
memory map (entries 1, 2); no OMPIC, and OMPIC_IRQ line 0, which then drives nothing (both OPEN in R8, entry 1); tininess detected
after rounding and denormals supported (U13, entries 1 and 19); `counterLevel` and `pmrFields`, which without a debug unit and without
power management mean nothing (entries 21 and 49). -/
def reference : Config :=
  { xlen := .x32, ngpr16 := false, nsgf := 0, nd := false
    orbis64 := false, orfpx32 := false, orfpx64 := false, orvdx64 := false, absent := []
    hasAecr := false, hasEvbar := false, hasAvr := true, hasIsr := false, hasVr2 := true
    vrVer := 0x12, vrCfg := 0, vrRev := 0, vr2Cpuid := 0, vr2Ver := 0, avrRev := 0, isr := Bank.fill 3 0
    up := true, dcp := false, icp := false, dmp := false, imp := false, mp := true, dup := false, pcup := false
    picp := true, pmp := false, pmrFields := 0xFF, ttp := true, cup := 0
    unifiedMmu := false, unifiedCache := false, dmmu := noMmu, immu := noMmu, dc := noCache, ic := noCache, ndp := 0, wpci := false, npc := 0
    paBits := 32, eaMap := [], ram := [{ base := 0, size := 2 ^ 32 }]
    leeSupported := false, unalignedSupported := false, strongOrder := true
    coreId := 0, numCores := 1, hasCoreRegs := true, evbarReset := 0
    picEdge := 0, picNmi := false, counterLevel := false, ompicBase := none, ompicIrq := 0
    r0Hardwired := false, fpTrapMask := 0x1FF, fpRem := .ieee, fpTinyAfter := true, fpDenormals := true
    lvOrderSigned := true, atbVpnBit := 24, atbPpnBit := 10 }

/-- A 64-bit implementation with every unit and every instruction subset; for witnesses and tests only. -/
def full : Config :=
  { reference with
    xlen := .x64, nsgf := 3, orbis64 := true, orfpx32 := true, orfpx64 := true, orvdx64 := true
    hasAecr := true, hasEvbar := true, hasIsr := true
    dcp := true, icp := true, dmp := true, imp := true, dup := true, pcup := true, pmp := true
    dmmu := { ntw := 1, nts := 6, nae := 4, cri := true, pri := true, teiri := true, htr := false }
    immu := { ntw := 1, nts := 6, nae := 4, cri := true, pri := true, teiri := true, htr := false }
    dc := { ncw := 1, ncs := 8, cbs := true, cws := true, ccri := true, cbiri := true, cbpri := true, cblri := true,
            cbfri := true, cbwbri := true }
    ic := { ncw := 1, ncs := 8, cbs := true, cws := false, ccri := true, cbiri := true, cbpri := true, cblri := true,
            cbfri := false, cbwbri := false }
    ndp := 7, wpci := true, npc := 7, paBits := 35, ram := [{ base := 0, size := 2 ^ 35 }]
    leeSupported := true, numCores := 2, ompicBase := some 0x98000000, ompicIrq := 1, picEdge := 0x80000000 }

/-- A free value (entry 8): the `n`-th value that the sources leave undefined in a run. Nothing is known of it. -/
opaque freeWord : Nat → Word

/-- How many ticks of the timer beyond the first come at once, when no input says so (entry 11). Nothing is known of it
(61_platform_units.md R953). -/
opaque freeTicks : Nat → Nat

/-- How many steps pass without a tick of the timer before the next one, when no input says so (entry 11). Nothing is known of it,
but it is a number: ticks keep happening (61_platform_units.md R953, 70_reset_and_hazards.md R1075). -/
opaque freeGap : Nat → Nat

/-- Whether the 19-bit VPN field of a TLB match register, of a 16-Mbyte page or not, stands for a 33-bit virtual page number
(entry 14): how the field holds it is not stated (20_memory.md R258, 91_not_in_source.md N11). Nothing is known of it. -/
opaque tlbTagMatch64 : Bool → BitVec 19 → BitVec 33 → Bool

end Config

end Sys2Proof
end

