-- ==== Sys2Proof/Machine/State.lean ====
section
/-! DEFINITION. The machine's state as plain data, what stops it, and the state after reset.

Every field names the rule of spec/ that gives it. XLEN-wide registers are held in 64 bits. Reset values that no rule
gives are DESIGN CHOICE zero (entries 3 to 8). -/

namespace Sys2Proof.Machine

/-- The reasons for a fault: none. Every error condition of the spec is an exception whose entry is described
(60_exceptions.md R842), so it is a next state; what the spec leaves without meaning is a `Refusal`. Nothing raises a
fault, which is safe: nothing is hidden behind one. -/
inductive Fault : Type where
  deriving DecidableEq, Repr

/-- What the model refuses to give a meaning, each named by 93_implementation_defined.md as `refuse`. All are safe: a run that
reaches one is outside the model and nothing is concluded of it. -/
inductive Refusal where
  /-- An instruction whose arm of `exec` has no meaning yet. Safe. -/
  | notModelled (mnemonic : String)
  /-- A jump, branch or `l.rfe` in a delay slot (U5, 44_orbis_control_system.md R562). Safe. -/
  | jumpInDelaySlot
  /-- A TLB miss with hardware reload (U11, 20_memory.md R260). Safe. -/
  | hwTlbReload
  /-- Two TLB ways or two ATB entries match (U10, 20_memory.md R252, R253). Safe. -/
  | tlbMultiHit
  /-- An instruction begins while DMR2[WGB], DMR1[ST] or DMR1[BT] is not zero (U19, 61_platform_units.md R987). Safe. -/
  | debugTrap
  /-- SR[CE] = 1 and SR[CID] > NSGF > 0: the current GPR set does not exist (U27). Safe. -/
  | contextOutOfRange
  /-- An access to the OMPIC other than an aligned uncached 32-bit word (U18, 61_platform_units.md R970). Safe. -/
  | ompicAccess
  /-- A supported unaligned access that crosses a page with the MMU on (U22). Safe. -/
  | unalignedPage
  /-- `lf.madd.s`, `lf.madd.d`: the accumulator FPMADDHI/LO does not exist (U16, 45_orfpx.md R607). Safe. -/
  | fpMaddUndefined
  /-- `lv.madds.h`, `lv.msubs.h`: the accumulator VMAC does not exist (U17, 47_orvdx_b.md R760, R768). Safe. -/
  | vmacUndefined
  deriving DecidableEq, Repr

/-- How `pc` was reached; only the NPC and PPC registers depend on it (10_state.md R47, U6). The MODEL's own. -/
inductive PcHistory where
  /-- after the instruction at `ppc`, in straight-line order -/
  | straight
  /-- the instruction at `pc` is in the slot of a jump or branch that is taken or not -/
  | slot (taken : Bool)
  /-- after a taken jump or branch, or a write of NPC -/
  | branched
  /-- after reset, an exception entry or `l.rfe` -/
  | entered
  deriving DecidableEq, Repr

/-- How far the coherence sequence has come for a stored instruction word (20_memory.md R282). The MODEL's own. -/
inductive Coherence where
  /-- stored, and perhaps only in the data cache -/
  | stored
  /-- its data cache block has been written back -/
  | writtenBack
  /-- a synchronisation has waited for the update -/
  | synced
  /-- main memory holds it and the pipeline has been flushed, but not its instruction cache block: all that a fetch past the caches asks for -/
  | flushed
  /-- its instruction cache block has been invalidated; the pipeline may still hold the old word -/
  | invalidated
  deriving DecidableEq, Repr

/-- An instruction word that a store has replaced and that a fetch may still see (20_memory.md R269,
93_implementation_defined.md U30, entry 38). The MODEL's own. -/
structure StaleWord where
  /-- the physical address of the word -/
  addr : Nat
  /-- the word before the store -/
  old : Word32
  /-- how far the coherence sequence has come -/
  stage : Coherence
  deriving DecidableEq, Repr

/-- A memory: bytes by physical address, strictly rising, none equal to what an unlisted address reads as. -/
abbrev Memory := List Host.Cell

/-- What the environment does before one step (61_platform_units.md R1031, entry 12). The MODEL's own. -/
structure Input where
  /-- how often the tick timer ticks (R953) -/
  ticks : Nat
  /-- the levels of the interrupt lines (R945) -/
  irq : Word32
  /-- the reset input is asserted (R1031) -/
  reset : Bool
  /-- bytes written by another bus master (20_memory.md R231) -/
  writes : List Host.Cell
  /-- OMPIC control writes of other cores: core number and value (R971) -/
  messages : List (Nat × Word32)
  /-- what the development interface writes to debug registers: number in group 6 and value (R985, entry 31) -/
  debug : List (BitVec 11 × Word32)
  deriving DecidableEq, Repr

/-- The state of one OpenRISC 1000 core with its units, its memory and its environment's schedule. -/
structure State where
  /-- the implementation's parameters (00_scope.md R8); never changed -/
  cfg : Config
  /-- GPR sets: register `r` of set `c` at index `c ++ r` (10_state.md R40, R41, R45) -/
  gprs : Bank 9 Word
  /-- program counter (R46) -/
  pc : Word
  /-- the instruction at `pc` is a delay-slot instruction (R48) -/
  dsPending : Bool
  /-- where the pending jump goes (R48) -/
  dsTarget : Word
  /-- address of the instruction executed last; read as PPC (R47) -/
  ppc : Word
  /-- how `pc` was reached; the MODEL's own (entry 7) -/
  hist : PcHistory
  /-- SR (R60) -/
  sr : Word32
  /-- EPCR0-15 (R70) -/
  epcr : Bank 4 Word
  /-- EEAR0-15 (R71) -/
  eear : Bank 4 Word
  /-- ESR0-15 (R72) -/
  esr : Bank 4 Word
  /-- EVBAR (R98) -/
  evbar : Word32
  /-- AECR (R99) -/
  aecr : Word32
  /-- AESR (R100) -/
  aesr : Word32
  /-- FPCSR (R75) -/
  fpcsr : Word32
  /-- MACHI (R78) -/
  machi : Word32
  /-- MACLO (R78) -/
  maclo : Word32
  /-- DMMUCR (20_memory.md R240) -/
  dmmucr : Word32
  /-- DMMUPR (R241) -/
  dmmupr : Word32
  /-- IMMUCR (R242) -/
  immucr : Word32
  /-- IMMUPR (R243) -/
  immupr : Word32
  /-- DTLBWyMRn at index `y ++ n` (R245) -/
  dtlbmr : Bank 9 Word32
  /-- DTLBWyTRn (R246) -/
  dtlbtr : Bank 9 Word32
  /-- ITLBWyMRn (R245) -/
  itlbmr : Bank 9 Word32
  /-- ITLBWyTRn (R247) -/
  itlbtr : Bank 9 Word32
  /-- DATBMR0-3 (R249) -/
  datbmr : Bank 2 Word32
  /-- DATBTR0-3 (R250) -/
  datbtr : Bank 2 Word32
  /-- IATBMR0-3 (R249) -/
  iatbmr : Bank 2 Word32
  /-- IATBTR0-3 (R251) -/
  iatbtr : Bank 2 Word32
  /-- DCCR (R270) -/
  dccr : Word32
  /-- ICCR (R271) -/
  iccr : Word32
  /-- DVR0-7 (61_platform_units.md R990) -/
  dvr : Bank 3 Word32
  /-- DCR0-7 without the presence bit (R991) -/
  dcr : Bank 3 Word32
  /-- DMR1 (R992) -/
  dmr1 : Word32
  /-- DMR2 (R993) -/
  dmr2 : Word32
  /-- DWCR0-1 (R994) -/
  dwcr : Bank 1 Word32
  /-- DSR (R995) -/
  dsr : Word32
  /-- DRR (R996) -/
  drr : Word32
  /-- the core has been handed to the development interface (R995, U20) -/
  debugStopped : Bool
  /-- PCCR0-7 (R1010) -/
  pccr : Bank 3 Word32
  /-- PCMR0-7 without the presence bit (R1011) -/
  pcmr : Bank 3 Word32
  /-- PMR (R1020) -/
  pmr : Word32
  /-- PICMR (R941) -/
  picmr : Word32
  /-- the latches of edge-triggered interrupt inputs (R942) -/
  picLatch : Word32
  /-- the levels of the interrupt lines, the environment's (R945) -/
  irqIn : Word32
  /-- TTMR (R951) -/
  ttmr : Word32
  /-- TTCR (R952) -/
  ttcr : Word32
  /-- the reservation: the physical address of a word, or none (20_memory.md R230) -/
  resv : Option Nat
  /-- OMPIC status registers, one for each core (61_platform_units.md R972) -/
  ompic : List Word32
  /-- physical memory (20_memory.md R200) -/
  mem : Memory
  /-- replaced words that a fetch may still see, newest first; the MODEL's own (R282, entry 38) -/
  stale : List StaleWord
  /-- what the environment does before the coming steps; the MODEL's own (entry 12) -/
  inputs : List Input
  /-- how many more steps pass before the timer's next tick, none where that is still open; the MODEL's own (R953, entry 11) -/
  tickWait : Option Nat
  /-- how many free values have been drawn; the MODEL's own (entry 8) -/
  freeCtr : Nat
  deriving DecidableEq, Repr

/-- The state of an implementation right after reset with an empty environment (70_reset_and_hazards.md R1050, R1051). -/
def State.resetFor (c : Config) : State :=
  { cfg := c
    gprs := Bank.fill 9 0
    pc := (((if c.hasEvbar then c.evbarReset &&& 0xFFFFE000 else 0) ||| 0x100 : Word32)).setWidth 64
    dsPending := false, dsTarget := 0, ppc := 0, hist := .entered
    sr := 0x00008001
    epcr := Bank.fill 4 0, eear := Bank.fill 4 0, esr := Bank.fill 4 0
    evbar := c.evbarReset &&& 0xFFFFE000, aecr := 0, aesr := 0, fpcsr := 0, machi := 0, maclo := 0
    dmmucr := 0, dmmupr := 0, immucr := 0, immupr := 0
    dtlbmr := Bank.fill 9 0, dtlbtr := Bank.fill 9 0, itlbmr := Bank.fill 9 0, itlbtr := Bank.fill 9 0
    datbmr := Bank.fill 2 0, datbtr := Bank.fill 2 0, iatbmr := Bank.fill 2 0, iatbtr := Bank.fill 2 0
    dccr := 0, iccr := 0
    dvr := Bank.fill 3 0, dcr := Bank.fill 3 0, dmr1 := 0, dmr2 := 0, dwcr := Bank.fill 1 0, dsr := 0, drr := 0
    debugStopped := false
    pccr := Bank.fill 3 0, pcmr := Bank.fill 3 0, pmr := 0
    picmr := if c.picNmi then 3 else 0, picLatch := 0, irqIn := 0
    ttmr := 0, ttcr := 0, resv := none
    ompic := List.replicate c.numCores 0
    mem := [], stale := [], inputs := [], tickWait := none, freeCtr := 0 }

/-- The reference machine right after reset (00_scope.md R8, 92_eei_decisions.md D1). -/
def State.reset : State := State.resetFor Config.reference

end Sys2Proof.Machine
end

