-- ==== Sys2Proof/Machine/Operands.lean ====
section
/-! DEFINITION. Operands: values modulo 2^XLEN, immediates, the fields of SR, the current context and the general
registers. Every read and write of a general register goes through `State.gpr` and `State.setGpr`. -/

namespace Sys2Proof.Machine

/-! ## Values of XLEN bits -/

/-- The low XLEN bits of a value (10_state.md R40, R46: all arithmetic on registers and `pc` is modulo 2^XLEN). -/
def trunc (x : Xlen) (v : Word) : Word :=
  match x with
  | .x32 => (v.setWidth 32).setWidth 64
  | .x64 => v

/-- The unsigned value of the low XLEN bits (00_scope.md R14 `unsigned`). -/
def uval (x : Xlen) (v : Word) : Nat := (trunc x v).toNat

/-- The two's-complement value of the low XLEN bits (00_scope.md R14 `signed`). -/
def sval (x : Xlen) (v : Word) : Int :=
  match x with
  | .x32 => (v.setWidth 32).toInt
  | .x64 => v.toInt

/-- An exact integer narrowed to XLEN bits. -/
def ofInt (x : Xlen) (z : Int) : Word := trunc x (BitVec.ofInt 64 z)

/-- An exact natural number narrowed to XLEN bits. -/
def ofNat (x : Xlen) (n : Nat) : Word := trunc x (BitVec.ofNat 64 n)

/-- `sext_16(I)` to XLEN bits (30_encoding.md R304). -/
def sext16 (x : Xlen) (i : BitVec 16) : Word := trunc x (i.signExtend 64)

/-- `zext_16(K)` (30_encoding.md R304). -/
def zext16 (k : BitVec 16) : Word := k.setWidth 64

/-- `sext_28(N ++ 0b00)` to XLEN bits (30_encoding.md R304). -/
def jumpOffset (x : Xlen) (n : BitVec 26) : Word := trunc x ((n ++ 0#2).signExtend 64)

/-- The low half of a register, for operations on 32-bit data. -/
def lo32 (v : Word) : Word32 := v.setWidth 32

/-- A 32-bit value zero-extended to a register. -/
def zext32 (v : Word32) : Word := v.setWidth 64

/-- A 32-bit value sign-extended to XLEN bits. -/
def sext32 (x : Xlen) (v : Word32) : Word := trunc x (v.signExtend 64)

/-- The amount of a shift or rotate: the low 5 bits of the operand with XLEN = 32, the low 6 with XLEN = 64
(41_orbis_logic_shift.md R401). -/
def shiftAmount (x : Xlen) (v : Word) : Nat :=
  match x with
  | .x32 => v.toNat % 32
  | .x64 => v.toNat % 64

/-! ## Bits of 32-bit registers -/

/-- A 32-bit value with bit `n` replaced. -/
def setBit (w : Word32) (n : Nat) (b : Bool) : Word32 :=
  if b then w ||| (1#32 <<< n) else w &&& ~~~(1#32 <<< n)

/-! ## SR (10_state.md R60) -/

/-- SR[SM]: supervisor mode. -/
def State.sm (s : State) : Bool := s.sr.getLsbD 0

/-- SR[TEE]. -/
def State.tee (s : State) : Bool := s.sr.getLsbD 1

/-- SR[IEE]. -/
def State.iee (s : State) : Bool := s.sr.getLsbD 2

/-- SR[DME]. -/
def State.dme (s : State) : Bool := s.sr.getLsbD 5

/-- SR[IME]. -/
def State.ime (s : State) : Bool := s.sr.getLsbD 6

/-- SR[LEE] on an implementation that has it (20_memory.md R203). -/
def State.littleEndian (s : State) : Bool := s.cfg.leeSupported && s.sr.getLsbD 7

/-- SR[F]. -/
def State.flag (s : State) : Bool := s.sr.getLsbD 9

/-- SR[CY]. -/
def State.carry (s : State) : Bool := s.sr.getLsbD 10

/-- SR[OV]. -/
def State.overflow (s : State) : Bool := s.sr.getLsbD 11

/-- SR[OVE]. -/
def State.ove (s : State) : Bool := s.sr.getLsbD 12

/-- SR[EPH]. -/
def State.eph (s : State) : Bool := s.sr.getLsbD 14

/-- SR[SUMRA]. -/
def State.sumra (s : State) : Bool := s.sr.getLsbD 16

/-- SR[CID]. -/
def State.cid (s : State) : BitVec 4 := s.sr.extractLsb' 28 4

/-- Fast context switching is active: SR[CE] = 1 and NSGF > 0 (60_exceptions.md R880). -/
def State.fcs (s : State) : Bool := s.sr.getLsbD 8 && s.cfg.nsgf != 0

/-- The current context: SR[CID] when fast context switching is active, else 0 (60_exceptions.md R880). -/
def State.ctx (s : State) : BitVec 4 := if s.fcs then s.cid else 0

/-! ## General registers (10_state.md R40-R45) -/

/-- The place of register `r` of set `c` in the bank; also its number in the SPR window (R45). -/
def gprIndex (c : BitVec 4) (r : Reg) : BitVec 9 := c ++ r

/-- Register `i` of the 512, r0 of any set reading as zero where it is hardwired (R42). -/
def State.gprAt (s : State) (i : BitVec 9) : Word :=
  if s.cfg.r0Hardwired && i.extractLsb' 0 5 == 0 then 0 else trunc s.cfg.xlen (s.gprs.at i)

/-- Write register `i` of the 512; a hardwired r0 discards the write (R42). -/
def State.setGprAt (s : State) (i : BitVec 9) (v : Word) : State :=
  if s.cfg.r0Hardwired && i.extractLsb' 0 5 == 0 then s
  else { s with gprs := s.gprs.put i (trunc s.cfg.xlen v) }

/-- `GPR[r]`: register `r` of the current set (R41). -/
def State.gpr (s : State) (r : Reg) : Word := s.gprAt (gprIndex s.ctx r)

/-- `GPR[r] <- v` (R41). -/
def State.setGpr (s : State) (r : Reg) (v : Word) : State := s.setGprAt (gprIndex s.ctx r) v

/-- A register number that this implementation does not have: NGPR = 16 and r16..r31 (R44). -/
def State.regMissing (s : State) (r : Reg) : Bool := s.cfg.ngpr16 && r.getLsbD 4

/-- The next free value, and the state with the counter advanced (entry 8). -/
def State.draw (s : State) : Word × State :=
  (trunc s.cfg.xlen (Config.freeWord s.freeCtr), { s with freeCtr := s.freeCtr + 1 })

end Sys2Proof.Machine
end

