-- ==== Sys2Proof/Machine/Flags.lean ====
section
/-! DEFINITION. The flags F, CY and OV of SR, their computation, and the condition of the Range exception
(10_state.md R62, R63, R99, R100; 40_orbis_arith.md R350-R352). -/

namespace Sys2Proof.Machine

/-- `SR[F] <- b` (10_state.md R62). -/
def State.setFlag (s : State) (b : Bool) : State := { s with sr := setBit s.sr 9 b }

/-- `SR[CY] <- b`. -/
def State.setCarry (s : State) (b : Bool) : State := { s with sr := setBit s.sr 10 b }

/-- `SR[OV] <- b`. -/
def State.setOverflow (s : State) (b : Bool) : State := { s with sr := setBit s.sr 11 b }

/-- An exact signed result does not fit XLEN bits (40_orbis_arith.md R350). -/
def signedOut (x : Xlen) (z : Int) : Bool := decide (z < -(2 ^ (x.bits - 1)) ∨ z ≥ 2 ^ (x.bits - 1))

/-- An exact unsigned result does not fit XLEN bits (40_orbis_arith.md R350). -/
def unsignedOut (x : Xlen) (n : Nat) : Bool := decide (n ≥ 2 ^ x.bits)

/-- An exact signed value does not fit 64 bits. -/
def signedOut64 (z : Int) : Bool := decide (z < -(2 ^ 63) ∨ z ≥ 2 ^ 63)

/-- The bits of AECR and AESR (10_state.md R99). -/
inductive AeBit where
  | cyAdd
  | ovAdd
  | cyMul
  | ovMul
  | dbz
  | cyMacAdd
  | ovMacAdd
  deriving DecidableEq, Repr

/-- The position of a bit in AECR and AESR (R99). -/
def AeBit.pos : AeBit → Nat
  | .cyAdd => 0
  | .ovAdd => 1
  | .cyMul => 2
  | .ovMul => 3
  | .dbz => 4
  | .cyMacAdd => 5
  | .ovMacAdd => 6

/-- An arithmetic condition: which AECR bit enables it, whether it sets SR[OV] (else SR[CY]), and whether it holds. -/
structure AeCond where
  bit : AeBit
  isOv : Bool
  holds : Bool
  deriving DecidableEq, Repr

/-- The condition raises Range when SR[OVE] = 1: its AECR bit is set, or there is no AECR and it sets SR[OV]
(10_state.md R63, 92_eei_decisions.md D7). -/
def AeCond.enabled (c : AeCond) (s : State) : Bool :=
  c.holds && s.ove && (if s.cfg.hasAecr then s.aecr.getLsbD c.bit.pos else c.isOv)

/-- AESR with the bits of the enabled conditions set; hardware clears none (10_state.md R100). -/
def State.recordAe (s : State) (cs : List AeCond) : State :=
  if s.cfg.hasAecr then
    { s with aesr := cs.foldl (fun w c => if c.enabled s then setBit w c.bit.pos true else w) s.aesr }
  else s

end Sys2Proof.Machine
end

