-- ==== Sys2Proof/Machine/Ops.lean ====
section
/-! DEFINITION. The shared operations: physical memory, the sequencing of `pc`, taking an exception, returning from
one, the end of an arithmetic instruction, the reservation and the OMPIC. -/

namespace Sys2Proof.Machine

/-- What an instruction or a step answers. -/
abbrev Result := Host.Outcome State Fault Refusal

/-! ## Physical memory (20_memory.md R200-R203) -/

/-- What a byte of memory that nothing has written reads as. DESIGN CHOICE, unsafe (entry 3): the image at power-on is
the platform's (70_reset_and_hazards.md R1050). -/
def Memory.unlisted : Byte := 0

/-- The canonical form: addresses strictly rising, no listed byte equal to an unlisted one. -/
def Memory.wf : Memory → Bool
  | [] => true
  | [c] => c.2 != Memory.unlisted
  | c :: d :: m => c.2 != Memory.unlisted && decide (c.1 < d.1) && Memory.wf (d :: m)

/-- The byte at a physical address. -/
def Memory.read : Memory → Nat → Byte
  | [], _ => Memory.unlisted
  | (b, v) :: m, a => if a = b then v else Memory.read m a

/-- The memory with one byte replaced, in canonical form. -/
def Memory.write : Memory → Nat → Byte → Memory
  | [], a, v => if v = Memory.unlisted then [] else [(a, v)]
  | (b, w) :: m, a, v =>
    if a < b then (if v = Memory.unlisted then (b, w) :: m else (a, v) :: (b, w) :: m)
    else if a = b then (if v = Memory.unlisted then m else (a, v) :: m)
    else (b, w) :: Memory.write m a v

/-- The memory with bytes replaced, one after the other. -/
def Memory.writeAll (m : Memory) (cs : List Host.Cell) : Memory := cs.foldl (fun m c => m.write c.1 c.2) m

/-- The number whose bytes, most significant first, are given (R202). -/
def ofBytes (bs : List Byte) : Nat := bs.foldl (fun n b => n * 256 + b.toNat) 0

/-- The low `n` bytes of a value, most significant first (R202). -/
def toBytes (n : Nat) (v : Word) : List Byte := (List.range n).map (fun i => v.extractLsb' (8 * (n - 1 - i)) 8)

/-- The bytes of a data operand in memory order: reversed with SR[LEE] = 1 (R203). -/
def State.dataOrder (s : State) (bs : List Byte) : List Byte := if s.littleEndian then bs.reverse else bs

/-- The instruction word at a physical address, big-endian (R202, 92_eei_decisions.md D10). -/
def Memory.wordAt (m : Memory) (a : Nat) : Word32 := BitVec.ofNat 32 (ofBytes ((List.range 4).map fun k => m.read (a + k)))

/-! ## Stored instruction words (R269, R282, 93_implementation_defined.md U30, entry 38) -/

/-- The aligned words that the byte addresses `as` lie in. -/
def wordBases (as : List Nat) : List Nat := (as.map fun a => a / 4 * 4).eraseDups

/-- Where the coherence sequence of a word that this core has stored begins: at the data cache block write-back, where there is
a data cache that has one. -/
def firstStage (c : Config) : Coherence :=
  if c.dcp && (c.dc.cbwbri || c.dc.cbfri) then .stored else .writtenBack

/-- The replaced words after a write to the bytes `as`: with an instruction cache, each word they lie in joins with its
present contents, at the stage at which the sequence begins for the writing agent. -/
def State.noteStale (s : State) (as : List Nat) (g : Coherence) : List StaleWord :=
  if s.cfg.icp then
    (wordBases as).map (fun a => { addr := a, old := s.mem.wordAt a, stage := g }) ++ s.stale
  else s.stale

/-- A replaced word in the cache block of `pa` goes from one of the stages `gs` of the sequence to the stage `h`. -/
def StaleWord.inBlock (e : StaleWord) (cbs : Bool) (pa : Nat) (gs : List Coherence) (h : Coherence) : StaleWord :=
  let n := if cbs then 32 else 16
  if e.stage ∈ gs ∧ e.addr / n = pa / n then { e with stage := h } else e

/-- `l.msync` and `l.csync` wait for the updates that were written back. -/
def synced (es : List StaleWord) : List StaleWord :=
  es.map fun e => if e.stage = .writtenBack then { e with stage := .synced } else e

/-- A synchronisation point: on an implementation with a weakly ordered memory `l.lwa` and `l.swa` wait as `l.msync` does
(20_memory.md R234). -/
def State.syncPoint (s : State) : State := if s.cfg.strongOrder then s else { s with stale := synced s.stale }

/-- `l.psync` would end the sequence of this word: its block has been invalidated. A unified cache has no instruction cache block to
invalidate (20_memory.md R268), so there it is enough that the update has finished (DESIGN CHOICE, entry 45). -/
def StaleWord.flushable (c : Config) (e : StaleWord) : Bool := e.stage == .invalidated || (c.unifiedCache && e.stage == .synced)

/-- `l.psync` flushes the pipeline: it ends the sequence of the words for which nothing else is left to do, and of one that has reached
main memory only the instruction cache may still hold the old word. -/
def flushedOld (c : Config) (es : List StaleWord) : List StaleWord :=
  (es.filter fun e => !e.flushable c).map fun e => if e.stage = .synced then { e with stage := .flushed } else e

/-- The replaced words of the word at `a` that a fetch may still see, newest first. From a page with CI = 1, past all caches (R286), it
does not see one that only the instruction cache may hold. -/
def State.oldWords (s : State) (a : Nat) (ci : Bool) : List Word32 :=
  (s.stale.filter fun e => e.addr == a && !(ci && e.stage == .flushed)).map StaleWord.old

/-! ## The OMPIC (61_platform_units.md R970-R972) -/

/-- The byte address belongs to the OMPIC's registers. -/
def inOmpic (c : Config) (a : Nat) : Bool :=
  match c.ompicBase with
  | none => false
  | some b => decide (b ≤ a ∧ a < b + 8 * c.numCores)

/-- The core and register (control, or status) of an access to the OMPIC, where it is one aligned uncached word. -/
def ompicRegister (c : Config) (as : List Nat) (cached : Bool) : Option (Nat × Bool) :=
  match c.ompicBase, as with
  | some b, a :: _ =>
    if as.length = 4 ∧ b ≤ a ∧ (a - b) % 4 = 0 ∧ as.all (inOmpic c) ∧ cached = false
    then some ((a - b) / 8, (a - b) % 8 == 4) else none
  | _, _ => none

/-- The status registers after the value `v` is stored to control register `i`: acknowledge first, then generate
(R971, 92_eei_decisions.md D37). -/
def ompicControl (st : List Word32) (i : Nat) (v : Word32) : List Word32 :=
  let st1 := if v.getLsbD 31 then st.modify i (fun w => setBit w 30 false) else st
  if v.getLsbD 30 then
    st1.modify (v.extractLsb' 16 14).toNat
      (fun _ => 0x40000000#32 ||| BitVec.ofNat 32 (i % 2 ^ 14) <<< 16 ||| (v.extractLsb' 0 16).setWidth 32)
  else st1

/-! ## Interrupt lines (61_platform_units.md R942, R945) -/

/-- The interrupt lines the core sees: the environment's; where there is an OMPIC, its line of this core is up exactly while
IRQ_PEND = 1, whatever the environment does (R945, R972). -/
def State.irqLines (s : State) : Word32 :=
  if s.cfg.ompicBase.isSome then setBit s.irqIn s.cfg.ompicIrq.toNat ((s.ompic.getD s.cfg.coreId 0).getLsbD 30)
  else s.irqIn

/-- The latches after the lines have risen from `old` to their present levels: a rising edge of an edge-triggered input sets
its latch (R942, R945, entry 24). -/
def State.latchEdges (s : State) (old : Word32) : State :=
  { s with picLatch := s.picLatch ||| (s.irqLines &&& ~~~old &&& s.cfg.picEdge) }

/-- The OMPIC's status registers replaced. The levels of the line before and after are compared: one store that acknowledges and
raises again keeps the line up and makes no edge (DESIGN CHOICE, entry 24; R971 gives the order of the two alone). -/
def State.setOmpic (s : State) (st : List Word32) : State := ({ s with ompic := st }).latchEdges s.irqLines

/-! ## Which physical addresses exist (20_memory.md R207) -/

/-- The byte address is in RAM or in the OMPIC. The regions alone decide, also for an address of more than PA_BITS bits: it is neither
cut nor refused, and exists where a region holds it (DESIGN CHOICE, entry 2: 00_scope.md R8 gives the width and no effect). -/
def byteValid (c : Config) (a : Nat) : Bool :=
  inOmpic c a || c.ram.any (fun r => decide (r.base ≤ a ∧ a < r.base + r.size))

/-- `PhysValid` (R207): every byte of the access exists. -/
def physValid (c : Config) (as : List Nat) : Bool := as.all (byteValid c)

/-! ## Exceptions (60_exceptions.md) -/

/-- The exceptions other than Reset (R842). -/
inductive Exc where
  | busError
  | dataPageFault
  | insnPageFault
  | tickTimer
  | alignment
  | illegal
  | extInt
  | dtlbMiss
  | itlbMiss
  | range
  | syscall
  | floatingPoint
  | trap
  deriving DecidableEq, Repr

/-- The number of an exception: bits 11:8 of its vector offset (R842). -/
def Exc.number : Exc → Nat
  | .busError => 2
  | .dataPageFault => 3
  | .insnPageFault => 4
  | .tickTimer => 5
  | .alignment => 6
  | .illegal => 7
  | .extInt => 8
  | .dtlbMiss => 9
  | .itlbMiss => 10
  | .range => 11
  | .syscall => 12
  | .floatingPoint => 13
  | .trap => 14

/-- EPCR is the next instruction, not the current one: kind B, synchronous (R861). -/
def Exc.savesNext : Exc → Bool
  | .syscall => true
  | .floatingPoint => true
  | _ => false

/-- The exception writes EEAR (R863). -/
def Exc.writesEear : Exc → Bool
  | .busError => true
  | .dataPageFault => true
  | .insnPageFault => true
  | .alignment => true
  | .illegal => true
  | .dtlbMiss => true
  | .itlbMiss => true
  | _ => false

/-- What is raised instead of completing: an exception with its EEAR value, or a refusal. -/
inductive Attempt (α : Type) where
  | ok (a : α)
  | raise (x : Exc) (ea : Word)
  | refuse (r : Refusal)
  deriving DecidableEq, Repr

/-- The base of the exception vectors (R864). -/
def State.vectorBase (s : State) : Word32 :=
  (if s.cfg.hasEvbar then s.evbar &&& 0xFFFFE000 else 0) ||| (if s.eph then 0xF0000000 else 0)

/-- `vector_address(X)` (R864); bits 63:32 are zero (92_eei_decisions.md D8). -/
def State.vectorAddress (s : State) (x : Exc) : Word := zext32 (s.vectorBase ||| BitVec.ofNat 32 (x.number * 256))

/-- The value saved in EPCR (R861). -/
def State.epcFor (s : State) (x : Exc) : Word :=
  trunc s.cfg.xlen (if s.dsPending then s.pc - 4 else if x.savesNext then s.pc + 4 else s.pc)

/-- SR after the entry of an exception, with the new context `n` (R862). -/
def State.entrySr (s : State) (n : BitVec 4) : Word32 :=
  let w := ((s.sr &&& ~~~0x00002066#32) ||| 1#32) ||| (if s.dsPending then 0x2000 else 0)
  if s.fcs then (w &&& 0x0FFFFFFF) ||| (n.setWidth 32 <<< 28) else w

/-- The bit of DSR and DRR for an exception (61_platform_units.md R995). -/
def Exc.dsrBit (x : Exc) : Nat := x.number - 1

/-- The debug unit takes the exception instead of the handler (R860 step 0, R995). -/
def State.redirects (s : State) (x : Exc) : Bool := s.cfg.dup && s.dsr.getLsbD x.dsrBit

/-- All contexts are used: fast context switching is active and SR[CID] = NSGF (R883). -/
def State.contextsUsed (s : State) : Bool := s.fcs && s.cid == s.cfg.nsgf

/-- The context that receives the saved state (R860 step 1, R881, R883). -/
def State.entryCtx (s : State) : BitVec 4 :=
  if s.fcs then (if s.contextsUsed then s.cid else s.cid + 1) else 0

/-- The exception entered for `x`: Range where no context is left (R883). -/
def State.entryExc (s : State) (x : Exc) : Exc := if s.contextsUsed then .range else x

/-- Taking exception `x` with EEAR value `ea`: the entry procedure (R860-R864, 10_state.md R48). The debug unit may stop the core
instead (R995): then DRR gets its bit and nothing else changes. -/
def State.enter (s : State) (x : Exc) (ea : Word) : State :=
  if s.redirects x then { s with drr := setBit s.drr x.dsrBit true, debugStopped := true }
  else
    { s with
      epcr := s.epcr.put s.entryCtx (s.epcFor x)
      esr := s.esr.put s.entryCtx (zext32 s.sr)
      eear := if x.writesEear && !s.contextsUsed then s.eear.put s.entryCtx (trunc s.cfg.xlen ea) else s.eear
      sr := s.entrySr s.entryCtx
      resv := none
      dsPending := false
      dsTarget := 0
      pc := s.vectorAddress (s.entryExc x)
      hist := .entered }

/-- `raise X(info)` as an instruction's answer (00_scope.md R14). -/
def State.raise (s : State) (x : Exc) (ea : Word) : Result := .next (s.enter x ea)

/-- Go on with what an attempt gives, or take the exception or the refusal it answers, from the state `s`. -/
def Attempt.run {α : Type} (t : Attempt α) (s : State) (k : α → Result) : Result :=
  match t with
  | .ok a => k a
  | .raise x ea => s.raise x ea
  | .refuse r => .refused r

/-! ## SR as a whole -/

/-- The value SR takes when `v` is written to it: FO stays 1, bits 27:17 stay 0, LEE stays 0 where it is not supported
(10_state.md R61, 92_eei_decisions.md D6). -/
def srWritten (c : Config) (v : Word32) : Word32 :=
  ((v &&& 0xF0017FFF) ||| 0x00008000) &&& (if c.leeSupported then 0xFFFFFFFF else 0xFFFFFF7F)

/-- Returning from an exception: `pc` and SR come from EPCR and ESR of the current context
(44_orbis_control_system.md R564, 60_exceptions.md R875, R882, 10_state.md R48). -/
def State.leave (s : State) : State :=
  { s with
    sr := srWritten s.cfg ((s.esr.at s.ctx).setWidth 32)
    pc := trunc s.cfg.xlen (s.epcr.at s.ctx) &&& ~~~3
    dsPending := false
    dsTarget := 0
    ppc := s.pc
    hist := .entered }

/-! ## The sequencing of `pc` (44_orbis_control_system.md R551) -/

/-- `pc + d` modulo 2^XLEN. -/
def State.pcPlus (s : State) (d : Word) : Word := trunc s.cfg.xlen (s.pc + d)

/-- How `pc` is reached by completing the instruction of a slot: branched where the jump before it is taken. -/
def PcHistory.afterSlot : PcHistory → PcHistory
  | .slot true => .branched
  | _ => .straight

/-- Completing an instruction that is not a control transfer (R551). -/
def State.advance (s : State) : State :=
  if s.dsPending then
    { s with pc := s.dsTarget, dsPending := false, ppc := s.pc, hist := s.hist.afterSlot }
  else { s with pc := s.pcPlus 4, ppc := s.pc, hist := .straight }

/-- Completing a control transfer (R551); in a delay slot it is refused (U5). -/
def State.transfer (s : State) (taken : Bool) (target : Word) : Result :=
  if s.dsPending then .refused .jumpInDelaySlot
  else if s.cfg.nd then
    .next { s with
      pc := if taken then target else s.pcPlus 4
      ppc := s.pc
      hist := if taken then .branched else .straight }
  else
    .next { s with
      pc := s.pcPlus 4
      dsPending := true
      dsTarget := if taken then target else s.pcPlus 8
      ppc := s.pc
      hist := .slot taken }

/-- The link address of `l.jal` and `l.jalr` (R553). -/
def State.linkAddress (s : State) : Word := s.pcPlus (if s.cfg.nd then 4 else 8)

/-- Completing an arithmetic instruction whose result and flags are written: Range where an enabled condition holds,
with AESR recorded (40_orbis_arith.md R352, 60_exceptions.md R857). -/
def State.finishArith (s : State) (cs : List AeCond) : Result :=
  if cs.any (fun c => c.enabled s) then (s.recordAe cs).raise .range 0 else .next s.advance

/-! ## What stops any instruction -/

/-- The GPR set named by SR[CID] does not exist (U27). -/
def State.contextBad (s : State) : Bool := s.fcs && decide (s.cfg.nsgf.toNat < s.cid.toNat)

/-- A debug condition that may trap is armed (U19): DMR2[WGB], DMR1[ST] or DMR1[BT] is not zero. -/
def State.debugArmed (s : State) : Bool :=
  s.cfg.dup && (s.dmr2.extractLsb' 12 10 != 0 || s.dmr1.getLsbD 22 || s.dmr1.getLsbD 23)

/-- Why no instruction has a meaning in this state, if so. -/
def State.blocked (s : State) : Option Refusal :=
  if s.contextBad then some .contextOutOfRange else if s.debugArmed then some .debugTrap else none

/-! ## Memory accesses at physical addresses -/

/-- The reservation after a store to the bytes `as` (20_memory.md R231). -/
def cancelOverlap (resv : Option Nat) (as : List Nat) : Option Nat :=
  match resv with
  | none => none
  | some r => if as.any (fun a => decide (r ≤ a ∧ a < r + 4)) then none else some r

/-- The value of the data operand at the byte addresses `as` (R202, R203); an OMPIC register as R970-R972 say. -/
def State.loadPhys (s : State) (as : List Nat) (cached : Bool) : Attempt Nat :=
  if as.any (inOmpic s.cfg) then
    match ompicRegister s.cfg as cached with
    | some (i, true) => .ok ((s.ompic.getD i 0) &&& 0x7FFFFFFF).toNat
    | some (_, false) => .ok 0
    | none => .refuse .ompicAccess
  else .ok (ofBytes (s.dataOrder (as.map s.mem.read)))

/-- Store the low bytes of `v` at the byte addresses `as` (R202, R203, R211); a store to an OMPIC control register acts
as R971 says, one to a status register does nothing (R972). An instruction cache may keep the replaced words (R269). -/
def State.storePhys (s : State) (as : List Nat) (v : Word) (cached : Bool) : Attempt State :=
  let t := { s with resv := cancelOverlap s.resv as }
  if as.any (inOmpic s.cfg) then
    match ompicRegister s.cfg as cached with
    | some (i, false) => .ok (t.setOmpic (ompicControl s.ompic i (lo32 v)))
    | some (_, true) => .ok t
    | none => .refuse .ompicAccess
  else
    .ok { t with
      mem := s.mem.writeAll (as.zip (s.dataOrder (toBytes as.length v)))
      stale := s.noteStale as (firstStage s.cfg) }

end Sys2Proof.Machine
end

