-- ==== Sys2Proof/Machine/Issue.lean ====
section
/-! DEFINITION. What every instruction does before its own effect: the checks of decode time (60_exceptions.md R853,
R857, R870), with the tables they read. -/

namespace Sys2Proof.Machine

/-- The subset an instruction belongs to, as far as its presence depends on the configuration (30_encoding.md R301,
R333; the MAC group needs UPR[MP], 40_orbis_arith.md R374). -/
inductive Subset where
  | base
  | mac
  | orbis64
  | orfpx32
  | orfpx64
  | orvdx64
  | custom
  deriving DecidableEq, Repr

/-- A subset is implemented (30_encoding.md R333, 00_scope.md R10). A custom encoding reaches its meaning, which is to
raise Illegal Instruction (R332). -/
def Subset.present (c : Config) : Subset → Bool
  | .base => true
  | .mac => c.mp
  | .orbis64 => c.xlen == .x64 && c.orbis64
  | .orfpx32 => c.orfpx32
  | .orfpx64 => c.xlen == .x64 && c.orfpx64
  | .orvdx64 => c.xlen == .x64 && c.orvdx64
  | .custom => true

/-- The subset of each instruction (the `subset` and `class` columns of spec/opcode_table.json). With XLEN = 64 and HAS_ORBIS64 =
false only `l.ld` and `l.sd` are left out: `l.extws`, `l.extwz` and the ORBIS32 instructions act on 64 bits as ever (DESIGN CHOICE,
entry 43; 30_encoding.md R301 counts their 64-bit forms as ORBIS64). -/
def Instr.subset : Instr → Subset
  | .lAdd .. => .base
  | .lAddc .. => .base
  | .lAddi .. => .base
  | .lAddic .. => .base
  | .lSub .. => .base
  | .lMul .. => .base
  | .lMuli .. => .base
  | .lMulu .. => .base
  | .lDiv .. => .base
  | .lDivu .. => .base
  | .lMac .. => .mac
  | .lMaci .. => .mac
  | .lMacu .. => .mac
  | .lMsb .. => .mac
  | .lMsbu .. => .mac
  | .lMacrc .. => .mac
  | .lMuld .. => .mac
  | .lMuldu .. => .mac
  | .lCmov .. => .base
  | .lFf1 .. => .base
  | .lFl1 .. => .base
  | .lAnd .. => .base
  | .lAndi .. => .base
  | .lOr .. => .base
  | .lOri .. => .base
  | .lXor .. => .base
  | .lXori .. => .base
  | .lSll .. => .base
  | .lSlli .. => .base
  | .lSrl .. => .base
  | .lSrli .. => .base
  | .lSra .. => .base
  | .lSrai .. => .base
  | .lRor .. => .base
  | .lRori .. => .base
  | .lExtbs .. => .base
  | .lExtbz .. => .base
  | .lExths .. => .base
  | .lExthz .. => .base
  | .lExtws .. => .base
  | .lExtwz .. => .base
  | .lMovhi .. => .base
  | .lSfeq .. => .base
  | .lSfne .. => .base
  | .lSfgtu .. => .base
  | .lSfgeu .. => .base
  | .lSfltu .. => .base
  | .lSfleu .. => .base
  | .lSfgts .. => .base
  | .lSfges .. => .base
  | .lSflts .. => .base
  | .lSfles .. => .base
  | .lSfeqi .. => .base
  | .lSfnei .. => .base
  | .lSfgtui .. => .base
  | .lSfgeui .. => .base
  | .lSfltui .. => .base
  | .lSfleui .. => .base
  | .lSfgtsi .. => .base
  | .lSfgesi .. => .base
  | .lSfltsi .. => .base
  | .lSflesi .. => .base
  | .lLbz .. => .base
  | .lLbs .. => .base
  | .lLhz .. => .base
  | .lLhs .. => .base
  | .lLwz .. => .base
  | .lLws .. => .base
  | .lLd .. => .orbis64
  | .lLwa .. => .base
  | .lSb .. => .base
  | .lSh .. => .base
  | .lSw .. => .base
  | .lSd .. => .orbis64
  | .lSwa .. => .base
  | .lJ .. => .base
  | .lJal .. => .base
  | .lJr .. => .base
  | .lJalr .. => .base
  | .lBf .. => .base
  | .lBnf .. => .base
  | .lNop .. => .base
  | .lSys .. => .base
  | .lTrap .. => .base
  | .lRfe .. => .base
  | .lMtspr .. => .base
  | .lMfspr .. => .base
  | .lMsync .. => .base
  | .lCsync .. => .base
  | .lPsync .. => .base
  | .lfAddS .. => .orfpx32
  | .lfSubS .. => .orfpx32
  | .lfMulS .. => .orfpx32
  | .lfDivS .. => .orfpx32
  | .lfRemS .. => .orfpx32
  | .lfMaddS .. => .orfpx32
  | .lfItofS .. => .orfpx32
  | .lfFtoiS .. => .orfpx32
  | .lfSfeqS .. => .orfpx32
  | .lfSfneS .. => .orfpx32
  | .lfSfgtS .. => .orfpx32
  | .lfSfgeS .. => .orfpx32
  | .lfSfltS .. => .orfpx32
  | .lfSfleS .. => .orfpx32
  | .lfCust1S .. => .custom
  | .lfAddD .. => .orfpx64
  | .lfSubD .. => .orfpx64
  | .lfMulD .. => .orfpx64
  | .lfDivD .. => .orfpx64
  | .lfRemD .. => .orfpx64
  | .lfMaddD .. => .orfpx64
  | .lfItofD .. => .orfpx64
  | .lfFtoiD .. => .orfpx64
  | .lfSfeqD .. => .orfpx64
  | .lfSfneD .. => .orfpx64
  | .lfSfgtD .. => .orfpx64
  | .lfSfgeD .. => .orfpx64
  | .lfSfltD .. => .orfpx64
  | .lfSfleD .. => .orfpx64
  | .lfCust1D .. => .custom
  | .lvAddB .. => .orvdx64
  | .lvAddH .. => .orvdx64
  | .lvAddsB .. => .orvdx64
  | .lvAddsH .. => .orvdx64
  | .lvAdduB .. => .orvdx64
  | .lvAdduH .. => .orvdx64
  | .lvAddusB .. => .orvdx64
  | .lvAddusH .. => .orvdx64
  | .lvAllEqB .. => .orvdx64
  | .lvAllEqH .. => .orvdx64
  | .lvAllGeB .. => .orvdx64
  | .lvAllGeH .. => .orvdx64
  | .lvAllGtB .. => .orvdx64
  | .lvAllGtH .. => .orvdx64
  | .lvAllLeB .. => .orvdx64
  | .lvAllLeH .. => .orvdx64
  | .lvAllLtB .. => .orvdx64
  | .lvAllLtH .. => .orvdx64
  | .lvAllNeB .. => .orvdx64
  | .lvAllNeH .. => .orvdx64
  | .lvAnyEqB .. => .orvdx64
  | .lvAnyEqH .. => .orvdx64
  | .lvAnyGeB .. => .orvdx64
  | .lvAnyGeH .. => .orvdx64
  | .lvAnyGtB .. => .orvdx64
  | .lvAnyGtH .. => .orvdx64
  | .lvAnyLeB .. => .orvdx64
  | .lvAnyLeH .. => .orvdx64
  | .lvAnyLtB .. => .orvdx64
  | .lvAnyLtH .. => .orvdx64
  | .lvAnyNeB .. => .orvdx64
  | .lvAnyNeH .. => .orvdx64
  | .lvAnd .. => .orvdx64
  | .lvAvgB .. => .orvdx64
  | .lvAvgH .. => .orvdx64
  | .lvCmpEqB .. => .orvdx64
  | .lvCmpEqH .. => .orvdx64
  | .lvCmpGeB .. => .orvdx64
  | .lvCmpGeH .. => .orvdx64
  | .lvCmpGtB .. => .orvdx64
  | .lvCmpGtH .. => .orvdx64
  | .lvCmpLeB .. => .orvdx64
  | .lvCmpLeH .. => .orvdx64
  | .lvCmpLtB .. => .orvdx64
  | .lvCmpLtH .. => .orvdx64
  | .lvCmpNeB .. => .orvdx64
  | .lvCmpNeH .. => .orvdx64
  | .lvMaddsH .. => .orvdx64
  | .lvMaxB .. => .orvdx64
  | .lvMaxH .. => .orvdx64
  | .lvMergeB .. => .orvdx64
  | .lvMergeH .. => .orvdx64
  | .lvMinB .. => .orvdx64
  | .lvMinH .. => .orvdx64
  | .lvMsubsH .. => .orvdx64
  | .lvMulsH .. => .orvdx64
  | .lvNand .. => .orvdx64
  | .lvNor .. => .orvdx64
  | .lvOr .. => .orvdx64
  | .lvPackB .. => .orvdx64
  | .lvPackH .. => .orvdx64
  | .lvPacksB .. => .orvdx64
  | .lvPacksH .. => .orvdx64
  | .lvPackusB .. => .orvdx64
  | .lvPackusH .. => .orvdx64
  | .lvPermN .. => .orvdx64
  | .lvRlB .. => .orvdx64
  | .lvRlH .. => .orvdx64
  | .lvSllB .. => .orvdx64
  | .lvSllH .. => .orvdx64
  | .lvSll .. => .orvdx64
  | .lvSrlB .. => .orvdx64
  | .lvSrlH .. => .orvdx64
  | .lvSraB .. => .orvdx64
  | .lvSraH .. => .orvdx64
  | .lvSrl .. => .orvdx64
  | .lvSubB .. => .orvdx64
  | .lvSubH .. => .orvdx64
  | .lvSubsB .. => .orvdx64
  | .lvSubsH .. => .orvdx64
  | .lvSubuB .. => .orvdx64
  | .lvSubuH .. => .orvdx64
  | .lvSubusB .. => .orvdx64
  | .lvSubusH .. => .orvdx64
  | .lvUnpackB .. => .orvdx64
  | .lvUnpackH .. => .orvdx64
  | .lvXor .. => .orvdx64
  | .lvCust1 .. => .custom
  | .lvCust2 .. => .custom
  | .lvCust3 .. => .custom
  | .lvCust4 .. => .custom
  | .lCust1 .. => .custom
  | .lCust2 .. => .custom
  | .lCust3 .. => .custom
  | .lCust4 .. => .custom
  | .lCust5 .. => .custom
  | .lCust6 .. => .custom
  | .lCust7 .. => .custom
  | .lCust8 .. => .custom

/-- The register numbers an instruction uses that are checked before its effect (60_exceptions.md R857 (2)); `lv.unpack`
does not use its B field (47_orvdx_b.md R798). For loads,
stores and the SPR moves only rA stands here: their other register is checked after the conditions of higher priority
(R870, entry 17). The D field of `lf.madd`, which its pseudocode does not use (45_orfpx.md R615, R630), counts as used, since the
assembler names rD: a missing rD raises Range and not the refusal (DESIGN CHOICE, entry 17). -/
def Instr.regsNow : Instr → List Reg
  | .lAdd rd ra rb => [rd, ra, rb]
  | .lAddc rd ra rb => [rd, ra, rb]
  | .lAddi rd ra _ => [rd, ra]
  | .lAddic rd ra _ => [rd, ra]
  | .lSub rd ra rb => [rd, ra, rb]
  | .lMul rd ra rb => [rd, ra, rb]
  | .lMuli rd ra _ => [rd, ra]
  | .lMulu rd ra rb => [rd, ra, rb]
  | .lDiv rd ra rb => [rd, ra, rb]
  | .lDivu rd ra rb => [rd, ra, rb]
  | .lMac ra rb => [ra, rb]
  | .lMaci ra _ => [ra]
  | .lMacu ra rb => [ra, rb]
  | .lMsb ra rb => [ra, rb]
  | .lMsbu ra rb => [ra, rb]
  | .lMacrc rd => [rd]
  | .lMuld ra rb => [ra, rb]
  | .lMuldu ra rb => [ra, rb]
  | .lCmov rd ra rb => [rd, ra, rb]
  | .lFf1 rd ra => [rd, ra]
  | .lFl1 rd ra => [rd, ra]
  | .lAnd rd ra rb => [rd, ra, rb]
  | .lAndi rd ra _ => [rd, ra]
  | .lOr rd ra rb => [rd, ra, rb]
  | .lOri rd ra _ => [rd, ra]
  | .lXor rd ra rb => [rd, ra, rb]
  | .lXori rd ra _ => [rd, ra]
  | .lSll rd ra rb => [rd, ra, rb]
  | .lSlli rd ra _ => [rd, ra]
  | .lSrl rd ra rb => [rd, ra, rb]
  | .lSrli rd ra _ => [rd, ra]
  | .lSra rd ra rb => [rd, ra, rb]
  | .lSrai rd ra _ => [rd, ra]
  | .lRor rd ra rb => [rd, ra, rb]
  | .lRori rd ra _ => [rd, ra]
  | .lExtbs rd ra => [rd, ra]
  | .lExtbz rd ra => [rd, ra]
  | .lExths rd ra => [rd, ra]
  | .lExthz rd ra => [rd, ra]
  | .lExtws rd ra => [rd, ra]
  | .lExtwz rd ra => [rd, ra]
  | .lMovhi rd _ => [rd]
  | .lSfeq ra rb => [ra, rb]
  | .lSfne ra rb => [ra, rb]
  | .lSfgtu ra rb => [ra, rb]
  | .lSfgeu ra rb => [ra, rb]
  | .lSfltu ra rb => [ra, rb]
  | .lSfleu ra rb => [ra, rb]
  | .lSfgts ra rb => [ra, rb]
  | .lSfges ra rb => [ra, rb]
  | .lSflts ra rb => [ra, rb]
  | .lSfles ra rb => [ra, rb]
  | .lSfeqi ra _ => [ra]
  | .lSfnei ra _ => [ra]
  | .lSfgtui ra _ => [ra]
  | .lSfgeui ra _ => [ra]
  | .lSfltui ra _ => [ra]
  | .lSfleui ra _ => [ra]
  | .lSfgtsi ra _ => [ra]
  | .lSfgesi ra _ => [ra]
  | .lSfltsi ra _ => [ra]
  | .lSflesi ra _ => [ra]
  | .lLbz _ ra _ => [ra]
  | .lLbs _ ra _ => [ra]
  | .lLhz _ ra _ => [ra]
  | .lLhs _ ra _ => [ra]
  | .lLwz _ ra _ => [ra]
  | .lLws _ ra _ => [ra]
  | .lLd _ ra _ => [ra]
  | .lLwa _ ra _ => [ra]
  | .lSb ra _ _ => [ra]
  | .lSh ra _ _ => [ra]
  | .lSw ra _ _ => [ra]
  | .lSd ra _ _ => [ra]
  | .lSwa ra _ _ => [ra]
  | .lJ _ => []
  | .lJal _ => []
  | .lJr rb => [rb]
  | .lJalr rb => [rb]
  | .lBf _ => []
  | .lBnf _ => []
  | .lNop _ => []
  | .lSys _ => []
  | .lTrap _ => []
  | .lRfe => []
  | .lMtspr ra _ _ => [ra]
  | .lMfspr _ ra _ => [ra]
  | .lMsync => []
  | .lCsync => []
  | .lPsync => []
  | .lfAddS rd ra rb => [rd, ra, rb]
  | .lfSubS rd ra rb => [rd, ra, rb]
  | .lfMulS rd ra rb => [rd, ra, rb]
  | .lfDivS rd ra rb => [rd, ra, rb]
  | .lfRemS rd ra rb => [rd, ra, rb]
  | .lfMaddS rd ra rb => [rd, ra, rb]
  | .lfItofS rd ra => [rd, ra]
  | .lfFtoiS rd ra => [rd, ra]
  | .lfSfeqS ra rb => [ra, rb]
  | .lfSfneS ra rb => [ra, rb]
  | .lfSfgtS ra rb => [ra, rb]
  | .lfSfgeS ra rb => [ra, rb]
  | .lfSfltS ra rb => [ra, rb]
  | .lfSfleS ra rb => [ra, rb]
  | .lfCust1S _ _ => []
  | .lfAddD rd ra rb => [rd, ra, rb]
  | .lfSubD rd ra rb => [rd, ra, rb]
  | .lfMulD rd ra rb => [rd, ra, rb]
  | .lfDivD rd ra rb => [rd, ra, rb]
  | .lfRemD rd ra rb => [rd, ra, rb]
  | .lfMaddD rd ra rb => [rd, ra, rb]
  | .lfItofD rd ra => [rd, ra]
  | .lfFtoiD rd ra => [rd, ra]
  | .lfSfeqD ra rb => [ra, rb]
  | .lfSfneD ra rb => [ra, rb]
  | .lfSfgtD ra rb => [ra, rb]
  | .lfSfgeD ra rb => [ra, rb]
  | .lfSfltD ra rb => [ra, rb]
  | .lfSfleD ra rb => [ra, rb]
  | .lfCust1D _ _ => []
  | .lvAddB rd ra rb => [rd, ra, rb]
  | .lvAddH rd ra rb => [rd, ra, rb]
  | .lvAddsB rd ra rb => [rd, ra, rb]
  | .lvAddsH rd ra rb => [rd, ra, rb]
  | .lvAdduB rd ra rb => [rd, ra, rb]
  | .lvAdduH rd ra rb => [rd, ra, rb]
  | .lvAddusB rd ra rb => [rd, ra, rb]
  | .lvAddusH rd ra rb => [rd, ra, rb]
  | .lvAllEqB rd ra rb => [rd, ra, rb]
  | .lvAllEqH rd ra rb => [rd, ra, rb]
  | .lvAllGeB rd ra rb => [rd, ra, rb]
  | .lvAllGeH rd ra rb => [rd, ra, rb]
  | .lvAllGtB rd ra rb => [rd, ra, rb]
  | .lvAllGtH rd ra rb => [rd, ra, rb]
  | .lvAllLeB rd ra rb => [rd, ra, rb]
  | .lvAllLeH rd ra rb => [rd, ra, rb]
  | .lvAllLtB rd ra rb => [rd, ra, rb]
  | .lvAllLtH rd ra rb => [rd, ra, rb]
  | .lvAllNeB rd ra rb => [rd, ra, rb]
  | .lvAllNeH rd ra rb => [rd, ra, rb]
  | .lvAnyEqB rd ra rb => [rd, ra, rb]
  | .lvAnyEqH rd ra rb => [rd, ra, rb]
  | .lvAnyGeB rd ra rb => [rd, ra, rb]
  | .lvAnyGeH rd ra rb => [rd, ra, rb]
  | .lvAnyGtB rd ra rb => [rd, ra, rb]
  | .lvAnyGtH rd ra rb => [rd, ra, rb]
  | .lvAnyLeB rd ra rb => [rd, ra, rb]
  | .lvAnyLeH rd ra rb => [rd, ra, rb]
  | .lvAnyLtB rd ra rb => [rd, ra, rb]
  | .lvAnyLtH rd ra rb => [rd, ra, rb]
  | .lvAnyNeB rd ra rb => [rd, ra, rb]
  | .lvAnyNeH rd ra rb => [rd, ra, rb]
  | .lvAnd rd ra rb => [rd, ra, rb]
  | .lvAvgB rd ra rb => [rd, ra, rb]
  | .lvAvgH rd ra rb => [rd, ra, rb]
  | .lvCmpEqB rd ra rb => [rd, ra, rb]
  | .lvCmpEqH rd ra rb => [rd, ra, rb]
  | .lvCmpGeB rd ra rb => [rd, ra, rb]
  | .lvCmpGeH rd ra rb => [rd, ra, rb]
  | .lvCmpGtB rd ra rb => [rd, ra, rb]
  | .lvCmpGtH rd ra rb => [rd, ra, rb]
  | .lvCmpLeB rd ra rb => [rd, ra, rb]
  | .lvCmpLeH rd ra rb => [rd, ra, rb]
  | .lvCmpLtB rd ra rb => [rd, ra, rb]
  | .lvCmpLtH rd ra rb => [rd, ra, rb]
  | .lvCmpNeB rd ra rb => [rd, ra, rb]
  | .lvCmpNeH rd ra rb => [rd, ra, rb]
  | .lvMaddsH rd ra rb => [rd, ra, rb]
  | .lvMaxB rd ra rb => [rd, ra, rb]
  | .lvMaxH rd ra rb => [rd, ra, rb]
  | .lvMergeB rd ra rb => [rd, ra, rb]
  | .lvMergeH rd ra rb => [rd, ra, rb]
  | .lvMinB rd ra rb => [rd, ra, rb]
  | .lvMinH rd ra rb => [rd, ra, rb]
  | .lvMsubsH rd ra rb => [rd, ra, rb]
  | .lvMulsH rd ra rb => [rd, ra, rb]
  | .lvNand rd ra rb => [rd, ra, rb]
  | .lvNor rd ra rb => [rd, ra, rb]
  | .lvOr rd ra rb => [rd, ra, rb]
  | .lvPackB rd ra rb => [rd, ra, rb]
  | .lvPackH rd ra rb => [rd, ra, rb]
  | .lvPacksB rd ra rb => [rd, ra, rb]
  | .lvPacksH rd ra rb => [rd, ra, rb]
  | .lvPackusB rd ra rb => [rd, ra, rb]
  | .lvPackusH rd ra rb => [rd, ra, rb]
  | .lvPermN rd ra rb => [rd, ra, rb]
  | .lvRlB rd ra rb => [rd, ra, rb]
  | .lvRlH rd ra rb => [rd, ra, rb]
  | .lvSllB rd ra rb => [rd, ra, rb]
  | .lvSllH rd ra rb => [rd, ra, rb]
  | .lvSll rd ra rb => [rd, ra, rb]
  | .lvSrlB rd ra rb => [rd, ra, rb]
  | .lvSrlH rd ra rb => [rd, ra, rb]
  | .lvSraB rd ra rb => [rd, ra, rb]
  | .lvSraH rd ra rb => [rd, ra, rb]
  | .lvSrl rd ra rb => [rd, ra, rb]
  | .lvSubB rd ra rb => [rd, ra, rb]
  | .lvSubH rd ra rb => [rd, ra, rb]
  | .lvSubsB rd ra rb => [rd, ra, rb]
  | .lvSubsH rd ra rb => [rd, ra, rb]
  | .lvSubuB rd ra rb => [rd, ra, rb]
  | .lvSubuH rd ra rb => [rd, ra, rb]
  | .lvSubusB rd ra rb => [rd, ra, rb]
  | .lvSubusH rd ra rb => [rd, ra, rb]
  | .lvUnpackB rd ra _ => [rd, ra]
  | .lvUnpackH rd ra _ => [rd, ra]
  | .lvXor rd ra rb => [rd, ra, rb]
  | .lvCust1 => []
  | .lvCust2 => []
  | .lvCust3 => []
  | .lvCust4 => []
  | .lCust1 => []
  | .lCust2 => []
  | .lCust3 => []
  | .lCust4 => []
  | .lCust5 _ _ _ _ _ => []
  | .lCust6 => []
  | .lCust7 => []
  | .lCust8 => []

/-- An instruction is implemented: its subset is, and CLASS2 has not left it out (30_encoding.md R333). -/
def present (c : Config) (i : Instr) : Bool := (Instr.subset i).present c && !c.absent.contains i.row

/-- What comes before the effect `k` of instruction `i`: nothing has a meaning in a blocked state (U19, U27); an absent
instruction raises Illegal Instruction with EEAR = `pc` (R853); a register that does not exist raises Range (R857). -/
def issue (i : Instr) (s : State) (k : State → Result) : Result :=
  match s.blocked with
  | some r => .refused r
  | none =>
    if present s.cfg i then
      if (Instr.regsNow i).any s.regMissing then s.raise .range 0 else k s
    else s.raise .illegal s.pc

end Sys2Proof.Machine
end

