-- ==== Sys2Proof/Machine/Arith.lean ====
section
/-! DEFINITION. Integer arithmetic, conditional move and bit search (40_orbis_arith.md R350-R363, R376-R379). -/

namespace Sys2Proof.Machine

/-! ## Shared operations -/

/-- Addition with a carry in: exact sums, narrowed result, CY on unsigned and OV on signed overflow (R351, R353, R354). -/
def State.addOp (s : State) (rd : Reg) (a b : Word) (cin : Bool) : Result :=
  let u := uval s.cfg.xlen a + uval s.cfg.xlen b + cin.toNat
  let z := sval s.cfg.xlen a + sval s.cfg.xlen b + cin.toNat
  (((s.setGpr rd (ofNat s.cfg.xlen u)).setCarry (unsignedOut s.cfg.xlen u)).setOverflow
      (signedOut s.cfg.xlen z)).finishArith
    [{ bit := .ovAdd, isOv := true, holds := signedOut s.cfg.xlen z },
     { bit := .cyAdd, isOv := false, holds := unsignedOut s.cfg.xlen u }]

/-- Subtraction: CY is the borrow (R351, R357). -/
def State.subOp (s : State) (rd : Reg) (a b : Word) : Result :=
  let borrow := decide (uval s.cfg.xlen a < uval s.cfg.xlen b)
  let z := sval s.cfg.xlen a - sval s.cfg.xlen b
  (((s.setGpr rd (ofInt s.cfg.xlen z)).setCarry borrow).setOverflow (signedOut s.cfg.xlen z)).finishArith
    [{ bit := .ovAdd, isOv := true, holds := signedOut s.cfg.xlen z },
     { bit := .cyAdd, isOv := false, holds := borrow }]

/-- Signed multiplication: OV on signed overflow, CY unchanged (R358). -/
def State.mulOp (s : State) (rd : Reg) (a b : Word) : Result :=
  let z := sval s.cfg.xlen a * sval s.cfg.xlen b
  ((s.setGpr rd (ofInt s.cfg.xlen z)).setOverflow (signedOut s.cfg.xlen z)).finishArith
    [{ bit := .ovMul, isOv := true, holds := signedOut s.cfg.xlen z }]

/-- Unsigned multiplication: CY on unsigned overflow, OV unchanged (R360). -/
def State.muluOp (s : State) (rd : Reg) (a b : Word) : Result :=
  let u := uval s.cfg.xlen a * uval s.cfg.xlen b
  ((s.setGpr rd (ofNat s.cfg.xlen u)).setCarry (unsignedOut s.cfg.xlen u)).finishArith
    [{ bit := .cyMul, isOv := false, holds := unsignedOut s.cfg.xlen u }]

/-- Signed division: truncated toward zero, OV exactly on a zero divisor (R361, R363, 92_eei_decisions.md D22). -/
def State.divOp (s : State) (rd : Reg) (a b : Word) : Result :=
  if sval s.cfg.xlen b = 0 then
    ((s.draw.2.setGpr rd s.draw.1).setOverflow true).finishArith [{ bit := .dbz, isOv := true, holds := true }]
  else
    ((s.setGpr rd (ofInt s.cfg.xlen (Int.tdiv (sval s.cfg.xlen a) (sval s.cfg.xlen b)))).setOverflow false).finishArith
      [{ bit := .dbz, isOv := true, holds := false }]

/-- Unsigned division: CY exactly on a zero divisor (R362). -/
def State.divuOp (s : State) (rd : Reg) (a b : Word) : Result :=
  if uval s.cfg.xlen b = 0 then
    ((s.draw.2.setGpr rd s.draw.1).setCarry true).finishArith [{ bit := .dbz, isOv := false, holds := true }]
  else
    ((s.setGpr rd (ofNat s.cfg.xlen (uval s.cfg.xlen a / uval s.cfg.xlen b))).setCarry false).finishArith
      [{ bit := .dbz, isOv := false, holds := false }]

/-- Writing one register and completing, with no flag and no exception. -/
def State.writeReg (s : State) (rd : Reg) (v : Word) : Result := .next (s.setGpr rd v).advance

/-- The 1-based position of the lowest set bit among bits `i`, `i+1`, … (`n` of them), 0 if none. -/
def lowestOne (v : Word) (i : Nat) : Nat → Nat
  | 0 => 0
  | n + 1 => if v.getLsbD i then i + 1 else lowestOne v (i + 1) n

/-- The 1-based position of the highest set bit among bits `n-1` to 0, 0 if none. -/
def highestOne (v : Word) : Nat → Nat
  | 0 => 0
  | n + 1 => if v.getLsbD n then n + 1 else highestOne v n

/-! ## The instructions -/

/-- `l.add` (R353). -/
def execLAdd (rd ra rb : Reg) (s : State) : Result :=
  issue (.lAdd rd ra rb) s fun s => s.addOp rd (s.gpr ra) (s.gpr rb) false

/-- `l.addc` (R354). -/
def execLAddc (rd ra rb : Reg) (s : State) : Result :=
  issue (.lAddc rd ra rb) s fun s => s.addOp rd (s.gpr ra) (s.gpr rb) s.carry

/-- `l.addi` (R355). -/
def execLAddi (rd ra : Reg) (i : BitVec 16) (s : State) : Result :=
  issue (.lAddi rd ra i) s fun s => s.addOp rd (s.gpr ra) (sext16 s.cfg.xlen i) false

/-- `l.addic` (R356). -/
def execLAddic (rd ra : Reg) (i : BitVec 16) (s : State) : Result :=
  issue (.lAddic rd ra i) s fun s => s.addOp rd (s.gpr ra) (sext16 s.cfg.xlen i) s.carry

/-- `l.sub` (R357). -/
def execLSub (rd ra rb : Reg) (s : State) : Result :=
  issue (.lSub rd ra rb) s fun s => s.subOp rd (s.gpr ra) (s.gpr rb)

/-- `l.mul` (R358). -/
def execLMul (rd ra rb : Reg) (s : State) : Result :=
  issue (.lMul rd ra rb) s fun s => s.mulOp rd (s.gpr ra) (s.gpr rb)

/-- `l.muli` (R359). -/
def execLMuli (rd ra : Reg) (i : BitVec 16) (s : State) : Result :=
  issue (.lMuli rd ra i) s fun s => s.mulOp rd (s.gpr ra) (sext16 s.cfg.xlen i)

/-- `l.mulu` (R360). -/
def execLMulu (rd ra rb : Reg) (s : State) : Result :=
  issue (.lMulu rd ra rb) s fun s => s.muluOp rd (s.gpr ra) (s.gpr rb)

/-- `l.div` (R361). -/
def execLDiv (rd ra rb : Reg) (s : State) : Result :=
  issue (.lDiv rd ra rb) s fun s => s.divOp rd (s.gpr ra) (s.gpr rb)

/-- `l.divu` (R362). -/
def execLDivu (rd ra rb : Reg) (s : State) : Result :=
  issue (.lDivu rd ra rb) s fun s => s.divuOp rd (s.gpr ra) (s.gpr rb)

/-- `l.cmov` (R376). -/
def execLCmov (rd ra rb : Reg) (s : State) : Result :=
  issue (.lCmov rd ra rb) s fun s => s.writeReg rd (if s.flag then s.gpr ra else s.gpr rb)

/-- `l.ff1` (R378). -/
def execLFf1 (rd ra : Reg) (s : State) : Result :=
  issue (.lFf1 rd ra) s fun s => s.writeReg rd (BitVec.ofNat 64 (lowestOne (s.gpr ra) 0 s.cfg.xlen.bits))

/-- `l.fl1` (R379). -/
def execLFl1 (rd ra : Reg) (s : State) : Result :=
  issue (.lFl1 rd ra) s fun s => s.writeReg rd (BitVec.ofNat 64 (highestOne (s.gpr ra) s.cfg.xlen.bits))

end Sys2Proof.Machine
end

