-- ==== Sys2Proof/Machine/Compare.lean ====
section
/-! DEFINITION. Compares: each writes SR[F] and nothing else (42_orbis_compare.md R450-R472). -/

namespace Sys2Proof.Machine

/-- Writing SR[F] and completing (R450). -/
def State.writeFlag (s : State) (b : Bool) : Result := .next (s.setFlag b).advance

/-- An unsigned comparison of XLEN bits (R451). -/
def State.cmpU (s : State) (p : Nat → Nat → Bool) (a b : Word) : Result :=
  s.writeFlag (p (uval s.cfg.xlen a) (uval s.cfg.xlen b))

/-- A signed comparison of XLEN bits (R451). -/
def State.cmpS (s : State) (p : Int → Int → Bool) (a b : Word) : Result :=
  s.writeFlag (p (sval s.cfg.xlen a) (sval s.cfg.xlen b))

/-- `l.sfeq` (R453). -/
def execLSfeq (ra : Reg) (rb : Reg) (s : State) : Result :=
  issue (.lSfeq ra rb) s fun s => s.cmpU (fun a b => a == b) (s.gpr ra) (s.gpr rb)

/-- `l.sfne` (R454). -/
def execLSfne (ra : Reg) (rb : Reg) (s : State) : Result :=
  issue (.lSfne ra rb) s fun s => s.cmpU (fun a b => a != b) (s.gpr ra) (s.gpr rb)

/-- `l.sfgtu` (R455). -/
def execLSfgtu (ra : Reg) (rb : Reg) (s : State) : Result :=
  issue (.lSfgtu ra rb) s fun s => s.cmpU (fun a b => decide (a > b)) (s.gpr ra) (s.gpr rb)

/-- `l.sfgeu` (R456). -/
def execLSfgeu (ra : Reg) (rb : Reg) (s : State) : Result :=
  issue (.lSfgeu ra rb) s fun s => s.cmpU (fun a b => decide (a ≥ b)) (s.gpr ra) (s.gpr rb)

/-- `l.sfltu` (R457). -/
def execLSfltu (ra : Reg) (rb : Reg) (s : State) : Result :=
  issue (.lSfltu ra rb) s fun s => s.cmpU (fun a b => decide (a < b)) (s.gpr ra) (s.gpr rb)

/-- `l.sfleu` (R458). -/
def execLSfleu (ra : Reg) (rb : Reg) (s : State) : Result :=
  issue (.lSfleu ra rb) s fun s => s.cmpU (fun a b => decide (a ≤ b)) (s.gpr ra) (s.gpr rb)

/-- `l.sfgts` (R459). -/
def execLSfgts (ra : Reg) (rb : Reg) (s : State) : Result :=
  issue (.lSfgts ra rb) s fun s => s.cmpS (fun a b => decide (a > b)) (s.gpr ra) (s.gpr rb)

/-- `l.sfges` (R460). -/
def execLSfges (ra : Reg) (rb : Reg) (s : State) : Result :=
  issue (.lSfges ra rb) s fun s => s.cmpS (fun a b => decide (a ≥ b)) (s.gpr ra) (s.gpr rb)

/-- `l.sflts` (R461). -/
def execLSflts (ra : Reg) (rb : Reg) (s : State) : Result :=
  issue (.lSflts ra rb) s fun s => s.cmpS (fun a b => decide (a < b)) (s.gpr ra) (s.gpr rb)

/-- `l.sfles` (R462). -/
def execLSfles (ra : Reg) (rb : Reg) (s : State) : Result :=
  issue (.lSfles ra rb) s fun s => s.cmpS (fun a b => decide (a ≤ b)) (s.gpr ra) (s.gpr rb)

/-- `l.sfeqi` (R463). -/
def execLSfeqi (ra : Reg) (i : BitVec 16) (s : State) : Result :=
  issue (.lSfeqi ra i) s fun s => s.cmpU (fun a b => a == b) (s.gpr ra) (sext16 s.cfg.xlen i)

/-- `l.sfnei` (R464). -/
def execLSfnei (ra : Reg) (i : BitVec 16) (s : State) : Result :=
  issue (.lSfnei ra i) s fun s => s.cmpU (fun a b => a != b) (s.gpr ra) (sext16 s.cfg.xlen i)

/-- `l.sfgtui` (R465). -/
def execLSfgtui (ra : Reg) (i : BitVec 16) (s : State) : Result :=
  issue (.lSfgtui ra i) s fun s => s.cmpU (fun a b => decide (a > b)) (s.gpr ra) (sext16 s.cfg.xlen i)

/-- `l.sfgeui` (R466). -/
def execLSfgeui (ra : Reg) (i : BitVec 16) (s : State) : Result :=
  issue (.lSfgeui ra i) s fun s => s.cmpU (fun a b => decide (a ≥ b)) (s.gpr ra) (sext16 s.cfg.xlen i)

/-- `l.sfltui` (R467). -/
def execLSfltui (ra : Reg) (i : BitVec 16) (s : State) : Result :=
  issue (.lSfltui ra i) s fun s => s.cmpU (fun a b => decide (a < b)) (s.gpr ra) (sext16 s.cfg.xlen i)

/-- `l.sfleui` (R468). -/
def execLSfleui (ra : Reg) (i : BitVec 16) (s : State) : Result :=
  issue (.lSfleui ra i) s fun s => s.cmpU (fun a b => decide (a ≤ b)) (s.gpr ra) (sext16 s.cfg.xlen i)

/-- `l.sfgtsi` (R469). -/
def execLSfgtsi (ra : Reg) (i : BitVec 16) (s : State) : Result :=
  issue (.lSfgtsi ra i) s fun s => s.cmpS (fun a b => decide (a > b)) (s.gpr ra) (sext16 s.cfg.xlen i)

/-- `l.sfgesi` (R470). -/
def execLSfgesi (ra : Reg) (i : BitVec 16) (s : State) : Result :=
  issue (.lSfgesi ra i) s fun s => s.cmpS (fun a b => decide (a ≥ b)) (s.gpr ra) (sext16 s.cfg.xlen i)

/-- `l.sfltsi` (R471). -/
def execLSfltsi (ra : Reg) (i : BitVec 16) (s : State) : Result :=
  issue (.lSfltsi ra i) s fun s => s.cmpS (fun a b => decide (a < b)) (s.gpr ra) (sext16 s.cfg.xlen i)

/-- `l.sflesi` (R472). -/
def execLSflesi (ra : Reg) (i : BitVec 16) (s : State) : Result :=
  issue (.lSflesi ra i) s fun s => s.cmpS (fun a b => decide (a ≤ b)) (s.gpr ra) (sext16 s.cfg.xlen i)

end Sys2Proof.Machine
end

