-- ==== Sys2Proof/Machine/Control.lean ====
section
/-! DEFINITION. Jumps and branches (44_orbis_control_system.md R550-R558, R562, R563). -/

namespace Sys2Proof.Machine

/-- The target of a PC-relative transfer (R552). -/
def State.jumpTarget (s : State) (n : BitVec 26) : Word := s.pcPlus (jumpOffset s.cfg.xlen n)

/-- A register target is not a multiple of four (R556). -/
def targetMisaligned (v : Word) : Bool := v.extractLsb' 0 2 != 0

/-- A transfer that writes the link register r9 first (R553, R555). In a delay slot it is refused (U5). -/
def State.linkAndTransfer (s : State) (target : Word) : Result := (s.setGpr 9 s.linkAddress).transfer true target

/-- `l.j` (R552). -/
def execLJ (n : BitVec 26) (s : State) : Result :=
  issue (.lJ n) s fun s => s.transfer true (s.jumpTarget n)

/-- `l.jal` (R553). -/
def execLJal (n : BitVec 26) (s : State) : Result :=
  issue (.lJal n) s fun s => s.linkAndTransfer (s.jumpTarget n)

/-- `l.jr` (R554): a misaligned target raises Alignment at the jump (R556, 92_eei_decisions.md D24). -/
def execLJr (rb : Reg) (s : State) : Result :=
  issue (.lJr rb) s fun s =>
    if targetMisaligned (s.gpr rb) then s.raise .alignment (s.gpr rb) else s.transfer true (s.gpr rb)

/-- `l.jalr` (R555): the target is read before r9 is written; `l.jalr r9` jumps to the old r9 (U7, entry 33). -/
def execLJalr (rb : Reg) (s : State) : Result :=
  issue (.lJalr rb) s fun s =>
    if targetMisaligned (s.gpr rb) then s.raise .alignment (s.gpr rb) else s.linkAndTransfer (s.gpr rb)

/-- `l.bf` (R557). -/
def execLBf (n : BitVec 26) (s : State) : Result :=
  issue (.lBf n) s fun s => s.transfer s.flag (s.jumpTarget n)

/-- `l.bnf` (R558). -/
def execLBnf (n : BitVec 26) (s : State) : Result :=
  issue (.lBnf n) s fun s => s.transfer (!s.flag) (s.jumpTarget n)

end Sys2Proof.Machine
end

