-- ==== Sys2Proof/Machine/Mmu.lean ====
section
/-! DEFINITION. Address translation and the three access primitives: `MemRead`, `MemWrite` and `Fetch`
(20_memory.md R210-R214, R252-R256, R261). -/

namespace Sys2Proof.Machine

/-- The kind of an access to memory. -/
inductive Access where
  | load
  | store
  | fetch
  deriving DecidableEq, Repr

/-- One MMU: its geometry and its registers. -/
structure Mmu where
  cfg : MmuCfg
  mr : Bank 9 Word32
  tr : Bank 9 Word32
  amr : Bank 2 Word32
  atr : Bank 2 Word32
  deriving DecidableEq, Repr

/-- The data MMU. -/
def State.dataMmu (s : State) : Mmu :=
  { cfg := s.cfg.dmmu, mr := s.dtlbmr, tr := s.dtlbtr, amr := s.datbmr, atr := s.datbtr }

/-- The instruction MMU. -/
def State.insnMmu (s : State) : Mmu :=
  { cfg := s.cfg.immu, mr := s.itlbmr, tr := s.itlbtr, amr := s.iatbmr, atr := s.iatbtr }

/-- The registers of the data MMU translate an access: a load, a store, and in a unified MMU, which has one set of registers for both,
a fetch (10_state.md R53, entry 45). -/
def State.byDataMmu (s : State) : Access → Bool
  | .fetch => s.cfg.unifiedMmu
  | _ => true

/-- The MMU that translates an access. -/
def State.mmu (s : State) (k : Access) : Mmu := if s.byDataMmu k then s.dataMmu else s.insnMmu

/-- Translation is active for an access: the MMU is present and enabled (R239, R255, R256). -/
def State.translates (s : State) : Access → Bool
  | .fetch => s.cfg.imp && s.ime
  | _ => s.cfg.dmp && s.dme

/-- An entry that matches. -/
inductive Entry where
  | tlb (i : BitVec 9)
  | atb (i : BitVec 2)
  deriving DecidableEq, Repr

/-- The set that an effective address selects: its bits 13+NTS-1:13 (R252). -/
def tlbSet (c : MmuCfg) (ea : Word) : BitVec 7 := ea.extractLsb' 13 7 &&& BitVec.ofNat 7 (2 ^ c.nts.toNat - 1)

/-- The number of a TLB register: way `y`, set `n` (R245). -/
def tlbIndex (y : BitVec 2) (n : BitVec 7) : BitVec 9 := y ++ n

/-- The CID field of an entry matches, where fast context switching is implemented (R252). -/
def cidMatches (s : State) (field : BitVec 4) : Bool := s.cfg.nsgf == 0 || field == s.cid

/-- The 33-bit virtual page number of a 64-bit effective address: bits 45:13 of the address truncated to 46 bits, the low 11 of
them part of the offset in a 16-Mbyte page and left out (R258). -/
def pageNumber64 (large : Bool) (ea : Word) : BitVec 33 :=
  if large then ea.extractLsb' 24 22 ++ 0#11 else ea.extractLsb' 13 33

/-- The page number of a TLB match register agrees with the effective address (R252; with XLEN = 64 a free value of the
register's page number, its page size and the address's page number alone, entry 14). -/
def tlbTagMatches (x : Xlen) (mr : Word32) (ea : Word) : Bool :=
  match x with
  | .x32 =>
    if mr.getLsbD 1 then mr.extractLsb' 24 8 == ea.extractLsb' 24 8
    else mr.extractLsb' 13 19 == ea.extractLsb' 13 19
  | .x64 => Config.tlbTagMatch64 (mr.getLsbD 1) (mr.extractLsb' 13 19) (pageNumber64 (mr.getLsbD 1) ea)

/-- A TLB way hits (R252): valid, page number, context. -/
def tlbHit (s : State) (mr : Word32) (ea : Word) : Bool :=
  mr.getLsbD 0 && cidMatches s (mr.extractLsb' 2 4) && tlbTagMatches s.cfg.xlen mr ea

/-- The size of an area as a power of two: 16 Mbyte or 32 Gbyte (R249). -/
def areaBits (mr : Word32) : Nat := if mr.getLsbD 5 then 35 else 24

/-- The page number of an ATB match register agrees with the effective address (R253). With XLEN = 32 a 32 Gbyte area never
matches (R238: only with 64-bit EA); with XLEN = 64 the alignment is the parameter `atbVpnBit` (entry 15). -/
def atbTagMatches (c : Config) (mr : Word32) (ea : Word) : Bool :=
  match c.xlen with
  | .x32 => !mr.getLsbD 5 && mr.extractLsb' 24 8 == ea.extractLsb' 24 8
  | .x64 =>
    ((mr.extractLsb' 10 22).toNat * 2 ^ c.atbVpnBit % 2 ^ 46) / 2 ^ areaBits mr
      == (ea.toNat % 2 ^ 46) / 2 ^ areaBits mr

/-- An ATB entry hits (R253): valid, page number, context. -/
def atbHit (s : State) (mr : Word32) (ea : Word) : Bool :=
  mr.getLsbD 0 && cidMatches s (mr.extractLsb' 1 4) && atbTagMatches s.cfg mr ea

/-- The TLB entries that match an effective address. -/
def tlbHits (s : State) (m : Mmu) (ea : Word) : List Entry :=
  (((List.range (m.cfg.ntw.toNat + 1)).map (fun y => tlbIndex (BitVec.ofNat 2 y) (tlbSet m.cfg ea))).filter
    (fun i => tlbHit s (m.mr.at i) ea)).map Entry.tlb

/-- The ATB entries that match an effective address; entries 0 to NAE-1 exist (R249). -/
def atbHits (s : State) (m : Mmu) (ea : Word) : List Entry :=
  (((List.range (min m.cfg.nae.toNat 4)).map (fun n => BitVec.ofNat 2 n)).filter
    (fun i => atbHit s (m.amr.at i) ea)).map Entry.atb

/-- The exception of a translation that finds no entry (R254). -/
def Access.missExc : Access → Exc
  | .fetch => .itlbMiss
  | _ => .dtlbMiss

/-- The exception of a translation that denies the access (R255, R256). -/
def Access.faultExc : Access → Exc
  | .fetch => .insnPageFault
  | _ => .dataPageFault

/-- The entry used: the TLB's, else the ATB's; a miss raises the TLB miss exception (R254). Two matches are refused
(U10), a miss with hardware reload is refused (U11). -/
def findEntry (s : State) (k : Access) (ea : Word) : Attempt Entry :=
  match tlbHits s (s.mmu k) ea with
  | [e] => .ok e
  | _ :: _ :: _ => .refuse .tlbMultiHit
  | [] =>
    match atbHits s (s.mmu k) ea with
    | [e] => .ok e
    | _ :: _ :: _ => .refuse .tlbMultiHit
    | [] => if (s.mmu k).cfg.htr then .refuse .hwTlbReload else .raise k.missExc ea

/-- The translate register of an entry. -/
def Mmu.translateReg (m : Mmu) : Entry → Word32
  | .tlb i => m.tr.at i
  | .atb i => m.atr.at i

/-- The bit of a translate register that permits the access in a mode (R246, R247, R250, R251, R255, R256): the two data
formats order their four bits differently. In a unified MMU a fetch reads its bits of R247 and R251 in the shared register (DEDUCED,
entry 45). -/
def permissionBit (k : Access) (e : Entry) (supervisor : Bool) : Nat :=
  match k, e, supervisor with
  | .fetch, _, true => 6
  | .fetch, _, false => 7
  | .store, .tlb _, true => 9
  | .load, .tlb _, true => 8
  | .store, .tlb _, false => 7
  | .load, .tlb _, false => 6
  | .store, .atb _, false => 9
  | .load, .atb _, false => 8
  | .store, .atb _, true => 7
  | .load, .atb _, true => 6

/-- The size of an entry's page as a power of two (R238). -/
def Mmu.pageBits (m : Mmu) : Entry → Nat
  | .tlb i => if (m.mr.at i).getLsbD 1 then 24 else 13
  | .atb i => areaBits (m.amr.at i)

/-- The physical address an entry gives (R252, R253; the ATB's alignment is the parameter `atbPpnBit`, entry 15).
It is not cut to PA_BITS bits: whether it exists is for `byteValid` (DESIGN CHOICE, entry 2). -/
def Mmu.physical (m : Mmu) (c : Config) (e : Entry) (ea : Word) : Nat :=
  let p := m.pageBits e
  match e with
  | .tlb i => (m.tr.at i &&& 0xFFFFE000).toNat / 2 ^ p * 2 ^ p + ea.toNat % 2 ^ p
  | .atb i => ((m.atr.at i).extractLsb' 10 22).toNat * 2 ^ c.atbPpnBit / 2 ^ p * 2 ^ p + ea.toNat % 2 ^ p

/-- The TLB's translate registers with bits set in an entry, if it is one of them. -/
def Entry.markTlb (e : Entry) (bits : Word32) (b : Bank 9 Word32) : Bank 9 Word32 :=
  match e with
  | .tlb i => b.put i (b.at i ||| bits)
  | .atb _ => b

/-- The ATB's translate registers with bits set in an entry, if it is one of them. -/
def Entry.markAtb (e : Entry) (bits : Word32) (b : Bank 2 Word32) : Bank 2 Word32 :=
  match e with
  | .tlb _ => b
  | .atb i => b.put i (b.at i ||| bits)

/-- The page history that an access records: A, and D for a store (R261). -/
def Access.history : Access → Word32
  | .store => 0x30
  | _ => 0x10

/-- The state with the page history of an access recorded in the entry used, in the MMU that translates the access (R261). -/
def State.touch (s : State) (k : Access) (e : Entry) : State :=
  { s with
    dtlbtr := if s.byDataMmu k then e.markTlb k.history s.dtlbtr else s.dtlbtr
    datbtr := if s.byDataMmu k then e.markAtb k.history s.datbtr else s.datbtr
    itlbtr := if s.byDataMmu k then s.itlbtr else e.markTlb k.history s.itlbtr
    iatbtr := if s.byDataMmu k then s.iatbtr else e.markAtb k.history s.iatbtr }

/-- A translated access: the physical byte addresses, whether it may be cached, whether its page has CI = 1 (R286; no page has
it without translation), and the state with the page history recorded. -/
structure Located where
  addrs : List Nat
  cached : Bool
  inhibited : Bool
  state : State
  deriving DecidableEq, Repr

/-- Where a window puts an effective address, if it holds it. -/
def windowPlace (w : EaWindow) (ea : Nat) : Option Nat :=
  if w.ea ≤ ea / 8 ∧ ea / 8 < w.ea + w.size then some ((w.pa + (ea / 8 - w.ea)) * 8 + ea % 8) else none

/-- The physical address of an untranslated effective address: the same with XLEN = 32; with XLEN = 64 where the parameter `eaMap`
puts it, else itself, as an address of PA_BITS bits (R239, 93_implementation_defined.md U8, entry 16). -/
def untranslated (c : Config) (ea : Word) : Nat :=
  match c.xlen with
  | .x32 => uval .x32 ea
  | .x64 => (c.eaMap.findSome? (windowPlace · ea.toNat)).getD ea.toNat % 2 ^ c.paBits

/-- The byte addresses of an untranslated operand of `n` bytes; it wraps at the top of the effective address space
(R205). -/
def untranslatedBytes (c : Config) (ea : Word) (n : Nat) : List Nat :=
  (List.range n).map (fun i => untranslated c (trunc c.xlen (ea + BitVec.ofNat 64 i)))

/-- The cache that an access would use is present and enabled (10_state.md R60, R86). -/
def State.cacheOn (s : State) : Access → Bool
  | .fetch => s.cfg.icp && s.sr.getLsbD 4
  | _ => s.cfg.dcp && s.sr.getLsbD 3

/-- `TranslateData` and `TranslateInsn` (R255, R256) for an operand of `n` bytes. -/
def translate (s : State) (k : Access) (ea : Word) (n : Nat) : Attempt Located :=
  if s.translates k then
    match findEntry s k ea with
    | .raise x a => .raise x a
    | .refuse r => .refuse r
    | .ok e =>
      if ((s.mmu k).translateReg e).getLsbD (permissionBit k e s.sm) then
        if ea.toNat % 2 ^ (s.mmu k).pageBits e + n ≤ 2 ^ (s.mmu k).pageBits e then
          .ok { addrs := (List.range n).map (fun i => (s.mmu k).physical s.cfg e ea + i)
                cached := s.cacheOn k && !((s.mmu k).translateReg e).getLsbD 1
                inhibited := ((s.mmu k).translateReg e).getLsbD 1
                state := s.touch k e }
        else .refuse .unalignedPage
      else .raise k.faultExc ea
  else .ok { addrs := untranslatedBytes s.cfg ea n, cached := false, inhibited := false, state := s }

/-- Steps (2) and (3) of `MemRead`, `MemWrite` and `Fetch`: translation, then Bus Error where the address does not
exist (R210-R212). -/
def locate (s : State) (k : Access) (ea : Word) (n : Nat) : Attempt Located :=
  match translate s k ea n with
  | .raise x a => .raise x a
  | .refuse r => .refuse r
  | .ok l => if physValid s.cfg l.addrs then .ok l else .raise .busError ea

/-- Step (1) of `MemRead` and `MemWrite`: Alignment, unless unaligned accesses are supported (R204, R210). -/
def misaligned (s : State) (ea : Word) (n : Nat) : Bool := ea.toNat % n != 0 && !s.cfg.unalignedSupported

/-- `MemRead(ea, n)` (R210): the value and the state with the page history recorded. -/
def State.memRead (s : State) (ea : Word) (n : Nat) : Attempt (Nat × Located) :=
  if misaligned s ea n then .raise .alignment ea
  else
    match locate s .load ea n with
    | .raise x a => .raise x a
    | .refuse r => .refuse r
    | .ok l =>
      match s.loadPhys l.addrs l.cached with
      | .ok v => .ok (v, l)
      | .raise x a => .raise x a
      | .refuse r => .refuse r

/-- `MemWrite(ea, n, v)` (R211): the state after the store. -/
def State.memWrite (s : State) (ea : Word) (n : Nat) (v : Word) : Attempt State :=
  if misaligned s ea n then .raise .alignment ea
  else
    match locate s .store ea n with
    | .raise x a => .raise x a
    | .refuse r => .refuse r
    | .ok l => l.state.storePhys l.addrs v l.cached

/-- The instruction word at the physical address `a`: what memory holds or, where the word has been replaced and the coherence
sequence has not been carried out, that or an old word, as a free value says (R269, 93_implementation_defined.md U30); `ci` is CI of
its page. -/
def State.instructionAt (s : State) (a : Nat) (ci : Bool) : Word32 :=
  (s.mem.wordAt a :: s.oldWords a ci).getD ((Config.freeWord s.freeCtr).toNat % ((s.oldWords a ci).length + 1)) (s.mem.wordAt a)

/-- `Fetch(pc)` (R212): the instruction word, big-endian whatever SR[LEE] says (92_eei_decisions.md D10), and the state
with the page history recorded; a choice between an old and a new word draws a free value. -/
def State.fetch (s : State) : Attempt (Word32 × State) :=
  match locate s .fetch (trunc s.cfg.xlen s.pc) 4 with
  | .raise x a => .raise x a
  | .refuse r => .refuse r
  | .ok l =>
    if l.addrs.any (inOmpic s.cfg) then
      match s.loadPhys l.addrs l.cached with
      | .ok v => .ok (BitVec.ofNat 32 v, l.state)
      | .raise x a => .raise x a
      | .refuse r => .refuse r
    else
      match s.oldWords (l.addrs.headD 0) l.inhibited with
      | [] => .ok (BitVec.ofNat 32 (ofBytes (l.addrs.map s.mem.read)), l.state)
      | _ :: _ => .ok (s.instructionAt (l.addrs.headD 0) l.inhibited, { l.state with freeCtr := s.freeCtr + 1 })

end Sys2Proof.Machine
end

