-- ==== Sys2Proof/Machine/Spr.lean ====
section
/-! DEFINITION. The special-purpose registers: names and addresses (10_state.md R54), access rights (R51), presence
(R52), and what a read gives and a write does (R60-R101, 20_memory.md R240-R279, 61_platform_units.md R941-R1020,
44_orbis_control_system.md R570). -/

namespace Sys2Proof.Machine

/-- A special-purpose register (10_state.md R54). -/
inductive Spr where
  | vr
  | upr
  | cpucfgr
  | dmmucfgr
  | immucfgr
  | dccfgr
  | iccfgr
  | dcfgr
  | pccfgr
  | vr2
  | avr
  | evbar
  | aecr
  | aesr
  | npc
  | sr
  | ppc
  | fpcsr
  | isr (i : BitVec 3)
  | epcr (i : BitVec 4)
  | eear (i : BitVec 4)
  | esr (i : BitVec 4)
  | coreid
  | numcores
  | gpr (i : BitVec 9)
  | dmmucr
  | dmmupr
  | dtlbeir
  | datbmr (i : BitVec 2)
  | datbtr (i : BitVec 2)
  | dtlbmr (i : BitVec 9)
  | dtlbtr (i : BitVec 9)
  | immucr
  | immupr
  | itlbeir
  | iatbmr (i : BitVec 2)
  | iatbtr (i : BitVec 2)
  | itlbmr (i : BitVec 9)
  | itlbtr (i : BitVec 9)
  | dccr
  | dcbpr
  | dcbfr
  | dcbir
  | dcbwr
  | dcblr
  | iccr
  | icbpr
  | icbir
  | icblr
  | maclo
  | machi
  | dvr (i : BitVec 3)
  | dcr (i : BitVec 3)
  | dmr1
  | dmr2
  | dwcr (i : BitVec 1)
  | dsr
  | drr
  | pccr (i : BitVec 3)
  | pcmr (i : BitVec 3)
  | pmr
  | picmr
  | picsr
  | ttmr
  | ttcr
  deriving DecidableEq, Repr

/-- Group 0: system control and status. -/
def sprSystem (r : Nat) : Option Spr :=
  if r = 0 then some .vr
  else if r = 1 then some .upr
  else if r = 2 then some .cpucfgr
  else if r = 3 then some .dmmucfgr
  else if r = 4 then some .immucfgr
  else if r = 5 then some .dccfgr
  else if r = 6 then some .iccfgr
  else if r = 7 then some .dcfgr
  else if r = 8 then some .pccfgr
  else if r = 9 then some .vr2
  else if r = 10 then some .avr
  else if r = 11 then some .evbar
  else if r = 12 then some .aecr
  else if r = 13 then some .aesr
  else if r = 16 then some .npc
  else if r = 17 then some .sr
  else if r = 18 then some .ppc
  else if r = 20 then some .fpcsr
  else if 21 ≤ r ∧ r ≤ 28 then some (.isr (BitVec.ofNat 3 (r - 21)))
  else if 32 ≤ r ∧ r ≤ 47 then some (.epcr (BitVec.ofNat 4 (r - 32)))
  else if 48 ≤ r ∧ r ≤ 63 then some (.eear (BitVec.ofNat 4 (r - 48)))
  else if 64 ≤ r ∧ r ≤ 79 then some (.esr (BitVec.ofNat 4 (r - 64)))
  else if r = 128 then some .coreid
  else if r = 129 then some .numcores
  else if 1024 ≤ r ∧ r ≤ 1535 then some (.gpr (BitVec.ofNat 9 (r - 1024)))
  else none

/-- The number of a TLB register from its register number: way y and set n of `512 + 256*y + n` (match) and
`640 + 256*y + n` (translate); the flag says match (20_memory.md R245, R246). -/
def tlbRegister (r : Nat) : Option (Bool × BitVec 9) :=
  if 512 ≤ r ∧ r ≤ 1535 then
    some (decide ((r - 512) % 256 < 128), tlbIndex (BitVec.ofNat 2 ((r - 512) / 256)) (BitVec.ofNat 7 (r % 128)))
  else none

/-- Group 1: data MMU. -/
def sprDmmu (r : Nat) : Option Spr :=
  if r = 0 then some .dmmucr
  else if r = 1 then some .dmmupr
  else if r = 2 then some .dtlbeir
  else if 4 ≤ r ∧ r ≤ 7 then some (.datbmr (BitVec.ofNat 2 (r - 4)))
  else if 8 ≤ r ∧ r ≤ 11 then some (.datbtr (BitVec.ofNat 2 (r - 8)))
  else match tlbRegister r with
    | some (true, i) => some (.dtlbmr i)
    | some (false, i) => some (.dtlbtr i)
    | none => none

/-- Group 2: instruction MMU. -/
def sprImmu (r : Nat) : Option Spr :=
  if r = 0 then some .immucr
  else if r = 1 then some .immupr
  else if r = 2 then some .itlbeir
  else if 4 ≤ r ∧ r ≤ 7 then some (.iatbmr (BitVec.ofNat 2 (r - 4)))
  else if 8 ≤ r ∧ r ≤ 11 then some (.iatbtr (BitVec.ofNat 2 (r - 8)))
  else match tlbRegister r with
    | some (true, i) => some (.itlbmr i)
    | some (false, i) => some (.itlbtr i)
    | none => none

/-- Group 3: data cache. -/
def sprDcache (r : Nat) : Option Spr :=
  if r = 0 then some .dccr
  else if r = 1 then some .dcbpr
  else if r = 2 then some .dcbfr
  else if r = 3 then some .dcbir
  else if r = 4 then some .dcbwr
  else if r = 5 then some .dcblr
  else none

/-- Group 4: instruction cache. -/
def sprIcache (r : Nat) : Option Spr :=
  if r = 0 then some .iccr
  else if r = 1 then some .icbpr
  else if r = 2 then some .icbir
  else if r = 3 then some .icblr
  else none

/-- Group 6: debug unit. -/
def sprDebug (r : Nat) : Option Spr :=
  if r ≤ 7 then some (.dvr (BitVec.ofNat 3 r))
  else if r ≤ 15 then some (.dcr (BitVec.ofNat 3 (r - 8)))
  else if r = 16 then some .dmr1
  else if r = 17 then some .dmr2
  else if r = 18 then some (.dwcr 0)
  else if r = 19 then some (.dwcr 1)
  else if r = 20 then some .dsr
  else if r = 21 then some .drr
  else none

/-- The name of the register at a 16-bit SPR address: group in bits 15:11, number in bits 10:0 (10_state.md R50, R54). -/
def sprName (a : BitVec 16) : Option Spr :=
  let r := a.toNat % 2048
  match a.toNat / 2048 with
  | 0 => sprSystem r
  | 1 => sprDmmu r
  | 2 => sprImmu r
  | 3 => sprDcache r
  | 4 => sprIcache r
  | 5 => if r = 1 then some .maclo else if r = 2 then some .machi else none
  | 6 => sprDebug r
  | 7 =>
    if r ≤ 7 then some (.pccr (BitVec.ofNat 3 r))
    else if r ≤ 15 then some (.pcmr (BitVec.ofNat 3 (r - 8))) else none
  | 8 => if r = 0 then some .pmr else none
  | 9 => if r = 0 then some .picmr else if r = 2 then some .picsr else none
  | 10 => if r = 0 then some .ttmr else if r = 1 then some .ttcr else none
  | _ => none

/-- In a unified MMU groups 1 and 2 are one set of registers (R53), held under the data side's names (entry 45). -/
def Spr.unifyMmu : Spr → Spr
  | .immucr => .dmmucr
  | .immupr => .dmmupr
  | .itlbeir => .dtlbeir
  | .iatbmr i => .datbmr i
  | .iatbtr i => .datbtr i
  | .itlbmr i => .dtlbmr i
  | .itlbtr i => .dtlbtr i
  | r => r

/-- In a unified cache the registers of groups 3 and 4 are merged (R53, 20_memory.md R268). The control registers are one, held as DCCR;
the block registers hold nothing, and each keeps its name, presence and rights. The merged control register is present as
DCCFGR[CCRI] says, under both names and whatever ICCFGR[CCRI] reads (DESIGN CHOICE, entry 45: R90 and R91 give each side its own
bit). -/
def Spr.unifyCache : Spr → Spr
  | .iccr => .dccr
  | r => r

/-- The register that a name stands for. -/
def Spr.shared (c : Config) (r : Spr) : Spr :=
  let q := if c.unifiedMmu then r.unifyMmu else r
  if c.unifiedCache then q.unifyCache else q

/-- The register at a 16-bit SPR address. -/
def sprAt (c : Config) (a : BitVec 16) : Option Spr := (sprName a).map (Spr.shared c)

/-- TLB register `i` exists: its way is at most NTW and its set below 2^NTS (20_memory.md R245). -/
def tlbExists (c : MmuCfg) (i : BitVec 9) : Bool :=
  decide (i.toNat / 128 ≤ c.ntw.toNat) && decide (i.toNat % 128 < 2 ^ c.nts.toNat)

/-- The configuration registers exist: VR[CFG] is below 50 (00_scope.md R9). -/
def hasConfigRegs (c : Config) : Bool := decide (c.vrCfg.toNat < 50)

/-- EPCRn, EEARn and ESRn: all sixteen with fast context switching (60_exceptions.md R880), the first alone without (R70; for EEAR and
ESR DEDUCED, entry 44). -/
def contextReg (c : Config) (i : BitVec 4) : Bool := c.nsgf != 0 || i == 0

/-- A register is implemented (10_state.md R52, with each register's own presence rule). With 16 general registers the addresses of r16
to r31 of each set are unimplemented special registers and raise no Range (DESIGN CHOICE, entry 17: 60_exceptions.md R857 speaks
of instruction fields). -/
def Spr.present (c : Config) : Spr → Bool
  | .vr => true
  | .upr => c.up
  | .cpucfgr => hasConfigRegs c
  | .dmmucfgr => hasConfigRegs c && c.dmp
  | .immucfgr => hasConfigRegs c && c.imp
  | .dccfgr => hasConfigRegs c && c.dcp
  | .iccfgr => hasConfigRegs c && c.icp
  | .dcfgr => hasConfigRegs c && c.dup
  | .pccfgr => hasConfigRegs c && c.pcup
  | .vr2 => c.hasVr2
  | .avr => c.hasAvr
  | .evbar => c.hasEvbar
  | .aecr => c.hasAecr
  | .aesr => c.hasAecr
  | .npc => true
  | .sr => true
  | .ppc => true
  | .fpcsr => c.orfpx32 || c.orfpx64
  | .isr _ => c.hasIsr
  | .epcr i => contextReg c i
  | .eear i => contextReg c i
  | .esr i => contextReg c i
  | .coreid => c.hasCoreRegs
  | .numcores => c.hasCoreRegs
  | .gpr i => decide (i.toNat / 32 ≤ c.nsgf.toNat) && !(c.ngpr16 && i.getLsbD 4)
  | .dmmucr => c.dmp && c.dmmu.cri
  | .dmmupr => c.dmp && c.dmmu.pri
  | .dtlbeir => c.dmp && c.dmmu.teiri
  | .datbmr i => c.dmp && decide (i.toNat < c.dmmu.nae.toNat)
  | .datbtr i => c.dmp && decide (i.toNat < c.dmmu.nae.toNat)
  | .dtlbmr i => c.dmp && tlbExists c.dmmu i
  | .dtlbtr i => c.dmp && tlbExists c.dmmu i
  | .immucr => c.imp && c.immu.cri
  | .immupr => c.imp && c.immu.pri
  | .itlbeir => c.imp && c.immu.teiri
  | .iatbmr i => c.imp && decide (i.toNat < c.immu.nae.toNat)
  | .iatbtr i => c.imp && decide (i.toNat < c.immu.nae.toNat)
  | .itlbmr i => c.imp && tlbExists c.immu i
  | .itlbtr i => c.imp && tlbExists c.immu i
  | .dccr => c.dcp && c.dc.ccri
  | .dcbpr => c.dcp && c.dc.cbpri
  | .dcbfr => c.dcp && c.dc.cbfri
  | .dcbir => c.dcp && c.dc.cbiri
  | .dcbwr => c.dcp && c.dc.cbwbri
  | .dcblr => c.dcp && c.dc.cblri
  | .iccr => c.icp && c.ic.ccri
  | .icbpr => c.icp && c.ic.cbpri
  | .icbir => c.icp && c.ic.cbiri
  | .icblr => c.icp && c.ic.cblri
  | .maclo => c.mp
  | .machi => c.mp
  | .dvr i => c.dup && decide (i.toNat ≤ c.ndp.toNat)
  | .dcr i => c.dup && decide (i.toNat ≤ c.ndp.toNat)
  | .dmr1 => c.dup
  | .dmr2 => c.dup
  | .dwcr _ => c.dup && c.wpci
  | .dsr => c.dup
  | .drr => c.dup
  | .pccr i => c.pcup && decide (i.toNat ≤ c.npc.toNat)
  | .pcmr i => c.pcup && decide (i.toNat ≤ c.npc.toNat)
  | .pmr => c.pmp
  | .picmr => c.picp
  | .picsr => c.picp
  | .ttmr => c.ttp
  | .ttcr => c.ttp

/-- A user-mode access right (10_state.md R51, R54). -/
inductive UserRight where
  | none
  | readWrite
  | write
  | readSumra
  deriving DecidableEq, Repr

/-- The user column of the table (R54). -/
def Spr.userRight : Spr → UserRight
  | .fpcsr => .readSumra
  | .pccr _ => .readSumra
  | .ttcr => .readSumra
  | .maclo => .readWrite
  | .machi => .readWrite
  | .dcbpr => .write
  | .dcbfr => .write
  | .dcbwr => .write
  | .dcblr => .write
  | .icbpr => .write
  | .icbir => .write
  | .icblr => .write
  | _ => .none

/-- The mode may access the register: supervisor mode every address, user mode an implemented register with a user
right, `R*` only while SR[SUMRA] = 1 (R51, 92_eei_decisions.md D4, entry 37). -/
def mayAccess (s : State) (r : Option Spr) : Bool :=
  s.sm ||
  match r with
  | none => false
  | some r => r.present s.cfg &&
    match r.userRight with
    | .none => false
    | .readWrite => true
    | .write => true
    | .readSumra => s.sumra

/-- The user may write the register it may access: not one it may only read (92_eei_decisions.md D5). -/
def mayWrite (s : State) (r : Spr) : Bool := s.sm || r.userRight != .readSumra

/-! ## Values of read-only registers -/

/-- A flag at a bit position. -/
def bitAt (b : Bool) (n : Nat) : Word32 := if b then 1#32 <<< n else 0

/-- A field at a bit position. -/
def fieldAt {w : Nat} (v : BitVec w) (n : Nat) : Word32 := v.setWidth 32 <<< n

/-- VR (R85). -/
def vrValue (c : Config) : Word32 :=
  fieldAt c.vrVer 24 ||| fieldAt c.vrCfg 16 ||| bitAt c.hasVr2 6 ||| fieldAt c.vrRev 0

/-- UPR (R86). -/
def uprValue (c : Config) : Word32 :=
  fieldAt c.cup 24 ||| bitAt c.ttp 10 ||| bitAt c.pmp 9 ||| bitAt c.picp 8 ||| bitAt c.pcup 7 ||| bitAt c.dup 6 |||
  bitAt c.mp 5 ||| bitAt c.imp 4 ||| bitAt c.dmp 3 ||| bitAt c.icp 2 ||| bitAt c.dcp 1 ||| bitAt c.up 0

/-- CPUCFGR (R87). -/
def cpucfgrValue (c : Config) : Word32 :=
  bitAt c.hasAecr 14 ||| bitAt c.hasIsr 13 ||| bitAt c.hasEvbar 12 ||| bitAt c.hasAvr 11 ||| bitAt c.nd 10 |||
  bitAt c.orvdx64 9 ||| bitAt c.orfpx64 8 ||| bitAt c.orfpx32 7 ||| bitAt c.orbis64 6 ||| bitAt true 5 |||
  bitAt c.ngpr16 4 ||| fieldAt c.nsgf 0

/-- DMMUCFGR and IMMUCFGR (R88, R89). -/
def mmucfgrValue (m : MmuCfg) : Word32 :=
  bitAt m.htr 11 ||| bitAt m.teiri 10 ||| bitAt m.pri 9 ||| bitAt m.cri 8 ||| fieldAt m.nae 5 ||| fieldAt m.nts 2 |||
  fieldAt m.ntw 0

/-- DCCFGR (R90). -/
def dccfgrValue (m : CacheCfg) : Word32 :=
  bitAt m.cbwbri 14 ||| bitAt m.cbfri 13 ||| bitAt m.cblri 12 ||| bitAt m.cbpri 11 ||| bitAt m.cbiri 10 |||
  bitAt m.ccri 9 ||| bitAt m.cws 8 ||| bitAt m.cbs 7 ||| fieldAt m.ncs 3 ||| fieldAt m.ncw 0

/-- ICCFGR (R91). -/
def iccfgrValue (m : CacheCfg) : Word32 :=
  bitAt m.cblri 12 ||| bitAt m.cbpri 11 ||| bitAt m.cbiri 10 ||| bitAt m.ccri 9 ||| bitAt m.cbs 7 |||
  fieldAt m.ncs 3 ||| fieldAt m.ncw 0

/-- PICSR: the level of a level-triggered input, the latch of an edge-triggered one (R942). -/
def State.picsr (s : State) : Word32 := (s.irqLines &&& ~~~s.cfg.picEdge) ||| (s.picLatch &&& s.cfg.picEdge)

/-- PICMR as read: the permanently unmasked inputs read one (R941). -/
def State.picmrValue (s : State) : Word32 := s.picmr ||| (if s.cfg.picNmi then 3 else 0)

/-- A performance counter counts some event: its count is a free value (R1012, U21). -/
def State.pccrLive (s : State) (i : BitVec 3) : Bool := (s.pcmr.at i).extractLsb' 4 22 != 0

/-! ## Reading -/

/-- A read that draws a free value. -/
def State.freeRead (s : State) (f : Word → Word) : Word × State := (f s.draw.1, s.draw.2)

/-- NPC as read at `pc` (10_state.md R47): `pc + 4` in straight-line code, else a free value (U6). It is XLEN bits wide, as `pc` is
(DEDUCED, entry 47: R50 and R565 do not name NPC among the registers that are wider than 32 bits). -/
def State.readNpc (s : State) : Word × State :=
  match s.hist with
  | .straight => (s.pcPlus 4, s)
  | .entered => (s.pcPlus 4, s)
  | _ => s.freeRead id

/-- PPC as read at `pc` (R47): the instruction before in straight-line code, else a free value (U6). It is XLEN bits wide, as `pc` is
(DEDUCED, entry 47). -/
def State.readPpc (s : State) : Word × State :=
  match s.hist with
  | .straight => (trunc s.cfg.xlen s.ppc, s)
  | _ => s.freeRead id

/-- What an implemented register reads as; a write-only register reads 0 (92_eei_decisions.md D5). -/
def State.readSpr (s : State) : Spr → Word × State
  | .vr => (zext32 (vrValue s.cfg), s)
  | .upr => (zext32 (uprValue s.cfg), s)
  | .cpucfgr => (zext32 (cpucfgrValue s.cfg), s)
  | .dmmucfgr => (zext32 (mmucfgrValue s.cfg.dmmu), s)
  | .immucfgr => (zext32 (mmucfgrValue s.cfg.immu), s)
  | .dccfgr => (zext32 (dccfgrValue s.cfg.dc), s)
  | .iccfgr => (zext32 (iccfgrValue s.cfg.ic), s)
  | .dcfgr => (zext32 (bitAt s.cfg.wpci 3 ||| fieldAt s.cfg.ndp 0), s)
  | .pccfgr => (zext32 (fieldAt s.cfg.npc 0), s)
  | .vr2 => (zext32 (fieldAt s.cfg.vr2Cpuid 24 ||| fieldAt s.cfg.vr2Ver 0), s)
  | .avr => (zext32 (0x01020000 ||| fieldAt s.cfg.avrRev 8), s)
  | .evbar => (zext32 s.evbar, s)
  | .aecr => (zext32 s.aecr, s)
  | .aesr => (zext32 s.aesr, s)
  | .npc => s.readNpc
  | .sr => (zext32 s.sr, s)
  | .ppc => s.readPpc
  | .fpcsr => (zext32 s.fpcsr, s)
  | .isr i => (zext32 (s.cfg.isr.at i), s)
  | .epcr i => (s.epcr.at i, s)
  | .eear i => (s.eear.at i, s)
  | .esr i => (s.esr.at i, s)
  | .coreid => (BitVec.ofNat 64 s.cfg.coreId, s)
  | .numcores => (BitVec.ofNat 64 s.cfg.numCores, s)
  | .gpr i => (s.gprAt i, s)
  | .dmmucr => (zext32 s.dmmucr, s)
  | .dmmupr => (zext32 s.dmmupr, s)
  | .dtlbeir => (0, s)
  | .datbmr i => (zext32 (s.datbmr.at i), s)
  | .datbtr i => (zext32 (s.datbtr.at i), s)
  | .dtlbmr i => (zext32 (s.dtlbmr.at i), s)
  | .dtlbtr i => (zext32 (s.dtlbtr.at i), s)
  | .immucr => (zext32 s.immucr, s)
  | .immupr => (zext32 s.immupr, s)
  | .itlbeir => (0, s)
  | .iatbmr i => (zext32 (s.iatbmr.at i), s)
  | .iatbtr i => (zext32 (s.iatbtr.at i), s)
  | .itlbmr i => (zext32 (s.itlbmr.at i), s)
  | .itlbtr i => (zext32 (s.itlbtr.at i), s)
  | .dccr => (zext32 s.dccr, s)
  | .dcbpr => (0, s)
  | .dcbfr => (0, s)
  | .dcbir => (0, s)
  | .dcbwr => (0, s)
  | .dcblr => (0, s)
  | .iccr => (zext32 s.iccr, s)
  | .icbpr => (0, s)
  | .icbir => (0, s)
  | .icblr => (0, s)
  | .maclo => (zext32 s.maclo, s)
  | .machi => (zext32 s.machi, s)
  | .dvr i => (zext32 (s.dvr.at i), s)
  | .dcr i => (zext32 (s.dcr.at i ||| 1), s)
  | .dmr1 => (zext32 s.dmr1, s)
  | .dmr2 => (zext32 s.dmr2, s)
  | .dwcr i => (zext32 (s.dwcr.at i), s)
  | .dsr => (zext32 s.dsr, s)
  | .drr => (zext32 s.drr, s)
  | .pccr i => if s.pccrLive i then s.freeRead (fun v => zext32 (lo32 v)) else (zext32 (s.pccr.at i), s)
  | .pcmr i => (zext32 (s.pcmr.at i ||| 1), s)
  | .pmr => (zext32 s.pmr, s)
  | .picmr => (zext32 s.picmrValue, s)
  | .picsr => (zext32 s.picsr, s)
  | .ttmr => (zext32 s.ttmr, s)
  | .ttcr => (zext32 s.ttcr, s)

/-- What `l.mfspr` reads at an address: an unimplemented register reads 0 (R52). -/
def State.readSprAt (s : State) (r : Option Spr) : Word × State :=
  match r with
  | none => (0, s)
  | some r => if r.present s.cfg then s.readSpr r else (0, s)

/-! ## Writing -/

/-- A match register with V cleared where the entry matches an effective address (20_memory.md R244). -/
def invalidateWay (s : State) (m : Mmu) (ea : Word) (b : Bank 9 Word32) (y : Nat) : Bank 9 Word32 :=
  let i := tlbIndex (BitVec.ofNat 2 y) (tlbSet m.cfg ea)
  if tlbTagMatches s.cfg.xlen (b.at i) ea then b.put i (b.at i &&& 0xFFFFFFFE) else b

/-- The match registers after a write of `ea` to DTLBEIR or ITLBEIR: every way's entry in the selected set whose page
number matches loses its V bit (R244). -/
def invalidated (s : State) (m : Mmu) (ea : Word) : Bank 9 Word32 :=
  (List.range (m.cfg.ntw.toNat + 1)).foldl (invalidateWay s m ea) m.mr

/-- The match registers after a flush: every V bit cleared (R240). -/
def flushed (b : Bank 9 Word32) : Bank 9 Word32 := Vector.map (fun w => w &&& 0xFFFFFFFE) b

/-- Writing DMR2 (61_platform_units.md R993): a written 0 clears a WBS bit, a written 1 keeps it; the rest is stored. -/
def dmr2Written (old v : Word32) : Word32 := (old &&& v &&& 0xFFC00000) ||| (v &&& 0x003FFFFF)

/-- Writing TTMR (R951): IP is cleared by a written 0 and kept by a written 1. -/
def ttmrWritten (old v : Word32) : Word32 := (v &&& 0xEFFFFFFF) ||| (old &&& v &&& 0x10000000)

/-- A performance counter that has been counting gets a free count (entry 21). -/
def State.settlePccr (s : State) (i : BitVec 3) : State :=
  if s.pccrLive i then { s.draw.2 with pccr := s.pccr.put i (lo32 s.draw.1) } else s

/-- The physical address that a cache block register's effective address names; none where it does not translate (R280). -/
def State.blockAddress (s : State) (k : Access) (ea : Word) : Option Nat :=
  match translate s k ea 1 with
  | .ok l => l.addrs.head?
  | _ => none

/-- A data cache block written back (R273, R275): it matters only to a later instruction fetch (R282). -/
def State.writeBackBlock (s : State) (ea : Word) : State :=
  match s.blockAddress .load ea with
  | some a => { s with stale := s.stale.map fun e => e.inBlock s.cfg.dc.cbs a [.stored] .writtenBack }
  | none => s

/-- An instruction cache block invalidated (R278): it matters only to a later instruction fetch (R282). -/
def State.invalidateInsnBlock (s : State) (ea : Word) : State :=
  match s.blockAddress .fetch ea with
  | some a => { s with stale := s.stale.map fun e => e.inBlock s.cfg.ic.cbs a [.synced, .flushed] .invalidated }
  | none => s

/-- What a write of `v` to an implemented register does (44_orbis_control_system.md R570). Read-only registers and
fields keep their value (10_state.md R55, 92_eei_decisions.md D5); the cache block operations change no register and no
memory (D16), only what an instruction fetch may still see of replaced words (20_memory.md R282), and in a unified cache ICBIR does nothing
(R268, DESIGN CHOICE, entry 45);
NPC is `setNpc`'s. Fields that the spec calls optional are always there (DESIGN CHOICE, entry 46): DTF and ITF flush and PTBP is kept
wherever DMMUCR and IMMUCR exist (20_memory.md R240, R242), and the CID bits of the match registers are kept without fast context
switching too (R245, R249). PMR keeps the bits of the features that are implemented and the others are zero (61_platform_units.md R1020,
DESIGN CHOICE, entry 49). -/
def State.writeSpr (s : State) (v : Word) : Spr → State
  | .vr => s
  | .upr => s
  | .cpucfgr => s
  | .dmmucfgr => s
  | .immucfgr => s
  | .dccfgr => s
  | .iccfgr => s
  | .dcfgr => s
  | .pccfgr => s
  | .vr2 => s
  | .avr => s
  | .evbar => { s with evbar := lo32 v &&& 0xFFFFE000 }
  | .aecr => { s with aecr := lo32 v &&& 0x7F }
  | .aesr => { s with aesr := lo32 v &&& 0x7F }
  | .npc => s
  | .sr => { s with sr := srWritten s.cfg (lo32 v) }
  | .ppc => s
  | .fpcsr => { s with fpcsr := lo32 v &&& 0xFFF }
  | .isr _ => s
  | .epcr i => { s with epcr := s.epcr.put i (trunc s.cfg.xlen v) }
  | .eear i => { s with eear := s.eear.put i (trunc s.cfg.xlen v) }
  | .esr i => { s with esr := s.esr.put i (trunc s.cfg.xlen v) }
  | .coreid => s
  | .numcores => s
  | .gpr i => s.setGprAt i v
  | .dmmucr =>
    if v.getLsbD 0 then { s with dmmucr := lo32 v &&& 0xFFFFFC00, dtlbmr := flushed s.dtlbmr }
    else { s with dmmucr := lo32 v &&& 0xFFFFFC00 }
  | .dmmupr => { s with dmmupr := lo32 v &&& 0x0FFFFFFF }
  | .dtlbeir => { s with dtlbmr := invalidated s (s.mmu .load) (trunc s.cfg.xlen v) }
  | .datbmr i => { s with datbmr := s.datbmr.put i (lo32 v &&& 0xFFFFFC3F) }
  | .datbtr i => { s with datbtr := s.datbtr.put i (lo32 v) }
  | .dtlbmr i => { s with dtlbmr := s.dtlbmr.put i (lo32 v &&& 0xFFFFE0FF) }
  | .dtlbtr i => { s with dtlbtr := s.dtlbtr.put i (lo32 v &&& 0xFFFFE3FF) }
  | .immucr =>
    if v.getLsbD 0 then { s with immucr := lo32 v &&& 0xFFFFFC00, itlbmr := flushed s.itlbmr }
    else { s with immucr := lo32 v &&& 0xFFFFFC00 }
  | .immupr => { s with immupr := lo32 v &&& 0x3FFF }
  | .itlbeir => { s with itlbmr := invalidated s (s.mmu .fetch) (trunc s.cfg.xlen v) }
  | .iatbmr i => { s with iatbmr := s.iatbmr.put i (lo32 v &&& 0xFFFFFC3F) }
  | .iatbtr i => { s with iatbtr := s.iatbtr.put i (lo32 v &&& 0xFFFFFCFF) }
  | .itlbmr i => { s with itlbmr := s.itlbmr.put i (lo32 v &&& 0xFFFFE0FF) }
  | .itlbtr i => { s with itlbtr := s.itlbtr.put i (lo32 v &&& 0xFFFFE0FF) }
  | .dccr => { s with dccr := lo32 v &&& 0xFF }
  | .dcbpr => s
  | .dcbfr => s.writeBackBlock (trunc s.cfg.xlen v)
  | .dcbir => s
  | .dcbwr => s.writeBackBlock (trunc s.cfg.xlen v)
  | .dcblr => s
  | .iccr => { s with iccr := lo32 v &&& 0xFF }
  | .icbpr => s
  | .icbir => if s.cfg.unifiedCache then s else s.invalidateInsnBlock (trunc s.cfg.xlen v)
  | .icblr => s
  | .maclo => { s with maclo := lo32 v }
  | .machi => { s with machi := lo32 v }
  | .dvr i => { s with dvr := s.dvr.put i (lo32 v) }
  | .dcr i => { s with dcr := s.dcr.put i (lo32 v &&& 0xFE) }
  | .dmr1 => { s with dmr1 := lo32 v &&& 0x00FFFFFF }
  | .dmr2 => { s with dmr2 := dmr2Written s.dmr2 (lo32 v) }
  | .dwcr i => { s with dwcr := s.dwcr.put i (lo32 v) }
  | .dsr => { s with dsr := lo32 v &&& 0x3FFF }
  | .drr => { s with drr := lo32 v &&& 0x3FFF }
  | .pccr i => { s with pccr := s.pccr.put i (lo32 v) }
  | .pcmr i => { s.settlePccr i with pcmr := s.pcmr.put i (lo32 v &&& 0x03FFFFFE) }
  | .pmr => { s with pmr := lo32 v &&& s.cfg.pmrFields.setWidth 32 }
  | .picmr => { s with picmr := lo32 v ||| (if s.cfg.picNmi then 3 else 0) }
  | .picsr => { s with picLatch := s.picLatch &&& ~~~(lo32 v &&& s.cfg.picEdge) }
  | .ttmr => { s with ttmr := ttmrWritten s.ttmr (lo32 v) }
  | .ttcr => { s with ttcr := lo32 v }

/-- What `l.mtspr` writes at an address: a write to an unimplemented register does nothing (R52), nor does one that the
mode may not make (D5). -/
def State.writeSprAt (s : State) (r : Option Spr) (v : Word) : State :=
  match r with
  | none => s
  | some r => if r.present s.cfg && mayWrite s r then s.writeSpr v r else s

/-- Writing NPC: the next instruction is fetched from the written address, its low two bits cleared (10_state.md R47,
92_eei_decisions.md D25); a pending jump is given up (DESIGN CHOICE, entry 32). All XLEN bits of the value are written, as `pc` has XLEN
bits (DEDUCED, entry 47: R50 and R565 list the registers wider than 32 bits and name neither NPC nor PPC). -/
def State.setNpc (s : State) (v : Word) : State :=
  { s with pc := trunc s.cfg.xlen v &&& ~~~3, dsPending := false, ppc := s.pc, hist := .branched }

end Sys2Proof.Machine
end

