-- ==== Sys2Proof/Machine/Environment.lean ====
section
/-! DEFINITION. What happens between two instructions: the tick timer (61_platform_units.md R953), the interrupt lines
and their recognition (R943, 60_exceptions.md R871), power management (R1022), other agents and reset
(70_reset_and_hazards.md R1050). -/

namespace Sys2Proof.Machine

/-! ## The tick timer -/

/-- TTMR[M] (R951). -/
def State.timerMode (s : State) : BitVec 2 := s.ttmr.extractLsb' 30 2

/-- The low 28 bits of a count match TTMR[TP] (R953). -/
def State.timerMatches (s : State) (count : Word32) : Bool := count.extractLsb' 0 28 == s.ttmr.extractLsb' 0 28

/-- The timer counts: it is present, not disabled and not a one-shot at its match (R953). -/
def State.timerRuns (s : State) : Bool :=
  s.cfg.ttp && s.timerMode != 0 && !(s.timerMode == 2 && s.timerMatches s.ttcr)

/-- One `TimerTick` (R953). -/
def State.timerTick (s : State) : State :=
  if s.timerRuns then
    if s.timerMatches (s.ttcr + 1) then
      { s with
        ttcr := if s.timerMode == 1 then 0 else s.ttcr + 1
        ttmr := if s.ttmr.getLsbD 29 then s.ttmr ||| 0x10000000 else s.ttmr }
    else { s with ttcr := s.ttcr + 1 }
  else s

/-- `n` ticks. -/
def State.timerTicks : Nat → State → State
  | 0, s => s
  | n + 1, s => State.timerTicks n s.timerTick

/-! ## Interrupts -/

/-- TTMR[IP]: the Tick Timer exception is pending (R955). -/
def State.tickPending (s : State) : Bool := s.cfg.ttp && s.ttmr.getLsbD 28

/-- `PicOut`: the External Interrupt is pending (R943; without a PIC the one input, R944). -/
def State.picOut (s : State) : Bool :=
  if s.cfg.picp then s.picsr &&& s.picmrValue != 0 else s.irqLines.getLsbD 0

/-- The interrupt recognised at the instruction boundary, Tick Timer first (60_exceptions.md R871, R872). -/
def State.interrupt (s : State) : Option Exc :=
  if s.tee && s.tickPending then some .tickTimer
  else if s.iee && s.picOut then some .extInt
  else none

/-! ## Power management -/

/-- The tick timer's clock is stopped: sleep or suspend mode (61_platform_units.md R1022). -/
def State.clockStopped (s : State) : Bool := s.cfg.pmp && (s.pmr.getLsbD 7 || s.pmr.getLsbD 5)

/-- In a power-down mode, the state after one step without an instruction: the mode lasts, or its bit is cleared by the
event that ends it; suspend ends only by reset (R1022, 92_eei_decisions.md D38). Waking from sleep clears SME and DME: the core
resumes even where both were set (entry 22). -/
def State.paused (s : State) : Option State :=
  if !s.cfg.pmp then none
  else if s.pmr.getLsbD 7 then some s
  else if s.pmr.getLsbD 5 then some (if s.picOut then { s with pmr := s.pmr &&& 0xFFFFFFCF } else s)
  else if s.pmr.getLsbD 4 then
    some (if s.picOut || s.tickPending then { s with pmr := setBit s.pmr 4 false } else s)
  else none

/-! ## Other agents -/

/-- Bytes written by another bus master; they cancel a reservation they overlap (20_memory.md R231). On the OMPIC's registers they
do nothing else (DESIGN CHOICE, entry 23): R970 describes no access but whole words, and the writes of whole control words are
`foreignMessages`. -/
def State.foreignWrites (s : State) (cs : List Host.Cell) : State :=
  let es := cs.filter (fun c => byteValid s.cfg c.1)
  let ds := es.filter (fun c => !inOmpic s.cfg c.1)
  { s with
    mem := s.mem.writeAll ds, resv := cancelOverlap s.resv (es.map Prod.fst)
    stale := s.noteStale (ds.map Prod.fst) .writtenBack }

/-- The byte addresses of OMPIC control register `i` (61_platform_units.md R970). -/
def controlBytes (c : Config) (i : Nat) : List Nat :=
  match c.ompicBase with
  | none => []
  | some b => (List.range 4).map (fun k => b + 8 * i + k)

/-- One store of another core to an OMPIC control register (61_platform_units.md R971); it cancels a reservation on the word it writes
(20_memory.md R231). The levels of this core's line before and after it are compared (`setOmpic`, entry 24). -/
def State.foreignMessage (s : State) (m : Nat × Word32) : State :=
  if m.1 < s.cfg.numCores then
    { s.setOmpic (ompicControl s.ompic m.1 m.2) with resv := cancelOverlap s.resv (controlBytes s.cfg m.1) }
  else s

/-- OMPIC control writes of other cores, in the order of the input (R971). Each is a store of its own: where one drops this core's line and
the next raises it again, an edge-triggered line latches the rise, although both come before one step (DEDUCED, entry 24: R942 sets
the latch at the active transition, R945 lets a line change at any time between instructions, and no rule speaks of two changes there). -/
def State.foreignMessages (s : State) (ms : List (Nat × Word32)) : State :=
  if s.cfg.ompicBase.isSome then ms.foldl State.foreignMessage s else s

/-- Writes of the development interface to debug registers that exist, as an `l.mtspr` would make them (R985, entry 31). -/
def State.debugWrites (s : State) (ws : List (BitVec 11 × Word32)) : State :=
  ws.foldl (fun t w =>
    match sprDebug w.1.toNat with
    | some r => if r.present t.cfg then t.writeSpr (zext32 w.2) r else t
    | none => t) s

/-- New levels of the interrupt lines (R945). An edge sets its latch in every mode, sleep included, where it then ends the mode
(DESIGN CHOICE, entry 24: R1022 speaks of level inputs alone). -/
def State.setIrq (s : State) (w : Word32) : State := ({ s with irqIn := w }).latchEdges s.irqLines

/-- Ticks of the timer before a step, none while its clock is stopped. -/
def State.letTick (s : State) (n : Nat) : State := if s.clockStopped then s else s.timerTicks n

/-- What one input does. -/
def State.applyInput (s : State) (i : Input) : State :=
  ((((s.foreignWrites i.writes).foreignMessages i.messages).debugWrites i.debug).setIrq i.irq).letTick i.ticks

/-- One step of the timer's clock that ticks after `w` more steps: it waits, or it ticks at least once and what follows is open
again. -/
def State.waitOrTick (s : State) (w : Nat) : State :=
  match w with
  | 0 => State.timerTicks (Config.freeTicks s.freeCtr + 1) { s with tickWait := none, freeCtr := s.freeCtr + 1 }
  | n + 1 => { s with tickWait := some n }

/-- With no input the timer, while it counts, ticks when and as often as nothing determines, but ticks keep happening: between two of
them passes a number of steps (R953, 70_reset_and_hazards.md R1075, entry 11). -/
def State.freeTicks (s : State) : State :=
  if s.timerRuns && !s.clockStopped then
    match s.tickWait with
    | some w => s.waitOrTick w
    | none => State.waitOrTick { s with freeCtr := s.freeCtr + 1 } (Config.freeGap s.freeCtr)
  else s

/-- What the environment does before a step: the next input, or the timer alone. -/
def State.environment (s : State) : State :=
  match s.inputs with
  | [] => s.freeTicks
  | i :: rest => { s with inputs := rest }.applyInput i

/-- The reset input is asserted before this step (R1031). -/
def State.resetAsserted (s : State) : Bool :=
  match s.inputs with
  | [] => false
  | i :: _ => i.reset

/-- The reset sequence (70_reset_and_hazards.md R1050): every register takes its reset value; memory with what a cache may
keep of it, the environment and the model's own counter stay. -/
def State.afterReset (s : State) : State :=
  { State.resetFor s.cfg with
    irqIn := s.irqIn, mem := s.mem, stale := s.stale, inputs := s.inputs, tickWait := s.tickWait, freeCtr := s.freeCtr }

end Sys2Proof.Machine
end

