-- ==== Sys2Proof/Machine/Float.lean ====
section
/-! DEFINITION. Floating-point arithmetic (45_orfpx.md R601-R606): IEEE 754 operations on exact rational values, rounded
once. What IEEE 754 leaves open is a parameter of `Config` (tininess, denormals) or a free value (NaN results, integer
results out of range), entry 19. -/

namespace Sys2Proof.Machine

/-- A floating-point format: widths of the exponent and fraction fields (R601). -/
structure Fmt where
  ebits : Nat
  fbits : Nat
  deriving DecidableEq, Repr

/-- Single precision (R601). -/
def Fmt.single : Fmt := { ebits := 8, fbits := 23 }

/-- Double precision (R601). -/
def Fmt.double : Fmt := { ebits := 11, fbits := 52 }

/-- The width of the format in bits. -/
def Fmt.width (f : Fmt) : Nat := 1 + f.ebits + f.fbits

/-- The exponent bias (R601). -/
def Fmt.bias (f : Fmt) : Int := 2 ^ (f.ebits - 1) - 1

/-- The exponent of the least normal number. -/
def Fmt.emin (f : Fmt) : Int := 1 - f.bias

/-- The greatest biased exponent: infinities and NaNs. -/
def Fmt.emax (f : Fmt) : Nat := 2 ^ f.ebits - 1

/-- A floating-point datum: a NaN, an infinity, or the number `±man · 2^exp`. -/
inductive FVal where
  | nan (signalling : Bool)
  | inf (neg : Bool)
  | num (neg : Bool) (man : Nat) (exp : Int)
  deriving DecidableEq, Repr

/-- Rounding modes, FPCSR[RM] (10_state.md R75). -/
inductive RMode where
  | nearest
  | zero
  | up
  | down
  deriving DecidableEq, Repr

/-- FPCSR[RM]. -/
def RMode.ofBits (b : BitVec 2) : RMode :=
  if b = 0 then .nearest else if b = 1 then .zero else if b = 2 then .up else .down

/-- The status flags an operation signals: FPCSR bits 11:3 (R603). -/
structure FFlags where
  ovf : Bool := false
  unf : Bool := false
  snf : Bool := false
  qnf : Bool := false
  zf : Bool := false
  ixf : Bool := false
  ivf : Bool := false
  inf : Bool := false
  dzf : Bool := false
  deriving DecidableEq, Repr

/-- The flags in the order of FPCSR bits 11:3. -/
def FFlags.bits (f : FFlags) : BitVec 9 :=
  (BitVec.ofBool f.dzf ++ BitVec.ofBool f.inf ++ BitVec.ofBool f.ivf ++ BitVec.ofBool f.ixf ++ BitVec.ofBool f.zf ++
    BitVec.ofBool f.qnf ++ BitVec.ofBool f.snf ++ BitVec.ofBool f.unf ++ BitVec.ofBool f.ovf : BitVec 9)

/-- The result of an operation: a bit pattern, some quiet NaN, or some integer (U12, U14). -/
inductive FOut where
  | bits (n : Nat)
  | quietNan
  | anyInt
  deriving DecidableEq, Repr

/-- A result with its flags. -/
structure FRes where
  out : FOut
  flags : FFlags
  deriving DecidableEq, Repr

/-- What an operation needs to know besides its operands. -/
structure FEnv where
  mode : RMode
  tinyAfter : Bool
  denormals : Bool
  deriving DecidableEq, Repr

/-! ## Packing and unpacking -/

/-- The datum of a bit pattern. A NaN whose top fraction bit is one is quiet, else signalling (PRESUMED from IEEE 754, entry 19;
45_orfpx.md R618 shows 0x7FC00000 as a quiet NaN and gives no rule). Without denormal support a denormal operand is a zero of its
sign (U13). -/
def unpack (f : Fmt) (env : FEnv) (n : Nat) : FVal :=
  let neg := n / 2 ^ (f.ebits + f.fbits) % 2 == 1
  let e := n / 2 ^ f.fbits % 2 ^ f.ebits
  let m := n % 2 ^ f.fbits
  if e = f.emax then (if m = 0 then .inf neg else .nan (decide (m < 2 ^ (f.fbits - 1))))
  else if e = 0 then .num neg (if env.denormals then m else 0) (f.emin - f.fbits)
  else .num neg (2 ^ f.fbits + m) (e - f.bias - f.fbits)

/-- The bit pattern with a sign, a biased exponent and a fraction. -/
def pack (f : Fmt) (neg : Bool) (e m : Nat) : Nat := neg.toNat * 2 ^ (f.ebits + f.fbits) + e * 2 ^ f.fbits + m

/-- A quiet NaN whose sign and payload come from a free value (U12). -/
def quietNanFrom (f : Fmt) (w : Word) : Nat :=
  pack f (w.getLsbD (f.width - 1)) f.emax (2 ^ (f.fbits - 1) + w.toNat % 2 ^ (f.fbits - 1))

/-- An infinite result. -/
def infResult (f : Fmt) (neg : Bool) (fl : FFlags) : FRes :=
  { out := .bits (pack f neg f.emax 0), flags := { fl with inf := true } }

/-- A zero result. -/
def zeroResult (f : Fmt) (neg : Bool) (fl : FFlags) : FRes :=
  { out := .bits (pack f neg 0 0), flags := { fl with zf := true } }

/-- A NaN result (R603: QNF). -/
def nanResult (fl : FFlags) : FRes := { out := .quietNan, flags := { fl with qnf := true } }

/-- An invalid operation: IVF and a quiet NaN. -/
def invalidResult : FRes := nanResult { ivf := true }

/-! ## Rounding -/

/-- Whether `m + rem/den` is rounded up, away from zero for its sign (R602, R75). -/
def roundsUp (mode : RMode) (neg : Bool) (m rem den : Nat) : Bool :=
  match mode with
  | .nearest => decide (2 * rem > den) || (decide (2 * rem = den) && m % 2 == 1)
  | .zero => false
  | .up => !neg && rem != 0
  | .down => neg && rem != 0

/-- The numerator of `p/q · 2^e` scaled by `2^-t`. -/
def scaledNum (p : Nat) (e t : Int) : Nat := p * 2 ^ (e - t).toNat

/-- The denominator of `p/q · 2^e` scaled by `2^-t`. -/
def scaledDen (q : Nat) (e t : Int) : Nat := q * 2 ^ (t - e).toNat

/-- The exponent `k` with `2^k ≤ p/q · 2^e < 2^(k+1)`, for positive `p` and `q`. -/
def binade (p q : Nat) (e : Int) : Int :=
  let k := (Nat.log2 p : Int) - Nat.log2 q
  if scaledNum p 0 k < scaledDen q 0 k then k - 1 + e else k + e

/-- The significand of `p/q · 2^e` rounded to a multiple of `2^t`, and whether it is exact. -/
def roundAt (mode : RMode) (neg : Bool) (p q : Nat) (e t : Int) : Nat × Bool :=
  let n := scaledNum p e t
  let d := scaledDen q e t
  (n / d + (roundsUp mode neg (n / d) (n % d) d).toNat, n % d == 0)

/-- The result of an overflow in a rounding mode. -/
def overflowResult (f : Fmt) (mode : RMode) (neg : Bool) : FRes :=
  let toInf :=
    match mode with
    | .nearest => true
    | .zero => false
    | .up => !neg
    | .down => neg
  if toInf then infResult f neg { ovf := true, ixf := true }
  else { out := .bits (pack f neg (f.emax - 1) (2 ^ f.fbits - 1)), flags := { ovf := true, ixf := true } }

/-- The exact value `±p/q · 2^e` (`p`, `q` positive) rounded to the format, with its flags (R602, R603). Underflow is
signalled for a tiny inexact result; when tininess is detected is the parameter `fpTinyAfter` (U13). Without denormal support a
denormal result becomes a zero of its sign and signals UNF, IXF and ZF (DESIGN CHOICE, entry 19: no rule names the flags). -/
def roundResult (f : Fmt) (env : FEnv) (neg : Bool) (p q : Nat) (e : Int) : FRes :=
  let k := binade p q e
  let t := max k f.emin - f.fbits
  let r := roundAt env.mode neg p q e t
  let carries := (roundAt env.mode neg p q e (k - f.fbits)).1 == 2 ^ (f.fbits + 1)
  let tiny := decide (k < f.emin) && !(env.tinyAfter && k == f.emin - 1 && carries)
  let fl : FFlags := { unf := tiny && !r.2, ixf := !r.2 }
  if r.1 = 0 then zeroResult f neg fl
  else if r.1 < 2 ^ f.fbits then
    if env.denormals then { out := .bits (pack f neg 0 r.1), flags := fl }
    else zeroResult f neg { unf := true, ixf := true }
  else
    let up := r.1 == 2 ^ (f.fbits + 1)
    let be := (t + f.fbits + f.bias + (if up then 1 else 0)).toNat
    if f.emax ≤ be then overflowResult f env.mode neg
    else { out := .bits (pack f neg be (if up then 0 else r.1 - 2 ^ f.fbits)), flags := fl }

/-! ## Operations -/

/-- A NaN among the operands: a signalling one is an invalid operation. -/
def nanOperand (a b : FVal) : Option FRes :=
  match a, b with
  | .nan true, _ => some invalidResult
  | _, .nan true => some invalidResult
  | .nan false, _ => some (nanResult {})
  | _, .nan false => some (nanResult {})
  | _, _ => none

/-- A significand with its sign. -/
def signedMan (neg : Bool) (m : Nat) : Int := if neg then -(m : Int) else m

/-- `a + b` of two numbers; an exact zero sum is +0 except when both are -0 or the mode rounds down (R611). -/
def addNums (f : Fmt) (env : FEnv) (na : Bool) (ma : Nat) (ea : Int) (nb : Bool) (mb : Nat) (eb : Int) : FRes :=
  let e := min ea eb
  let z := signedMan na (ma * 2 ^ (ea - e).toNat) + signedMan nb (mb * 2 ^ (eb - e).toNat)
  if z = 0 then zeroResult f (if na = nb then na else env.mode == .down) {}
  else roundResult f env (decide (z < 0)) z.natAbs 1 e

/-- `a + b` (R610). -/
def fpAdd (f : Fmt) (env : FEnv) (a b : FVal) : FRes :=
  match nanOperand a b with
  | some r => r
  | none =>
    match a, b with
    | .inf na, .inf nb => if na = nb then infResult f na {} else invalidResult
    | .inf na, _ => infResult f na {}
    | _, .inf nb => infResult f nb {}
    | .num na ma ea, .num nb mb eb => addNums f env na ma ea nb mb eb
    | _, _ => invalidResult

/-- A datum with its sign changed. -/
def FVal.negate : FVal → FVal
  | .nan s => .nan s
  | .inf n => .inf (!n)
  | .num n m e => .num (!n) m e

/-- `a - b` (R611). -/
def fpSub (f : Fmt) (env : FEnv) (a b : FVal) : FRes := fpAdd f env a b.negate

/-- `a · b` (R612). -/
def fpMul (f : Fmt) (env : FEnv) (a b : FVal) : FRes :=
  match nanOperand a b with
  | some r => r
  | none =>
    match a, b with
    | .inf na, .inf nb => infResult f (na != nb) {}
    | .inf na, .num nb mb _ => if mb = 0 then invalidResult else infResult f (na != nb) {}
    | .num na ma _, .inf nb => if ma = 0 then invalidResult else infResult f (na != nb) {}
    | .num na ma ea, .num nb mb eb =>
      if ma = 0 ∨ mb = 0 then zeroResult f (na != nb) {} else roundResult f env (na != nb) (ma * mb) 1 (ea + eb)
    | _, _ => invalidResult

/-- `a / b` (R613): a finite non-zero number by zero signals divideByZero. -/
def fpDiv (f : Fmt) (env : FEnv) (a b : FVal) : FRes :=
  match nanOperand a b with
  | some r => r
  | none =>
    match a, b with
    | .inf _, .inf _ => invalidResult
    | .inf na, .num nb _ _ => infResult f (na != nb) {}
    | .num na _ _, .inf nb => zeroResult f (na != nb) {}
    | .num na ma ea, .num nb mb eb =>
      if mb = 0 then (if ma = 0 then invalidResult else infResult f (na != nb) { dzf := true })
      else if ma = 0 then zeroResult f (na != nb) {}
      else roundResult f env (na != nb) ma mb (ea - eb)
    | _, _ => invalidResult

/-- The remainder of `x` by `y > 0` with the quotient truncated, or nearest with ties to even (R606). -/
def remainderOf (kind : RemKind) (x y : Nat) : Int :=
  match kind with
  | .trunc => (x % y : Nat)
  | .ieee =>
    if 2 * (x % y) > y ∨ (2 * (x % y) = y ∧ x / y % 2 = 1) then (x % y : Nat) - (y : Int) else (x % y : Nat)

/-- A result that is never inexact and, underflow being a tiny inexact result, never underflows (R603, R606). -/
def FRes.neverInexact (r : FRes) : FRes := { r with flags := { r.flags with unf := false, ixf := false } }

/-- `lf.rem` (R606, R614): exact, so never inexact, also where a remainder that would be denormal is flushed to zero; a zero
result has the sign of `a`, and an infinite `b` leaves `a` (PRESUMED, entry 20). -/
def fpRem (f : Fmt) (env : FEnv) (kind : RemKind) (a b : FVal) : FRes :=
  match nanOperand a b with
  | some r => r
  | none =>
    match a, b with
    | .inf _, _ => invalidResult
    | .num na ma ea, .inf _ => if ma = 0 then zeroResult f na {} else (roundResult f env na ma 1 ea).neverInexact
    | .num na ma ea, .num _ mb eb =>
      if mb = 0 then invalidResult
      else
        let e := min ea eb
        let r := remainderOf kind (ma * 2 ^ (ea - e).toNat) (mb * 2 ^ (eb - e).toNat)
        if r = 0 then zeroResult f na {} else (roundResult f env (na != decide (r < 0)) r.natAbs 1 e).neverInexact
    | _, _ => invalidResult

/-- `lf.itof` (R606): the integer rounded to the format. -/
def fpOfInt (f : Fmt) (env : FEnv) (z : Int) : FRes :=
  if z = 0 then zeroResult f false {} else roundResult f env (decide (z < 0)) z.natAbs 1 0

/-- `lf.ftoi` to a signed integer of the format's width, as the bits of the result (R606): out of range, infinite or
NaN is invalid and the integer is undefined (U14); whether it is 0, and so ZF, `FRes.flagsAt` says. -/
def fpToInt (f : Fmt) (env : FEnv) (a : FVal) : FRes :=
  match a with
  | .num neg m e =>
    let r := roundAt env.mode neg m 1 e 0
    let z := signedMan neg r.1
    if z < -(2 ^ (f.width - 1)) ∨ z ≥ 2 ^ (f.width - 1) then { out := .anyInt, flags := { ivf := true } }
    else { out := .bits (BitVec.ofInt f.width z).toNat, flags := { zf := decide (z = 0), ixf := !r.2 } }
  | _ => { out := .anyInt, flags := { ivf := true } }

/-- A number scaled to a common exponent, or an infinity beyond every number, for comparison. -/
def orderKey (e : Int) (v : FVal) : Int × Int :=
  match v with
  | .num n m x => (0, signedMan n (m * 2 ^ (x - e).toNat))
  | .inf n => (if n then -1 else 1, 0)
  | .nan _ => (0, 0)

/-- The exponent of a number, for scaling. -/
def FVal.expOr (v : FVal) : Int :=
  match v with
  | .num _ _ e => e
  | _ => 0

/-- `a < b` of two data that are not NaNs. -/
def fpLess (a b : FVal) : Bool :=
  let e := min a.expOr b.expOr
  let x := orderKey e a
  let y := orderKey e b
  decide (x.1 < y.1) || (decide (x.1 = y.1) && decide (x.2 < y.2))

/-- A datum is a NaN. -/
def FVal.isNan : FVal → Bool
  | .nan _ => true
  | _ => false

/-- The relations of the compares (R605). -/
inductive FRel where
  | eq
  | ne
  | gt
  | ge
  | lt
  | le
  deriving DecidableEq, Repr

/-- An IEEE comparison: with a NaN the operands are unordered, and only `ne` holds (R605). -/
def fpCompare (r : FRel) (a b : FVal) : Bool :=
  if a.isNan || b.isNan then r == .ne
  else
    match r with
    | .eq => !fpLess a b && !fpLess b a
    | .ne => fpLess a b || fpLess b a
    | .gt => fpLess b a
    | .ge => !fpLess a b
    | .lt => fpLess a b
    | .le => !fpLess b a

/-! ## Operations on registers -/

/-- The environment of an operation: FPCSR[RM] and the parameters of U13. -/
def State.fpEnv (s : State) : FEnv :=
  { mode := RMode.ofBits (s.fpcsr.extractLsb' 1 2), tinyAfter := s.cfg.fpTinyAfter, denormals := s.cfg.fpDenormals }

/-- The operand of a register in a format: its low half for single precision, all of it for double (R601). -/
def State.fpReg (s : State) (f : Fmt) (r : Reg) : FVal := unpack f s.fpEnv ((s.gpr r).toNat % 2 ^ f.width)

/-- The value to be written and the state after drawing what is open in it (U12, U14). -/
def State.fpOut (s : State) (f : Fmt) (o : FOut) : Word × State :=
  match o with
  | .bits n => (BitVec.ofNat 64 n, s)
  | .quietNan => (BitVec.ofNat 64 (quietNanFrom f s.draw.1), s.draw.2)
  | .anyInt => (BitVec.ofNat 64 (s.draw.1.toNat % 2 ^ f.width), s.draw.2)

/-- The flags of a result whose written value is `v`: an integer that the operation leaves open sets ZF where it is 0
(R603, R617). -/
def FRes.flagsAt (r : FRes) (v : Word) : FFlags :=
  match r.out with
  | .anyInt => { r.flags with zf := v == 0 }
  | _ => r.flags

/-- FPCSR with an operation's flags ORed in (R603, 92_eei_decisions.md D28). -/
def State.orFlags (s : State) (fl : FFlags) : State := { s with fpcsr := s.fpcsr ||| (fl.bits.setWidth 32 <<< 3) }

/-- Completing a floating-point operation: the register and the flags are written, then Floating Point is raised where
FPCSR[FPEE] = 1 and a trapping flag was produced (R604). -/
def State.finishFp (s : State) (f : Fmt) (rd : Reg) (r : FRes) : Result :=
  let v := (s.fpOut f r.out).1
  let t := ((s.fpOut f r.out).2.setGpr rd v).orFlags (r.flagsAt v)
  if s.fpcsr.getLsbD 0 && ((r.flagsAt v).bits &&& s.cfg.fpTrapMask) != 0 then t.raise .floatingPoint 0
  else .next t.advance

/-- A two-operand arithmetic instruction. -/
def State.fpOp2 (s : State) (f : Fmt) (op : Fmt → FEnv → FVal → FVal → FRes) (rd ra rb : Reg) : Result :=
  s.finishFp f rd (op f s.fpEnv (s.fpReg f ra) (s.fpReg f rb))

/-- A compare: SR[F] and nothing else (R605). -/
def State.fpCmp (s : State) (f : Fmt) (r : FRel) (ra rb : Reg) : Result :=
  .next (s.setFlag (fpCompare r (s.fpReg f ra) (s.fpReg f rb))).advance

/-- The signed integer operand of `lf.itof` (R606). -/
def State.fpIntReg (s : State) (f : Fmt) (r : Reg) : Int := (BitVec.ofNat f.width (s.gpr r).toNat).toInt

end Sys2Proof.Machine
end

