-- ==== Sys2Proof/Machine/FloatInsns.lean ====
section
/-! DEFINITION. The floating-point instructions (45_orfpx.md R607-R639). -/

namespace Sys2Proof.Machine

/-- `lf.add.s` (R610). -/
def execLfAddS (rd : Reg) (ra : Reg) (rb : Reg) (s : State) : Result :=
  issue (.lfAddS rd ra rb) s fun s => s.fpOp2 Fmt.single fpAdd rd ra rb

/-- `lf.sub.s` (R611). -/
def execLfSubS (rd : Reg) (ra : Reg) (rb : Reg) (s : State) : Result :=
  issue (.lfSubS rd ra rb) s fun s => s.fpOp2 Fmt.single fpSub rd ra rb

/-- `lf.mul.s` (R612). -/
def execLfMulS (rd : Reg) (ra : Reg) (rb : Reg) (s : State) : Result :=
  issue (.lfMulS rd ra rb) s fun s => s.fpOp2 Fmt.single fpMul rd ra rb

/-- `lf.div.s` (R613). -/
def execLfDivS (rd : Reg) (ra : Reg) (rb : Reg) (s : State) : Result :=
  issue (.lfDivS rd ra rb) s fun s => s.fpOp2 Fmt.single fpDiv rd ra rb

/-- `lf.rem.s` (R614). -/
def execLfRemS (rd : Reg) (ra : Reg) (rb : Reg) (s : State) : Result :=
  issue (.lfRemS rd ra rb) s fun s => s.fpOp2 Fmt.single (fun f env => fpRem f env s.cfg.fpRem) rd ra rb

/-- `lf.madd.s` (R615): refused, its accumulator FPMADDHI/FPMADDLO is defined nowhere (R607, U16). -/
def execLfMaddS (rd : Reg) (ra : Reg) (rb : Reg) (s : State) : Result :=
  issue (.lfMaddS rd ra rb) s fun _ => .refused .fpMaddUndefined

/-- `lf.itof.s` (R616). -/
def execLfItofS (rd : Reg) (ra : Reg) (s : State) : Result :=
  issue (.lfItofS rd ra) s fun s => s.finishFp Fmt.single rd (fpOfInt Fmt.single s.fpEnv (s.fpIntReg Fmt.single ra))

/-- `lf.ftoi.s` (R617). -/
def execLfFtoiS (rd : Reg) (ra : Reg) (s : State) : Result :=
  issue (.lfFtoiS rd ra) s fun s => s.finishFp Fmt.single rd (fpToInt Fmt.single s.fpEnv (s.fpReg Fmt.single ra))

/-- `lf.sfeq.s` (R618). -/
def execLfSfeqS (ra : Reg) (rb : Reg) (s : State) : Result :=
  issue (.lfSfeqS ra rb) s fun s => s.fpCmp Fmt.single .eq ra rb

/-- `lf.sfne.s` (R619). -/
def execLfSfneS (ra : Reg) (rb : Reg) (s : State) : Result :=
  issue (.lfSfneS ra rb) s fun s => s.fpCmp Fmt.single .ne ra rb

/-- `lf.sfgt.s` (R620). -/
def execLfSfgtS (ra : Reg) (rb : Reg) (s : State) : Result :=
  issue (.lfSfgtS ra rb) s fun s => s.fpCmp Fmt.single .gt ra rb

/-- `lf.sfge.s` (R621). -/
def execLfSfgeS (ra : Reg) (rb : Reg) (s : State) : Result :=
  issue (.lfSfgeS ra rb) s fun s => s.fpCmp Fmt.single .ge ra rb

/-- `lf.sflt.s` (R622). -/
def execLfSfltS (ra : Reg) (rb : Reg) (s : State) : Result :=
  issue (.lfSfltS ra rb) s fun s => s.fpCmp Fmt.single .lt ra rb

/-- `lf.sfle.s` (R623). -/
def execLfSfleS (ra : Reg) (rb : Reg) (s : State) : Result :=
  issue (.lfSfleS ra rb) s fun s => s.fpCmp Fmt.single .le ra rb

/-- `lf.cust1.s` (R624): custom space (92_eei_decisions.md D18). -/
def execLfCust1S (ra : Reg) (rb : Reg) (s : State) : Result :=
  issue (.lfCust1S ra rb) s fun s => s.raise .illegal s.pc

/-- `lf.add.d` (R625). -/
def execLfAddD (rd : Reg) (ra : Reg) (rb : Reg) (s : State) : Result :=
  issue (.lfAddD rd ra rb) s fun s => s.fpOp2 Fmt.double fpAdd rd ra rb

/-- `lf.sub.d` (R626). -/
def execLfSubD (rd : Reg) (ra : Reg) (rb : Reg) (s : State) : Result :=
  issue (.lfSubD rd ra rb) s fun s => s.fpOp2 Fmt.double fpSub rd ra rb

/-- `lf.mul.d` (R627). -/
def execLfMulD (rd : Reg) (ra : Reg) (rb : Reg) (s : State) : Result :=
  issue (.lfMulD rd ra rb) s fun s => s.fpOp2 Fmt.double fpMul rd ra rb

/-- `lf.div.d` (R628). -/
def execLfDivD (rd : Reg) (ra : Reg) (rb : Reg) (s : State) : Result :=
  issue (.lfDivD rd ra rb) s fun s => s.fpOp2 Fmt.double fpDiv rd ra rb

/-- `lf.rem.d` (R629). -/
def execLfRemD (rd : Reg) (ra : Reg) (rb : Reg) (s : State) : Result :=
  issue (.lfRemD rd ra rb) s fun s => s.fpOp2 Fmt.double (fun f env => fpRem f env s.cfg.fpRem) rd ra rb

/-- `lf.madd.d` (R630): refused, its accumulator FPMADDHI/FPMADDLO is defined nowhere (R607, U16). -/
def execLfMaddD (rd : Reg) (ra : Reg) (rb : Reg) (s : State) : Result :=
  issue (.lfMaddD rd ra rb) s fun _ => .refused .fpMaddUndefined

/-- `lf.itof.d` (R631). -/
def execLfItofD (rd : Reg) (ra : Reg) (s : State) : Result :=
  issue (.lfItofD rd ra) s fun s => s.finishFp Fmt.double rd (fpOfInt Fmt.double s.fpEnv (s.fpIntReg Fmt.double ra))

/-- `lf.ftoi.d` (R632). -/
def execLfFtoiD (rd : Reg) (ra : Reg) (s : State) : Result :=
  issue (.lfFtoiD rd ra) s fun s => s.finishFp Fmt.double rd (fpToInt Fmt.double s.fpEnv (s.fpReg Fmt.double ra))

/-- `lf.sfeq.d` (R633). -/
def execLfSfeqD (ra : Reg) (rb : Reg) (s : State) : Result :=
  issue (.lfSfeqD ra rb) s fun s => s.fpCmp Fmt.double .eq ra rb

/-- `lf.sfne.d` (R634). -/
def execLfSfneD (ra : Reg) (rb : Reg) (s : State) : Result :=
  issue (.lfSfneD ra rb) s fun s => s.fpCmp Fmt.double .ne ra rb

/-- `lf.sfgt.d` (R635). -/
def execLfSfgtD (ra : Reg) (rb : Reg) (s : State) : Result :=
  issue (.lfSfgtD ra rb) s fun s => s.fpCmp Fmt.double .gt ra rb

/-- `lf.sfge.d` (R636). -/
def execLfSfgeD (ra : Reg) (rb : Reg) (s : State) : Result :=
  issue (.lfSfgeD ra rb) s fun s => s.fpCmp Fmt.double .ge ra rb

/-- `lf.sflt.d` (R637). -/
def execLfSfltD (ra : Reg) (rb : Reg) (s : State) : Result :=
  issue (.lfSfltD ra rb) s fun s => s.fpCmp Fmt.double .lt ra rb

/-- `lf.sfle.d` (R638). -/
def execLfSfleD (ra : Reg) (rb : Reg) (s : State) : Result :=
  issue (.lfSfleD ra rb) s fun s => s.fpCmp Fmt.double .le ra rb

/-- `lf.cust1.d` (R639): custom space (92_eei_decisions.md D18). -/
def execLfCust1D (ra : Reg) (rb : Reg) (s : State) : Result :=
  issue (.lfCust1D ra rb) s fun s => s.raise .illegal s.pc

end Sys2Proof.Machine
end

