-- ==== Sys2Proof/Machine/LoadStore.lean ====
section
/-! DEFINITION. Loads and stores (43_orbis_loadstore.md R500-R517). -/

namespace Sys2Proof.Machine

/-! ## Shared operations -/

/-- The effective address (R500). -/
def State.effAddr (s : State) (ra : Reg) (i : BitVec 16) : Word :=
  trunc s.cfg.xlen (s.gpr ra + sext16 s.cfg.xlen i)

/-- What a load does: `n` bytes at the effective address, extended by `ext`, into `rd` (R501). An rD that does not exist
raises Range only after the conditions of higher priority (60_exceptions.md R870, entry 17). -/
def State.loadOp (s : State) (rd ra : Reg) (i : BitVec 16) (n : Nat) (ext : Nat → Word) : Result :=
  (s.memRead (s.effAddr ra i) n).run s fun r =>
    if s.regMissing rd then s.raise .range 0 else .next (r.2.state.setGpr rd (ext r.1)).advance

/-- What a store does: the low `n` bytes of `rb` at the effective address (R502). -/
def State.storeOp (s : State) (ra rb : Reg) (i : BitVec 16) (n : Nat) : Result :=
  (s.memWrite (s.effAddr ra i) n (s.gpr rb)).run s fun t =>
    if s.regMissing rb then s.raise .range 0 else .next t.advance

/-- `zext` of a loaded value. -/
def zextLoad (v : Nat) : Word := BitVec.ofNat 64 v

/-- `sext` of a loaded value of `w` bits. -/
def sextLoad (w : Nat) (v : Nat) : Word := (BitVec.ofNat w v).signExtend 64

/-! ## Loads -/

/-- `l.lbz` (R504). -/
def execLLbz (rd ra : Reg) (i : BitVec 16) (s : State) : Result :=
  issue (.lLbz rd ra i) s fun s => s.loadOp rd ra i 1 zextLoad

/-- `l.lbs` (R505). -/
def execLLbs (rd ra : Reg) (i : BitVec 16) (s : State) : Result :=
  issue (.lLbs rd ra i) s fun s => s.loadOp rd ra i 1 (sextLoad 8)

/-- `l.lhz` (R506). -/
def execLLhz (rd ra : Reg) (i : BitVec 16) (s : State) : Result :=
  issue (.lLhz rd ra i) s fun s => s.loadOp rd ra i 2 zextLoad

/-- `l.lhs` (R507). -/
def execLLhs (rd ra : Reg) (i : BitVec 16) (s : State) : Result :=
  issue (.lLhs rd ra i) s fun s => s.loadOp rd ra i 2 (sextLoad 16)

/-- `l.lwz` (R509). -/
def execLLwz (rd ra : Reg) (i : BitVec 16) (s : State) : Result :=
  issue (.lLwz rd ra i) s fun s => s.loadOp rd ra i 4 zextLoad

/-- `l.lws` (R510). -/
def execLLws (rd ra : Reg) (i : BitVec 16) (s : State) : Result :=
  issue (.lLws rd ra i) s fun s => s.loadOp rd ra i 4 (sextLoad 32)

/-- `l.ld` (R511). -/
def execLLd (rd ra : Reg) (i : BitVec 16) (s : State) : Result :=
  issue (.lLd rd ra i) s fun s => s.loadOp rd ra i 8 zextLoad

/-- The reservation that `l.lwa` makes: the physical address that the load used (R508, 20_memory.md R230). -/
def reserve (as : List Nat) : Option Nat := as.head?

/-- `l.lwa` (R508): a zero-extending word load that places a reservation, and a synchronisation point where memory is weakly
ordered (20_memory.md R234). -/
def execLLwa (rd ra : Reg) (i : BitVec 16) (s : State) : Result :=
  issue (.lLwa rd ra i) s fun s =>
    (s.memRead (s.effAddr ra i) 4).run s fun r =>
      if s.regMissing rd then s.raise .range 0
      else .next ({ r.2.state.syncPoint.setGpr rd (zextLoad r.1) with resv := reserve r.2.addrs }).advance

/-! ## Stores -/

/-- `l.sb` (R512). -/
def execLSb (ra rb : Reg) (i : BitVec 16) (s : State) : Result :=
  issue (.lSb ra rb i) s fun s => s.storeOp ra rb i 1

/-- `l.sh` (R514). -/
def execLSh (ra rb : Reg) (i : BitVec 16) (s : State) : Result :=
  issue (.lSh ra rb i) s fun s => s.storeOp ra rb i 2

/-- `l.sw` (R515). -/
def execLSw (ra rb : Reg) (i : BitVec 16) (s : State) : Result :=
  issue (.lSw ra rb i) s fun s => s.storeOp ra rb i 4

/-- `l.sd` (R516). -/
def execLSd (ra rb : Reg) (i : BitVec 16) (s : State) : Result :=
  issue (.lSd ra rb i) s fun s => s.storeOp ra rb i 8

/-- The reservation is intact for the word at the bytes `as` (R513, 20_memory.md R232). -/
def State.reserved (s : State) (as : List Nat) : Bool := s.resv.isSome && s.resv == as.head?

/-- The end of `l.swa`: SR[F] tells whether it stored, and the reservation is gone (R513). -/
def State.finishSwa (t : State) (stored : Bool) : State := ({ t.setFlag stored with resv := none }).advance

/-- `l.swa` (R513): an effective address that is not a multiple of four raises Alignment on every implementation; the word is
stored only if the reservation is intact; Bus Error is raised only then (92_eei_decisions.md D14). Where memory is weakly ordered it
is a synchronisation point (20_memory.md R234): for the stores before it, not for its own, which R234 does not settle (DESIGN CHOICE,
entry 38). -/
def execLSwa (ra rb : Reg) (i : BitVec 16) (s : State) : Result :=
  issue (.lSwa ra rb i) s fun s =>
    if (s.effAddr ra i).toNat % 4 != 0 then s.raise .alignment (s.effAddr ra i)
    else
      (translate s .store (s.effAddr ra i) 4).run s fun l =>
        if s.reserved l.addrs then
          if physValid s.cfg l.addrs then
            (l.state.syncPoint.storePhys l.addrs (s.gpr rb) l.cached).run s fun t =>
              if s.regMissing rb then s.raise .range 0 else .next (t.finishSwa true)
          else s.raise .busError (s.effAddr ra i)
        else if s.regMissing rb then s.raise .range 0
        else .next (l.state.syncPoint.finishSwa false)

end Sys2Proof.Machine
end

