-- ==== Sys2Proof/Machine/Logic.lean ====
section
/-! DEFINITION. Logic, shifts, rotates, extensions and move high (41_orbis_logic_shift.md R400-R422). -/

namespace Sys2Proof.Machine

/-! ## Shared operations -/

/-- Shift left by `n` (R408). -/
def shiftLeft (x : Xlen) (a : Word) (n : Nat) : Word := ofNat x (uval x a * 2 ^ n)

/-- Shift right by `n`, zero fill (R410). -/
def shiftRight (x : Xlen) (a : Word) (n : Nat) : Word := ofNat x (uval x a / 2 ^ n)

/-- Shift right by `n`, sign fill: the floor of the signed quotient (R412). -/
def shiftRightArith (x : Xlen) (a : Word) (n : Nat) : Word := ofInt x (sval x a / 2 ^ n)

/-- Rotate right by `n < XLEN` (R414). -/
def rotateRight (x : Xlen) (a : Word) (n : Nat) : Word :=
  ofNat x (uval x a / 2 ^ n + uval x a % 2 ^ n * 2 ^ (x.bits - n))

/-- The shift amount of an immediate form (R401). -/
def immAmount (x : Xlen) (l : BitVec 6) : Nat := shiftAmount x (l.setWidth 64)

/-- A byte, sign-extended to XLEN bits (R416). -/
def sextByte (x : Xlen) (v : Word) : Word := trunc x ((v.extractLsb' 0 8).signExtend 64)

/-- A byte, zero-extended (R417). -/
def zextByte (v : Word) : Word := (v.extractLsb' 0 8).setWidth 64

/-- A half word, sign-extended to XLEN bits (R418). -/
def sextHalf (x : Xlen) (v : Word) : Word := trunc x ((v.extractLsb' 0 16).signExtend 64)

/-- A half word, zero-extended (R419). -/
def zextHalf (v : Word) : Word := (v.extractLsb' 0 16).setWidth 64

/-! ## The instructions -/

/-- `l.and` (R402). -/
def execLAnd (rd : Reg) (ra : Reg) (rb : Reg) (s : State) : Result :=
  issue (.lAnd rd ra rb) s fun s => s.writeReg rd (s.gpr ra &&& s.gpr rb)

/-- `l.andi` (R403). -/
def execLAndi (rd : Reg) (ra : Reg) (k : BitVec 16) (s : State) : Result :=
  issue (.lAndi rd ra k) s fun s => s.writeReg rd (s.gpr ra &&& zext16 k)

/-- `l.or` (R404). -/
def execLOr (rd : Reg) (ra : Reg) (rb : Reg) (s : State) : Result :=
  issue (.lOr rd ra rb) s fun s => s.writeReg rd (s.gpr ra ||| s.gpr rb)

/-- `l.ori` (R405). -/
def execLOri (rd : Reg) (ra : Reg) (k : BitVec 16) (s : State) : Result :=
  issue (.lOri rd ra k) s fun s => s.writeReg rd (s.gpr ra ||| zext16 k)

/-- `l.xor` (R406). -/
def execLXor (rd : Reg) (ra : Reg) (rb : Reg) (s : State) : Result :=
  issue (.lXor rd ra rb) s fun s => s.writeReg rd (s.gpr ra ^^^ s.gpr rb)

/-- `l.xori` (R407). -/
def execLXori (rd : Reg) (ra : Reg) (i : BitVec 16) (s : State) : Result :=
  issue (.lXori rd ra i) s fun s => s.writeReg rd (s.gpr ra ^^^ sext16 s.cfg.xlen i)

/-- `l.sll` (R408). -/
def execLSll (rd : Reg) (ra : Reg) (rb : Reg) (s : State) : Result :=
  issue (.lSll rd ra rb) s fun s => s.writeReg rd (shiftLeft s.cfg.xlen (s.gpr ra) (shiftAmount s.cfg.xlen (s.gpr rb)))

/-- `l.slli` (R409). -/
def execLSlli (rd : Reg) (ra : Reg) (l : BitVec 6) (s : State) : Result :=
  issue (.lSlli rd ra l) s fun s => s.writeReg rd (shiftLeft s.cfg.xlen (s.gpr ra) (immAmount s.cfg.xlen l))

/-- `l.srl` (R410). -/
def execLSrl (rd : Reg) (ra : Reg) (rb : Reg) (s : State) : Result :=
  issue (.lSrl rd ra rb) s fun s => s.writeReg rd (shiftRight s.cfg.xlen (s.gpr ra) (shiftAmount s.cfg.xlen (s.gpr rb)))

/-- `l.srli` (R411). -/
def execLSrli (rd : Reg) (ra : Reg) (l : BitVec 6) (s : State) : Result :=
  issue (.lSrli rd ra l) s fun s => s.writeReg rd (shiftRight s.cfg.xlen (s.gpr ra) (immAmount s.cfg.xlen l))

/-- `l.sra` (R412). -/
def execLSra (rd : Reg) (ra : Reg) (rb : Reg) (s : State) : Result :=
  issue (.lSra rd ra rb) s fun s => s.writeReg rd (shiftRightArith s.cfg.xlen (s.gpr ra) (shiftAmount s.cfg.xlen (s.gpr rb)))

/-- `l.srai` (R413). -/
def execLSrai (rd : Reg) (ra : Reg) (l : BitVec 6) (s : State) : Result :=
  issue (.lSrai rd ra l) s fun s => s.writeReg rd (shiftRightArith s.cfg.xlen (s.gpr ra) (immAmount s.cfg.xlen l))

/-- `l.ror` (R414). -/
def execLRor (rd : Reg) (ra : Reg) (rb : Reg) (s : State) : Result :=
  issue (.lRor rd ra rb) s fun s => s.writeReg rd (rotateRight s.cfg.xlen (s.gpr ra) (shiftAmount s.cfg.xlen (s.gpr rb)))

/-- `l.rori` (R415). -/
def execLRori (rd : Reg) (ra : Reg) (l : BitVec 6) (s : State) : Result :=
  issue (.lRori rd ra l) s fun s => s.writeReg rd (rotateRight s.cfg.xlen (s.gpr ra) (immAmount s.cfg.xlen l))

/-- `l.extbs` (R416). -/
def execLExtbs (rd : Reg) (ra : Reg) (s : State) : Result :=
  issue (.lExtbs rd ra) s fun s => s.writeReg rd (sextByte s.cfg.xlen (s.gpr ra))

/-- `l.extbz` (R417). -/
def execLExtbz (rd : Reg) (ra : Reg) (s : State) : Result :=
  issue (.lExtbz rd ra) s fun s => s.writeReg rd (zextByte (s.gpr ra))

/-- `l.exths` (R418). -/
def execLExths (rd : Reg) (ra : Reg) (s : State) : Result :=
  issue (.lExths rd ra) s fun s => s.writeReg rd (sextHalf s.cfg.xlen (s.gpr ra))

/-- `l.exthz` (R419). -/
def execLExthz (rd : Reg) (ra : Reg) (s : State) : Result :=
  issue (.lExthz rd ra) s fun s => s.writeReg rd (zextHalf (s.gpr ra))

/-- `l.extws` (R420). -/
def execLExtws (rd : Reg) (ra : Reg) (s : State) : Result :=
  issue (.lExtws rd ra) s fun s => s.writeReg rd (sext32 s.cfg.xlen (lo32 (s.gpr ra)))

/-- `l.extwz` (R421). -/
def execLExtwz (rd : Reg) (ra : Reg) (s : State) : Result :=
  issue (.lExtwz rd ra) s fun s => s.writeReg rd (zext32 (lo32 (s.gpr ra)))

/-- `l.movhi` (R422). -/
def execLMovhi (rd : Reg) (k : BitVec 16) (s : State) : Result :=
  issue (.lMovhi rd k) s fun s => s.writeReg rd (zext16 k <<< 16)

end Sys2Proof.Machine
end

