-- ==== Sys2Proof/Machine/Mac.lean ====
section
/-! DEFINITION. Multiply-accumulate (40_orbis_arith.md R366-R375). -/

namespace Sys2Proof.Machine

/-- The accumulator `MACHI ++ MACLO`, 64 bits on every implementation (R374). -/
def State.acc (s : State) : Word := s.machi ++ s.maclo

/-- `acc <- v` (R374). -/
def State.setAcc (s : State) (v : Word) : State :=
  { s with machi := v.extractLsb' 32 32, maclo := v.extractLsb' 0 32 }

/-- The signed product as a 64-bit value (R366). -/
def State.productS (s : State) (a b : Word) : Word := BitVec.ofInt 64 (sval s.cfg.xlen a * sval s.cfg.xlen b)

/-- The unsigned product as a 64-bit value (R368). -/
def State.productU (s : State) (a b : Word) : Word := BitVec.ofNat 64 (uval s.cfg.xlen a * uval s.cfg.xlen b)

/-- A signed accumulation to the exact value `z`: OV where it does not fit 64 bits (R375). -/
def State.accSigned (s : State) (z : Int) : Result :=
  ((s.setAcc (BitVec.ofInt 64 z)).setOverflow (signedOut64 z)).finishArith
    [{ bit := .ovMacAdd, isOv := true, holds := signedOut64 z }]

/-- An unsigned accumulation to `v`, with its carry or borrow in CY (R375). -/
def State.accUnsigned (s : State) (v : Word) (cy : Bool) : Result :=
  ((s.setAcc v).setCarry cy).finishArith [{ bit := .cyMacAdd, isOv := false, holds := cy }]

/-- `l.mac` (R366). -/
def execLMac (ra rb : Reg) (s : State) : Result :=
  issue (.lMac ra rb) s fun s => s.accSigned (s.acc.toInt + (s.productS (s.gpr ra) (s.gpr rb)).toInt)

/-- `l.maci` (R367). -/
def execLMaci (ra : Reg) (i : BitVec 16) (s : State) : Result :=
  issue (.lMaci ra i) s fun s => s.accSigned (s.acc.toInt + (s.productS (s.gpr ra) (sext16 s.cfg.xlen i)).toInt)

/-- `l.macu` (R368). -/
def execLMacu (ra rb : Reg) (s : State) : Result :=
  issue (.lMacu ra rb) s fun s =>
    s.accUnsigned (s.acc + s.productU (s.gpr ra) (s.gpr rb))
      (decide (s.acc.toNat + (s.productU (s.gpr ra) (s.gpr rb)).toNat ≥ 2 ^ 64))

/-- `l.msb` (R369). -/
def execLMsb (ra rb : Reg) (s : State) : Result :=
  issue (.lMsb ra rb) s fun s => s.accSigned (s.acc.toInt - (s.productS (s.gpr ra) (s.gpr rb)).toInt)

/-- `l.msbu` (R370). -/
def execLMsbu (ra rb : Reg) (s : State) : Result :=
  issue (.lMsbu ra rb) s fun s =>
    s.accUnsigned (s.acc - s.productU (s.gpr ra) (s.gpr rb))
      (decide (s.acc.toNat < (s.productU (s.gpr ra) (s.gpr rb)).toNat))

/-- `l.macrc` (R371): MACLO with XLEN = 32, the whole accumulator with XLEN = 64; then the accumulator is cleared. -/
def execLMacrc (rd : Reg) (s : State) : Result :=
  issue (.lMacrc rd) s fun s =>
    .next (((s.setGpr rd (match s.cfg.xlen with | .x32 => zext32 s.maclo | .x64 => s.acc)).setAcc 0).advance)

/-- `l.muld` (R372): the exact product replaces the accumulator. -/
def execLMuld (ra rb : Reg) (s : State) : Result :=
  issue (.lMuld ra rb) s fun s =>
    let z := sval s.cfg.xlen (s.gpr ra) * sval s.cfg.xlen (s.gpr rb)
    ((s.setAcc (BitVec.ofInt 64 z)).setOverflow (signedOut64 z)).finishArith
      [{ bit := .ovMul, isOv := true, holds := signedOut64 z }]

/-- `l.muldu` (R373). -/
def execLMuldu (ra rb : Reg) (s : State) : Result :=
  issue (.lMuldu ra rb) s fun s =>
    let u := uval s.cfg.xlen (s.gpr ra) * uval s.cfg.xlen (s.gpr rb)
    ((s.setAcc (BitVec.ofNat 64 u)).setCarry (decide (u ≥ 2 ^ 64))).finishArith
      [{ bit := .cyMul, isOv := false, holds := decide (u ≥ 2 ^ 64) }]

end Sys2Proof.Machine
end

