-- ==== Sys2Proof/Machine/System.lean ====
section
/-! DEFINITION. System instructions: no-operation, system call, trap, return, special-register moves, synchronisation
and the custom space (44_orbis_control_system.md R559-R571). -/

namespace Sys2Proof.Machine

/-- An instruction that only advances `pc`. -/
def State.noEffect (s : State) : Result := .next s.advance

/-- An encoding of the custom space (R571, 30_encoding.md R332, 92_eei_decisions.md D18). -/
def State.customSpace (s : State) : Result := s.raise .illegal s.pc

/-- The 16-bit address of a special-purpose register: an OR, not a sum (R565, 10_state.md R50). -/
def State.sprAddress (s : State) (ra : Reg) (k : BitVec 16) : BitVec 16 := (s.gpr ra ||| zext16 k).setWidth 16

/-- `l.nop` (R559). -/
def execLNop (k : BitVec 16) (s : State) : Result :=
  issue (.lNop k) s fun s => s.noEffect

/-- `l.sys` (R560): raises System Call. -/
def execLSys (k : BitVec 16) (s : State) : Result :=
  issue (.lSys k) s fun s => s.raise .syscall 0

/-- `l.trap` (R561): raises Trap. -/
def execLTrap (k : BitVec 16) (s : State) : Result :=
  issue (.lTrap k) s fun s => s.raise .trap 0

/-- `l.rfe` (R564): Illegal Instruction in user mode (92_eei_decisions.md D26), refused in a delay slot (U5). -/
def execLRfe (s : State) : Result :=
  issue .lRfe s fun s =>
    if s.sm then (if s.dsPending then .refused .jumpInDelaySlot else .next s.leave)
    else s.raise .illegal s.pc

/-- Completing `l.mtspr` after its write: a write of NPC sets the next `pc` (10_state.md R47). -/
def State.finishMtspr (s : State) (r : Option Spr) (v : Word) : State :=
  if r = some .npc then s.setNpc v else s.advance

/-- `l.mtspr` (R565, R570): Illegal Instruction where the mode has no right (92_eei_decisions.md D4). -/
def execLMtspr (ra rb : Reg) (k : BitVec 16) (s : State) : Result :=
  issue (.lMtspr ra rb k) s fun s =>
    if mayAccess s (sprAt s.cfg (s.sprAddress ra k)) then
      if s.regMissing rb then s.raise .range 0
      else .next ((s.writeSprAt (sprAt s.cfg (s.sprAddress ra k)) (s.gpr rb)).finishMtspr
        (sprAt s.cfg (s.sprAddress ra k)) (s.gpr rb))
    else s.raise .illegal s.pc

/-- `l.mfspr` (R566). -/
def execLMfspr (rd ra : Reg) (k : BitVec 16) (s : State) : Result :=
  issue (.lMfspr rd ra k) s fun s =>
    if mayAccess s (sprAt s.cfg (s.sprAddress ra k)) then
      if s.regMissing rd then s.raise .range 0
      else
        .next (((s.readSprAt (sprAt s.cfg (s.sprAddress ra k))).2.setGpr rd
          (s.readSprAt (sprAt s.cfg (s.sprAddress ra k))).1).advance)
    else s.raise .illegal s.pc

/-- `l.msync` (R567): on one core that performs its accesses in order it only advances `pc` (92_eei_decisions.md D13); it waits
for the updates of the coherence sequence (70_reset_and_hazards.md R1073). -/
def execLMsync (s : State) : Result :=
  issue .lMsync s fun s => State.noEffect { s with stale := synced s.stale }

/-- `l.csync` (R568): no architectural state change; it waits for the updates of the coherence sequence (20_memory.md R282). -/
def execLCsync (s : State) : Result :=
  issue .lCsync s fun s => State.noEffect { s with stale := synced s.stale }

/-- `l.psync` (R569): no architectural state change; it flushes the pipeline, the last step of the coherence sequence (20_memory.md R282). -/
def execLPsync (s : State) : Result :=
  issue .lPsync s fun s => State.noEffect { s with stale := flushedOld s.cfg s.stale }

/-- `l.cust1` (R571). -/
def execLCust1 (s : State) : Result :=
  issue .lCust1 s fun s => s.customSpace

/-- `l.cust2` (R571). -/
def execLCust2 (s : State) : Result :=
  issue .lCust2 s fun s => s.customSpace

/-- `l.cust3` (R571). -/
def execLCust3 (s : State) : Result :=
  issue .lCust3 s fun s => s.customSpace

/-- `l.cust4` (R571). -/
def execLCust4 (s : State) : Result :=
  issue .lCust4 s fun s => s.customSpace

/-- `l.cust5` (R571). -/
def execLCust5 (rd ra rb : Reg) (l : BitVec 6) (k : BitVec 5) (s : State) : Result :=
  issue (.lCust5 rd ra rb l k) s fun s => s.customSpace

/-- `l.cust6` (R571). -/
def execLCust6 (s : State) : Result :=
  issue .lCust6 s fun s => s.customSpace

/-- `l.cust7` (R571). -/
def execLCust7 (s : State) : Result :=
  issue .lCust7 s fun s => s.customSpace

/-- `l.cust8` (R571). -/
def execLCust8 (s : State) : Result :=
  issue .lCust8 s fun s => s.customSpace

end Sys2Proof.Machine
end

