-- ==== Sys2Proof/Machine/Vector.lean ====
section
/-! DEFINITION. Lanes and the operations of the vector instructions (46_orvdx_a.md R681-R685, 47_orvdx_b.md). -/

namespace Sys2Proof.Machine

/-! ## Lanes (R681) -/

/-- Element `i` of width `w`: bits `w*i + w - 1 : w*i`. `B`, `H` and `N` of R681 are widths 8, 16 and 4. -/
def lane (w : Nat) (x : Word) (i : Nat) : BitVec w := x.extractLsb' (w * i) w

/-- The value whose elements 0 to `n - 1` are `f 0` to `f (n - 1)`. -/
def ofLanes (w : Nat) (f : Nat → BitVec w) : Nat → Word
  | 0 => 0
  | n + 1 => ofLanes w f n ||| ((f n).setWidth 64 <<< (w * n))

/-- How many elements of width `w` a register holds. -/
def laneCount (w : Nat) : Nat := 64 / w

/-- `satNs` (00_scope.md R15). -/
def satS (n : Nat) (z : Int) : BitVec n := BitVec.ofInt n (min (max z (-(2 ^ (n - 1)))) (2 ^ (n - 1) - 1))

/-- `satNu` (00_scope.md R15). -/
def satU (n : Nat) (z : Int) : BitVec n := BitVec.ofInt n (min (max z 0) (2 ^ n - 1))

/-- The integer an element stands for where its sign is LV_ORDER_SIGNED's choice (R683). -/
def laneVal {w : Nat} (signed : Bool) (v : BitVec w) : Int := if signed then v.toInt else v.toNat

/-- The relations of the compare families. -/
inductive VRel where
  | eq
  | ne
  | gt
  | ge
  | lt
  | le
  deriving DecidableEq, Repr

/-- A relation between two elements. -/
def VRel.holds (r : VRel) (a b : Int) : Bool :=
  match r with
  | .eq => a == b
  | .ne => a != b
  | .gt => decide (a > b)
  | .ge => decide (a ≥ b)
  | .lt => decide (a < b)
  | .le => decide (a ≤ b)

/-! ## Operations on two registers -/

/-- An operation lane by lane. -/
def lanes2 (w : Nat) (f : BitVec w → BitVec w → BitVec w) (a b : Word) : Word :=
  ofLanes w (fun i => f (lane w a i) (lane w b i)) (laneCount w)

/-- A relation between elements `i`. -/
def laneRel (signed : Bool) (r : VRel) (w : Nat) (a b : Word) (i : Nat) : Bool :=
  r.holds (laneVal signed (lane w a i)) (laneVal signed (lane w b i))

/-- All elements satisfy the relation (R700-R711). -/
def lanesAll (signed : Bool) (r : VRel) (w : Nat) (a b : Word) : Bool :=
  (List.range (laneCount w)).all (laneRel signed r w a b)

/-- Some element satisfies the relation (R712-R723). -/
def lanesAny (signed : Bool) (r : VRel) (w : Nat) (a b : Word) : Bool :=
  (List.range (laneCount w)).any (laneRel signed r w a b)

/-- Each element all ones where the relation holds, else zero (R730-R741). -/
def lanesCmp (signed : Bool) (r : VRel) (w : Nat) (a b : Word) : Word :=
  ofLanes w (fun i => if laneRel signed r w a b i then BitVec.allOnes w else 0) (laneCount w)

/-- The floor of half the exact sum (R725, R726). -/
def laneAvg {w : Nat} (signed : Bool) (a b : BitVec w) : BitVec w :=
  BitVec.ofInt w ((laneVal signed a + laneVal signed b) / 2)

/-- The larger element (R762, R763). -/
def laneMax {w : Nat} (signed : Bool) (a b : BitVec w) : BitVec w :=
  if laneVal signed a > laneVal signed b then a else b

/-- The smaller element (R766, R767). -/
def laneMin {w : Nat} (signed : Bool) (a b : BitVec w) : BitVec w :=
  if laneVal signed a < laneVal signed b then a else b

/-- Even elements from `b`, odd ones from `a`, each at its own place (R764, R765, 90_conflicts.md C22). -/
def lanesMerge (w : Nat) (a b : Word) : Word :=
  ofLanes w (fun i => if i % 2 == 0 then lane w b i else lane w a i) (laneCount w)

/-- Elements of width `w` narrowed to half: the lower half of the result from `b`, the upper from `a` (R773-R778). -/
def lanesPack (w : Nat) (f : BitVec w → BitVec (w / 2)) (a b : Word) : Word :=
  ofLanes (w / 2) (fun i => if i < laneCount w then f (lane w b i) else f (lane w a (i - laneCount w)))
    (2 * laneCount w)

/-- The low elements of half the width, sign-extended to width `w` (R798, R799). -/
def lanesUnpack (w : Nat) (a : Word) : Word := ofLanes w (fun i => (lane (w / 2) a i).signExtend w) (laneCount w)

/-- Result nibble `j` is the nibble of `a` that nibble `j` of `b` numbers (R779). -/
def nibblePermute (a b : Word) : Word := ofLanes 4 (fun j => lane 4 a (lane 4 b j).toNat) 16

/-- A shift or rotate of each element by the same element of `b` modulo the width (R780-R783, R785-R788). -/
def lanesShift (w : Nat) (f : BitVec w → Nat → BitVec w) (a b : Word) : Word :=
  ofLanes w (fun i => f (lane w a i) ((lane w b i).toNat % w)) (laneCount w)

/-! ## Completion (R682, R684) -/

/-- `GPR[D] <- f(GPR[A], GPR[B])` and completing; no flag is written. -/
def State.vecOp (s : State) (f : Word → Word → Word) (rd ra rb : Reg) : Result :=
  s.writeReg rd (f (s.gpr ra) (s.gpr rb))

/-- `SR[F] <- p(GPR[A], GPR[B])`, replicated into `GPR[D]` (R684). -/
def State.vecFlag (s : State) (p : Word → Word → Bool) (rd ra rb : Reg) : Result :=
  (s.setFlag (p (s.gpr ra) (s.gpr rb))).writeReg rd (if p (s.gpr ra) (s.gpr rb) then BitVec.allOnes 64 else 0)

end Sys2Proof.Machine
end

