-- ==== Sys2Proof/Machine/VectorInsns.lean ====
section
/-! DEFINITION. The vector instructions (46_orvdx_a.md R680-R746, 47_orvdx_b.md R760-R811). -/

namespace Sys2Proof.Machine

/-- `lv.add.b` (R690). -/
def execLvAddB (rd : Reg) (ra : Reg) (rb : Reg) (s : State) : Result :=
  issue (.lvAddB rd ra rb) s fun s => s.vecOp (lanes2 8 (· + ·)) rd ra rb

/-- `lv.add.h` (R691). -/
def execLvAddH (rd : Reg) (ra : Reg) (rb : Reg) (s : State) : Result :=
  issue (.lvAddH rd ra rb) s fun s => s.vecOp (lanes2 16 (· + ·)) rd ra rb

/-- `lv.adds.b` (R692). -/
def execLvAddsB (rd : Reg) (ra : Reg) (rb : Reg) (s : State) : Result :=
  issue (.lvAddsB rd ra rb) s fun s => s.vecOp (lanes2 8 fun a b => satS 8 (a.toInt + b.toInt)) rd ra rb

/-- `lv.adds.h` (R693). -/
def execLvAddsH (rd : Reg) (ra : Reg) (rb : Reg) (s : State) : Result :=
  issue (.lvAddsH rd ra rb) s fun s => s.vecOp (lanes2 16 fun a b => satS 16 (a.toInt + b.toInt)) rd ra rb

/-- `lv.addu.b` (R694). -/
def execLvAdduB (rd : Reg) (ra : Reg) (rb : Reg) (s : State) : Result :=
  issue (.lvAdduB rd ra rb) s fun s => s.vecOp (lanes2 8 (· + ·)) rd ra rb

/-- `lv.addu.h` (R695). -/
def execLvAdduH (rd : Reg) (ra : Reg) (rb : Reg) (s : State) : Result :=
  issue (.lvAdduH rd ra rb) s fun s => s.vecOp (lanes2 16 (· + ·)) rd ra rb

/-- `lv.addus.b` (R696). -/
def execLvAddusB (rd : Reg) (ra : Reg) (rb : Reg) (s : State) : Result :=
  issue (.lvAddusB rd ra rb) s fun s => s.vecOp (lanes2 8 fun a b => satU 8 (a.toNat + b.toNat)) rd ra rb

/-- `lv.addus.h` (R697). -/
def execLvAddusH (rd : Reg) (ra : Reg) (rb : Reg) (s : State) : Result :=
  issue (.lvAddusH rd ra rb) s fun s => s.vecOp (lanes2 16 fun a b => satU 16 (a.toNat + b.toNat)) rd ra rb

/-- `lv.all_eq.b` (R700). -/
def execLvAllEqB (rd : Reg) (ra : Reg) (rb : Reg) (s : State) : Result :=
  issue (.lvAllEqB rd ra rb) s fun s => s.vecFlag (lanesAll s.cfg.lvOrderSigned .eq 8) rd ra rb

/-- `lv.all_eq.h` (R701). -/
def execLvAllEqH (rd : Reg) (ra : Reg) (rb : Reg) (s : State) : Result :=
  issue (.lvAllEqH rd ra rb) s fun s => s.vecFlag (lanesAll s.cfg.lvOrderSigned .eq 16) rd ra rb

/-- `lv.all_ge.b` (R702). -/
def execLvAllGeB (rd : Reg) (ra : Reg) (rb : Reg) (s : State) : Result :=
  issue (.lvAllGeB rd ra rb) s fun s => s.vecFlag (lanesAll s.cfg.lvOrderSigned .ge 8) rd ra rb

/-- `lv.all_ge.h` (R703). -/
def execLvAllGeH (rd : Reg) (ra : Reg) (rb : Reg) (s : State) : Result :=
  issue (.lvAllGeH rd ra rb) s fun s => s.vecFlag (lanesAll s.cfg.lvOrderSigned .ge 16) rd ra rb

/-- `lv.all_gt.b` (R704). -/
def execLvAllGtB (rd : Reg) (ra : Reg) (rb : Reg) (s : State) : Result :=
  issue (.lvAllGtB rd ra rb) s fun s => s.vecFlag (lanesAll s.cfg.lvOrderSigned .gt 8) rd ra rb

/-- `lv.all_gt.h` (R705). -/
def execLvAllGtH (rd : Reg) (ra : Reg) (rb : Reg) (s : State) : Result :=
  issue (.lvAllGtH rd ra rb) s fun s => s.vecFlag (lanesAll s.cfg.lvOrderSigned .gt 16) rd ra rb

/-- `lv.all_le.b` (R706). -/
def execLvAllLeB (rd : Reg) (ra : Reg) (rb : Reg) (s : State) : Result :=
  issue (.lvAllLeB rd ra rb) s fun s => s.vecFlag (lanesAll s.cfg.lvOrderSigned .le 8) rd ra rb

/-- `lv.all_le.h` (R707). -/
def execLvAllLeH (rd : Reg) (ra : Reg) (rb : Reg) (s : State) : Result :=
  issue (.lvAllLeH rd ra rb) s fun s => s.vecFlag (lanesAll s.cfg.lvOrderSigned .le 16) rd ra rb

/-- `lv.all_lt.b` (R708). -/
def execLvAllLtB (rd : Reg) (ra : Reg) (rb : Reg) (s : State) : Result :=
  issue (.lvAllLtB rd ra rb) s fun s => s.vecFlag (lanesAll s.cfg.lvOrderSigned .lt 8) rd ra rb

/-- `lv.all_lt.h` (R709). -/
def execLvAllLtH (rd : Reg) (ra : Reg) (rb : Reg) (s : State) : Result :=
  issue (.lvAllLtH rd ra rb) s fun s => s.vecFlag (lanesAll s.cfg.lvOrderSigned .lt 16) rd ra rb

/-- `lv.all_ne.b` (R710). -/
def execLvAllNeB (rd : Reg) (ra : Reg) (rb : Reg) (s : State) : Result :=
  issue (.lvAllNeB rd ra rb) s fun s => s.vecFlag (lanesAll s.cfg.lvOrderSigned .ne 8) rd ra rb

/-- `lv.all_ne.h` (R711). -/
def execLvAllNeH (rd : Reg) (ra : Reg) (rb : Reg) (s : State) : Result :=
  issue (.lvAllNeH rd ra rb) s fun s => s.vecFlag (lanesAll s.cfg.lvOrderSigned .ne 16) rd ra rb

/-- `lv.any_eq.b` (R712). -/
def execLvAnyEqB (rd : Reg) (ra : Reg) (rb : Reg) (s : State) : Result :=
  issue (.lvAnyEqB rd ra rb) s fun s => s.vecFlag (lanesAny s.cfg.lvOrderSigned .eq 8) rd ra rb

/-- `lv.any_eq.h` (R713). -/
def execLvAnyEqH (rd : Reg) (ra : Reg) (rb : Reg) (s : State) : Result :=
  issue (.lvAnyEqH rd ra rb) s fun s => s.vecFlag (lanesAny s.cfg.lvOrderSigned .eq 16) rd ra rb

/-- `lv.any_ge.b` (R714). -/
def execLvAnyGeB (rd : Reg) (ra : Reg) (rb : Reg) (s : State) : Result :=
  issue (.lvAnyGeB rd ra rb) s fun s => s.vecFlag (lanesAny s.cfg.lvOrderSigned .ge 8) rd ra rb

/-- `lv.any_ge.h` (R715). -/
def execLvAnyGeH (rd : Reg) (ra : Reg) (rb : Reg) (s : State) : Result :=
  issue (.lvAnyGeH rd ra rb) s fun s => s.vecFlag (lanesAny s.cfg.lvOrderSigned .ge 16) rd ra rb

/-- `lv.any_gt.b` (R716). -/
def execLvAnyGtB (rd : Reg) (ra : Reg) (rb : Reg) (s : State) : Result :=
  issue (.lvAnyGtB rd ra rb) s fun s => s.vecFlag (lanesAny s.cfg.lvOrderSigned .gt 8) rd ra rb

/-- `lv.any_gt.h` (R717). -/
def execLvAnyGtH (rd : Reg) (ra : Reg) (rb : Reg) (s : State) : Result :=
  issue (.lvAnyGtH rd ra rb) s fun s => s.vecFlag (lanesAny s.cfg.lvOrderSigned .gt 16) rd ra rb

/-- `lv.any_le.b` (R718). -/
def execLvAnyLeB (rd : Reg) (ra : Reg) (rb : Reg) (s : State) : Result :=
  issue (.lvAnyLeB rd ra rb) s fun s => s.vecFlag (lanesAny s.cfg.lvOrderSigned .le 8) rd ra rb

/-- `lv.any_le.h` (R719). -/
def execLvAnyLeH (rd : Reg) (ra : Reg) (rb : Reg) (s : State) : Result :=
  issue (.lvAnyLeH rd ra rb) s fun s => s.vecFlag (lanesAny s.cfg.lvOrderSigned .le 16) rd ra rb

/-- `lv.any_lt.b` (R720). -/
def execLvAnyLtB (rd : Reg) (ra : Reg) (rb : Reg) (s : State) : Result :=
  issue (.lvAnyLtB rd ra rb) s fun s => s.vecFlag (lanesAny s.cfg.lvOrderSigned .lt 8) rd ra rb

/-- `lv.any_lt.h` (R721). -/
def execLvAnyLtH (rd : Reg) (ra : Reg) (rb : Reg) (s : State) : Result :=
  issue (.lvAnyLtH rd ra rb) s fun s => s.vecFlag (lanesAny s.cfg.lvOrderSigned .lt 16) rd ra rb

/-- `lv.any_ne.b` (R722). -/
def execLvAnyNeB (rd : Reg) (ra : Reg) (rb : Reg) (s : State) : Result :=
  issue (.lvAnyNeB rd ra rb) s fun s => s.vecFlag (lanesAny s.cfg.lvOrderSigned .ne 8) rd ra rb

/-- `lv.any_ne.h` (R723). -/
def execLvAnyNeH (rd : Reg) (ra : Reg) (rb : Reg) (s : State) : Result :=
  issue (.lvAnyNeH rd ra rb) s fun s => s.vecFlag (lanesAny s.cfg.lvOrderSigned .ne 16) rd ra rb

/-- `lv.and` (R724). -/
def execLvAnd (rd : Reg) (ra : Reg) (rb : Reg) (s : State) : Result :=
  issue (.lvAnd rd ra rb) s fun s => s.vecOp ((· &&& ·)) rd ra rb

/-- `lv.avg.b` (R725). -/
def execLvAvgB (rd : Reg) (ra : Reg) (rb : Reg) (s : State) : Result :=
  issue (.lvAvgB rd ra rb) s fun s => s.vecOp (lanes2 8 (laneAvg s.cfg.lvOrderSigned)) rd ra rb

/-- `lv.avg.h` (R726). -/
def execLvAvgH (rd : Reg) (ra : Reg) (rb : Reg) (s : State) : Result :=
  issue (.lvAvgH rd ra rb) s fun s => s.vecOp (lanes2 16 (laneAvg s.cfg.lvOrderSigned)) rd ra rb

/-- `lv.cmp_eq.b` (R730). -/
def execLvCmpEqB (rd : Reg) (ra : Reg) (rb : Reg) (s : State) : Result :=
  issue (.lvCmpEqB rd ra rb) s fun s => s.vecOp (lanesCmp s.cfg.lvOrderSigned .eq 8) rd ra rb

/-- `lv.cmp_eq.h` (R731). -/
def execLvCmpEqH (rd : Reg) (ra : Reg) (rb : Reg) (s : State) : Result :=
  issue (.lvCmpEqH rd ra rb) s fun s => s.vecOp (lanesCmp s.cfg.lvOrderSigned .eq 16) rd ra rb

/-- `lv.cmp_ge.b` (R732). -/
def execLvCmpGeB (rd : Reg) (ra : Reg) (rb : Reg) (s : State) : Result :=
  issue (.lvCmpGeB rd ra rb) s fun s => s.vecOp (lanesCmp s.cfg.lvOrderSigned .ge 8) rd ra rb

/-- `lv.cmp_ge.h` (R733). -/
def execLvCmpGeH (rd : Reg) (ra : Reg) (rb : Reg) (s : State) : Result :=
  issue (.lvCmpGeH rd ra rb) s fun s => s.vecOp (lanesCmp s.cfg.lvOrderSigned .ge 16) rd ra rb

/-- `lv.cmp_gt.b` (R734). -/
def execLvCmpGtB (rd : Reg) (ra : Reg) (rb : Reg) (s : State) : Result :=
  issue (.lvCmpGtB rd ra rb) s fun s => s.vecOp (lanesCmp s.cfg.lvOrderSigned .gt 8) rd ra rb

/-- `lv.cmp_gt.h` (R735). -/
def execLvCmpGtH (rd : Reg) (ra : Reg) (rb : Reg) (s : State) : Result :=
  issue (.lvCmpGtH rd ra rb) s fun s => s.vecOp (lanesCmp s.cfg.lvOrderSigned .gt 16) rd ra rb

/-- `lv.cmp_le.b` (R736). -/
def execLvCmpLeB (rd : Reg) (ra : Reg) (rb : Reg) (s : State) : Result :=
  issue (.lvCmpLeB rd ra rb) s fun s => s.vecOp (lanesCmp s.cfg.lvOrderSigned .le 8) rd ra rb

/-- `lv.cmp_le.h` (R737). -/
def execLvCmpLeH (rd : Reg) (ra : Reg) (rb : Reg) (s : State) : Result :=
  issue (.lvCmpLeH rd ra rb) s fun s => s.vecOp (lanesCmp s.cfg.lvOrderSigned .le 16) rd ra rb

/-- `lv.cmp_lt.b` (R738). -/
def execLvCmpLtB (rd : Reg) (ra : Reg) (rb : Reg) (s : State) : Result :=
  issue (.lvCmpLtB rd ra rb) s fun s => s.vecOp (lanesCmp s.cfg.lvOrderSigned .lt 8) rd ra rb

/-- `lv.cmp_lt.h` (R739). -/
def execLvCmpLtH (rd : Reg) (ra : Reg) (rb : Reg) (s : State) : Result :=
  issue (.lvCmpLtH rd ra rb) s fun s => s.vecOp (lanesCmp s.cfg.lvOrderSigned .lt 16) rd ra rb

/-- `lv.cmp_ne.b` (R740). -/
def execLvCmpNeB (rd : Reg) (ra : Reg) (rb : Reg) (s : State) : Result :=
  issue (.lvCmpNeB rd ra rb) s fun s => s.vecOp (lanesCmp s.cfg.lvOrderSigned .ne 8) rd ra rb

/-- `lv.cmp_ne.h` (R741). -/
def execLvCmpNeH (rd : Reg) (ra : Reg) (rb : Reg) (s : State) : Result :=
  issue (.lvCmpNeH rd ra rb) s fun s => s.vecOp (lanesCmp s.cfg.lvOrderSigned .ne 16) rd ra rb

/-- `lv.madds.h` (R760): refused, its accumulator VMACLO/VMACHI is defined nowhere (R761, U17). -/
def execLvMaddsH (rd : Reg) (ra : Reg) (rb : Reg) (s : State) : Result :=
  issue (.lvMaddsH rd ra rb) s fun _ => .refused .vmacUndefined

/-- `lv.max.b` (R762). -/
def execLvMaxB (rd : Reg) (ra : Reg) (rb : Reg) (s : State) : Result :=
  issue (.lvMaxB rd ra rb) s fun s => s.vecOp (lanes2 8 (laneMax s.cfg.lvOrderSigned)) rd ra rb

/-- `lv.max.h` (R763). -/
def execLvMaxH (rd : Reg) (ra : Reg) (rb : Reg) (s : State) : Result :=
  issue (.lvMaxH rd ra rb) s fun s => s.vecOp (lanes2 16 (laneMax s.cfg.lvOrderSigned)) rd ra rb

/-- `lv.merge.b` (R764). -/
def execLvMergeB (rd : Reg) (ra : Reg) (rb : Reg) (s : State) : Result :=
  issue (.lvMergeB rd ra rb) s fun s => s.vecOp (lanesMerge 8) rd ra rb

/-- `lv.merge.h` (R765). -/
def execLvMergeH (rd : Reg) (ra : Reg) (rb : Reg) (s : State) : Result :=
  issue (.lvMergeH rd ra rb) s fun s => s.vecOp (lanesMerge 16) rd ra rb

/-- `lv.min.b` (R766). -/
def execLvMinB (rd : Reg) (ra : Reg) (rb : Reg) (s : State) : Result :=
  issue (.lvMinB rd ra rb) s fun s => s.vecOp (lanes2 8 (laneMin s.cfg.lvOrderSigned)) rd ra rb

/-- `lv.min.h` (R767). -/
def execLvMinH (rd : Reg) (ra : Reg) (rb : Reg) (s : State) : Result :=
  issue (.lvMinH rd ra rb) s fun s => s.vecOp (lanes2 16 (laneMin s.cfg.lvOrderSigned)) rd ra rb

/-- `lv.msubs.h` (R768): refused, its accumulator VMACLO/VMACHI is defined nowhere (R761, U17). -/
def execLvMsubsH (rd : Reg) (ra : Reg) (rb : Reg) (s : State) : Result :=
  issue (.lvMsubsH rd ra rb) s fun _ => .refused .vmacUndefined

/-- `lv.muls.h` (R769). -/
def execLvMulsH (rd : Reg) (ra : Reg) (rb : Reg) (s : State) : Result :=
  issue (.lvMulsH rd ra rb) s fun s => s.vecOp (lanes2 16 fun a b => satS 16 (a.toInt * b.toInt)) rd ra rb

/-- `lv.nand` (R770). -/
def execLvNand (rd : Reg) (ra : Reg) (rb : Reg) (s : State) : Result :=
  issue (.lvNand rd ra rb) s fun s => s.vecOp (fun a b => ~~~(a &&& b)) rd ra rb

/-- `lv.nor` (R771). -/
def execLvNor (rd : Reg) (ra : Reg) (rb : Reg) (s : State) : Result :=
  issue (.lvNor rd ra rb) s fun s => s.vecOp (fun a b => ~~~(a ||| b)) rd ra rb

/-- `lv.or` (R772). -/
def execLvOr (rd : Reg) (ra : Reg) (rb : Reg) (s : State) : Result :=
  issue (.lvOr rd ra rb) s fun s => s.vecOp ((· ||| ·)) rd ra rb

/-- `lv.pack.b` (R773). -/
def execLvPackB (rd : Reg) (ra : Reg) (rb : Reg) (s : State) : Result :=
  issue (.lvPackB rd ra rb) s fun s => s.vecOp (lanesPack 8 fun v => v.setWidth 4) rd ra rb

/-- `lv.pack.h` (R774). -/
def execLvPackH (rd : Reg) (ra : Reg) (rb : Reg) (s : State) : Result :=
  issue (.lvPackH rd ra rb) s fun s => s.vecOp (lanesPack 16 fun v => v.setWidth 8) rd ra rb

/-- `lv.packs.b` (R775). -/
def execLvPacksB (rd : Reg) (ra : Reg) (rb : Reg) (s : State) : Result :=
  issue (.lvPacksB rd ra rb) s fun s => s.vecOp (lanesPack 8 fun v => satS 4 v.toInt) rd ra rb

/-- `lv.packs.h` (R776). -/
def execLvPacksH (rd : Reg) (ra : Reg) (rb : Reg) (s : State) : Result :=
  issue (.lvPacksH rd ra rb) s fun s => s.vecOp (lanesPack 16 fun v => satS 8 v.toInt) rd ra rb

/-- `lv.packus.b` (R777). -/
def execLvPackusB (rd : Reg) (ra : Reg) (rb : Reg) (s : State) : Result :=
  issue (.lvPackusB rd ra rb) s fun s => s.vecOp (lanesPack 8 fun v => satU 4 v.toNat) rd ra rb

/-- `lv.packus.h` (R778). -/
def execLvPackusH (rd : Reg) (ra : Reg) (rb : Reg) (s : State) : Result :=
  issue (.lvPackusH rd ra rb) s fun s => s.vecOp (lanesPack 16 fun v => satU 8 v.toNat) rd ra rb

/-- `lv.perm.n` (R779). -/
def execLvPermN (rd : Reg) (ra : Reg) (rb : Reg) (s : State) : Result :=
  issue (.lvPermN rd ra rb) s fun s => s.vecOp (nibblePermute) rd ra rb

/-- `lv.rl.b` (R780). -/
def execLvRlB (rd : Reg) (ra : Reg) (rb : Reg) (s : State) : Result :=
  issue (.lvRlB rd ra rb) s fun s => s.vecOp (lanesShift 8 BitVec.rotateLeft) rd ra rb

/-- `lv.rl.h` (R781). -/
def execLvRlH (rd : Reg) (ra : Reg) (rb : Reg) (s : State) : Result :=
  issue (.lvRlH rd ra rb) s fun s => s.vecOp (lanesShift 16 BitVec.rotateLeft) rd ra rb

/-- `lv.sll.b` (R782). -/
def execLvSllB (rd : Reg) (ra : Reg) (rb : Reg) (s : State) : Result :=
  issue (.lvSllB rd ra rb) s fun s => s.vecOp (lanesShift 8 (· <<< ·)) rd ra rb

/-- `lv.sll.h` (R783). -/
def execLvSllH (rd : Reg) (ra : Reg) (rb : Reg) (s : State) : Result :=
  issue (.lvSllH rd ra rb) s fun s => s.vecOp (lanesShift 16 (· <<< ·)) rd ra rb

/-- `lv.sll` (R784). -/
def execLvSll (rd : Reg) (ra : Reg) (rb : Reg) (s : State) : Result :=
  issue (.lvSll rd ra rb) s fun s => s.vecOp (fun a b => a <<< (b.toNat % 8)) rd ra rb

/-- `lv.srl.b` (R785). -/
def execLvSrlB (rd : Reg) (ra : Reg) (rb : Reg) (s : State) : Result :=
  issue (.lvSrlB rd ra rb) s fun s => s.vecOp (lanesShift 8 (· >>> ·)) rd ra rb

/-- `lv.srl.h` (R786). -/
def execLvSrlH (rd : Reg) (ra : Reg) (rb : Reg) (s : State) : Result :=
  issue (.lvSrlH rd ra rb) s fun s => s.vecOp (lanesShift 16 (· >>> ·)) rd ra rb

/-- `lv.sra.b` (R787). -/
def execLvSraB (rd : Reg) (ra : Reg) (rb : Reg) (s : State) : Result :=
  issue (.lvSraB rd ra rb) s fun s => s.vecOp (lanesShift 8 BitVec.sshiftRight) rd ra rb

/-- `lv.sra.h` (R788). -/
def execLvSraH (rd : Reg) (ra : Reg) (rb : Reg) (s : State) : Result :=
  issue (.lvSraH rd ra rb) s fun s => s.vecOp (lanesShift 16 BitVec.sshiftRight) rd ra rb

/-- `lv.srl` (R789). -/
def execLvSrl (rd : Reg) (ra : Reg) (rb : Reg) (s : State) : Result :=
  issue (.lvSrl rd ra rb) s fun s => s.vecOp (fun a b => a >>> (b.toNat % 8)) rd ra rb

/-- `lv.sub.b` (R790). -/
def execLvSubB (rd : Reg) (ra : Reg) (rb : Reg) (s : State) : Result :=
  issue (.lvSubB rd ra rb) s fun s => s.vecOp (lanes2 8 (· - ·)) rd ra rb

/-- `lv.sub.h` (R791). -/
def execLvSubH (rd : Reg) (ra : Reg) (rb : Reg) (s : State) : Result :=
  issue (.lvSubH rd ra rb) s fun s => s.vecOp (lanes2 16 (· - ·)) rd ra rb

/-- `lv.subs.b` (R792). -/
def execLvSubsB (rd : Reg) (ra : Reg) (rb : Reg) (s : State) : Result :=
  issue (.lvSubsB rd ra rb) s fun s => s.vecOp (lanes2 8 fun a b => satS 8 (a.toInt - b.toInt)) rd ra rb

/-- `lv.subs.h` (R793). -/
def execLvSubsH (rd : Reg) (ra : Reg) (rb : Reg) (s : State) : Result :=
  issue (.lvSubsH rd ra rb) s fun s => s.vecOp (lanes2 16 fun a b => satS 16 (a.toInt - b.toInt)) rd ra rb

/-- `lv.subu.b` (R794). -/
def execLvSubuB (rd : Reg) (ra : Reg) (rb : Reg) (s : State) : Result :=
  issue (.lvSubuB rd ra rb) s fun s => s.vecOp (lanes2 8 (· - ·)) rd ra rb

/-- `lv.subu.h` (R795). -/
def execLvSubuH (rd : Reg) (ra : Reg) (rb : Reg) (s : State) : Result :=
  issue (.lvSubuH rd ra rb) s fun s => s.vecOp (lanes2 16 (· - ·)) rd ra rb

/-- `lv.subus.b` (R796). -/
def execLvSubusB (rd : Reg) (ra : Reg) (rb : Reg) (s : State) : Result :=
  issue (.lvSubusB rd ra rb) s fun s => s.vecOp (lanes2 8 fun a b => satU 8 (a.toNat - b.toNat : Int)) rd ra rb

/-- `lv.subus.h` (R797). -/
def execLvSubusH (rd : Reg) (ra : Reg) (rb : Reg) (s : State) : Result :=
  issue (.lvSubusH rd ra rb) s fun s => s.vecOp (lanes2 16 fun a b => satU 16 (a.toNat - b.toNat : Int)) rd ra rb

/-- `lv.unpack.b` (R798). -/
def execLvUnpackB (rd : Reg) (ra : Reg) (rb : Reg) (s : State) : Result :=
  issue (.lvUnpackB rd ra rb) s fun s => s.vecOp (fun a _ => lanesUnpack 8 a) rd ra rb

/-- `lv.unpack.h` (R799). -/
def execLvUnpackH (rd : Reg) (ra : Reg) (rb : Reg) (s : State) : Result :=
  issue (.lvUnpackH rd ra rb) s fun s => s.vecOp (fun a _ => lanesUnpack 16 a) rd ra rb

/-- `lv.xor` (R800). -/
def execLvXor (rd : Reg) (ra : Reg) (rb : Reg) (s : State) : Result :=
  issue (.lvXor rd ra rb) s fun s => s.vecOp ((· ^^^ ·)) rd ra rb

/-- `lv.cust1` (R801): custom space (92_eei_decisions.md D18). -/
def execLvCust1 (s : State) : Result :=
  issue .lvCust1 s fun s => s.raise .illegal s.pc

/-- `lv.cust2` (R802): custom space (92_eei_decisions.md D18). -/
def execLvCust2 (s : State) : Result :=
  issue .lvCust2 s fun s => s.raise .illegal s.pc

/-- `lv.cust3` (R803): custom space (92_eei_decisions.md D18). -/
def execLvCust3 (s : State) : Result :=
  issue .lvCust3 s fun s => s.raise .illegal s.pc

/-- `lv.cust4` (R804): custom space (92_eei_decisions.md D18). -/
def execLvCust4 (s : State) : Result :=
  issue .lvCust4 s fun s => s.raise .illegal s.pc

end Sys2Proof.Machine
end

