-- ==== Sys2Proof/Machine/Dispatch.lean ====
section
/-! DEFINITION. The dispatch: one arm for each instruction, each one call of its meaning. -/

namespace Sys2Proof.Machine

def exec (i : Instr) (s : State) : Host.Outcome State Fault Refusal :=
  match i with
  | .lAdd rd ra rb => Sys2Proof.Machine.execLAdd rd ra rb s
  | .lAddc rd ra rb => Sys2Proof.Machine.execLAddc rd ra rb s
  | .lAddi rd ra imm => Sys2Proof.Machine.execLAddi rd ra imm s
  | .lAddic rd ra imm => Sys2Proof.Machine.execLAddic rd ra imm s
  | .lSub rd ra rb => Sys2Proof.Machine.execLSub rd ra rb s
  | .lMul rd ra rb => Sys2Proof.Machine.execLMul rd ra rb s
  | .lMuli rd ra imm => Sys2Proof.Machine.execLMuli rd ra imm s
  | .lMulu rd ra rb => Sys2Proof.Machine.execLMulu rd ra rb s
  | .lDiv rd ra rb => Sys2Proof.Machine.execLDiv rd ra rb s
  | .lDivu rd ra rb => Sys2Proof.Machine.execLDivu rd ra rb s
  | .lMac ra rb => Sys2Proof.Machine.execLMac ra rb s
  | .lMaci ra imm => Sys2Proof.Machine.execLMaci ra imm s
  | .lMacu ra rb => Sys2Proof.Machine.execLMacu ra rb s
  | .lMsb ra rb => Sys2Proof.Machine.execLMsb ra rb s
  | .lMsbu ra rb => Sys2Proof.Machine.execLMsbu ra rb s
  | .lMacrc rd => Sys2Proof.Machine.execLMacrc rd s
  | .lMuld ra rb => Sys2Proof.Machine.execLMuld ra rb s
  | .lMuldu ra rb => Sys2Proof.Machine.execLMuldu ra rb s
  | .lCmov rd ra rb => Sys2Proof.Machine.execLCmov rd ra rb s
  | .lFf1 rd ra => Sys2Proof.Machine.execLFf1 rd ra s
  | .lFl1 rd ra => Sys2Proof.Machine.execLFl1 rd ra s
  | .lAnd rd ra rb => Sys2Proof.Machine.execLAnd rd ra rb s
  | .lAndi rd ra k => Sys2Proof.Machine.execLAndi rd ra k s
  | .lOr rd ra rb => Sys2Proof.Machine.execLOr rd ra rb s
  | .lOri rd ra k => Sys2Proof.Machine.execLOri rd ra k s
  | .lXor rd ra rb => Sys2Proof.Machine.execLXor rd ra rb s
  | .lXori rd ra imm => Sys2Proof.Machine.execLXori rd ra imm s
  | .lSll rd ra rb => Sys2Proof.Machine.execLSll rd ra rb s
  | .lSlli rd ra l => Sys2Proof.Machine.execLSlli rd ra l s
  | .lSrl rd ra rb => Sys2Proof.Machine.execLSrl rd ra rb s
  | .lSrli rd ra l => Sys2Proof.Machine.execLSrli rd ra l s
  | .lSra rd ra rb => Sys2Proof.Machine.execLSra rd ra rb s
  | .lSrai rd ra l => Sys2Proof.Machine.execLSrai rd ra l s
  | .lRor rd ra rb => Sys2Proof.Machine.execLRor rd ra rb s
  | .lRori rd ra l => Sys2Proof.Machine.execLRori rd ra l s
  | .lExtbs rd ra => Sys2Proof.Machine.execLExtbs rd ra s
  | .lExtbz rd ra => Sys2Proof.Machine.execLExtbz rd ra s
  | .lExths rd ra => Sys2Proof.Machine.execLExths rd ra s
  | .lExthz rd ra => Sys2Proof.Machine.execLExthz rd ra s
  | .lExtws rd ra => Sys2Proof.Machine.execLExtws rd ra s
  | .lExtwz rd ra => Sys2Proof.Machine.execLExtwz rd ra s
  | .lMovhi rd k => Sys2Proof.Machine.execLMovhi rd k s
  | .lSfeq ra rb => Sys2Proof.Machine.execLSfeq ra rb s
  | .lSfne ra rb => Sys2Proof.Machine.execLSfne ra rb s
  | .lSfgtu ra rb => Sys2Proof.Machine.execLSfgtu ra rb s
  | .lSfgeu ra rb => Sys2Proof.Machine.execLSfgeu ra rb s
  | .lSfltu ra rb => Sys2Proof.Machine.execLSfltu ra rb s
  | .lSfleu ra rb => Sys2Proof.Machine.execLSfleu ra rb s
  | .lSfgts ra rb => Sys2Proof.Machine.execLSfgts ra rb s
  | .lSfges ra rb => Sys2Proof.Machine.execLSfges ra rb s
  | .lSflts ra rb => Sys2Proof.Machine.execLSflts ra rb s
  | .lSfles ra rb => Sys2Proof.Machine.execLSfles ra rb s
  | .lSfeqi ra imm => Sys2Proof.Machine.execLSfeqi ra imm s
  | .lSfnei ra imm => Sys2Proof.Machine.execLSfnei ra imm s
  | .lSfgtui ra imm => Sys2Proof.Machine.execLSfgtui ra imm s
  | .lSfgeui ra imm => Sys2Proof.Machine.execLSfgeui ra imm s
  | .lSfltui ra imm => Sys2Proof.Machine.execLSfltui ra imm s
  | .lSfleui ra imm => Sys2Proof.Machine.execLSfleui ra imm s
  | .lSfgtsi ra imm => Sys2Proof.Machine.execLSfgtsi ra imm s
  | .lSfgesi ra imm => Sys2Proof.Machine.execLSfgesi ra imm s
  | .lSfltsi ra imm => Sys2Proof.Machine.execLSfltsi ra imm s
  | .lSflesi ra imm => Sys2Proof.Machine.execLSflesi ra imm s
  | .lLbz rd ra imm => Sys2Proof.Machine.execLLbz rd ra imm s
  | .lLbs rd ra imm => Sys2Proof.Machine.execLLbs rd ra imm s
  | .lLhz rd ra imm => Sys2Proof.Machine.execLLhz rd ra imm s
  | .lLhs rd ra imm => Sys2Proof.Machine.execLLhs rd ra imm s
  | .lLwz rd ra imm => Sys2Proof.Machine.execLLwz rd ra imm s
  | .lLws rd ra imm => Sys2Proof.Machine.execLLws rd ra imm s
  | .lLd rd ra imm => Sys2Proof.Machine.execLLd rd ra imm s
  | .lLwa rd ra imm => Sys2Proof.Machine.execLLwa rd ra imm s
  | .lSb ra rb imm => Sys2Proof.Machine.execLSb ra rb imm s
  | .lSh ra rb imm => Sys2Proof.Machine.execLSh ra rb imm s
  | .lSw ra rb imm => Sys2Proof.Machine.execLSw ra rb imm s
  | .lSd ra rb imm => Sys2Proof.Machine.execLSd ra rb imm s
  | .lSwa ra rb imm => Sys2Proof.Machine.execLSwa ra rb imm s
  | .lJ n => Sys2Proof.Machine.execLJ n s
  | .lJal n => Sys2Proof.Machine.execLJal n s
  | .lJr rb => Sys2Proof.Machine.execLJr rb s
  | .lJalr rb => Sys2Proof.Machine.execLJalr rb s
  | .lBf n => Sys2Proof.Machine.execLBf n s
  | .lBnf n => Sys2Proof.Machine.execLBnf n s
  | .lNop k => Sys2Proof.Machine.execLNop k s
  | .lSys k => Sys2Proof.Machine.execLSys k s
  | .lTrap k => Sys2Proof.Machine.execLTrap k s
  | .lRfe => Sys2Proof.Machine.execLRfe s
  | .lMtspr ra rb k => Sys2Proof.Machine.execLMtspr ra rb k s
  | .lMfspr rd ra k => Sys2Proof.Machine.execLMfspr rd ra k s
  | .lMsync => Sys2Proof.Machine.execLMsync s
  | .lCsync => Sys2Proof.Machine.execLCsync s
  | .lPsync => Sys2Proof.Machine.execLPsync s
  | .lfAddS rd ra rb => Sys2Proof.Machine.execLfAddS rd ra rb s
  | .lfSubS rd ra rb => Sys2Proof.Machine.execLfSubS rd ra rb s
  | .lfMulS rd ra rb => Sys2Proof.Machine.execLfMulS rd ra rb s
  | .lfDivS rd ra rb => Sys2Proof.Machine.execLfDivS rd ra rb s
  | .lfRemS rd ra rb => Sys2Proof.Machine.execLfRemS rd ra rb s
  | .lfMaddS rd ra rb => Sys2Proof.Machine.execLfMaddS rd ra rb s
  | .lfItofS rd ra => Sys2Proof.Machine.execLfItofS rd ra s
  | .lfFtoiS rd ra => Sys2Proof.Machine.execLfFtoiS rd ra s
  | .lfSfeqS ra rb => Sys2Proof.Machine.execLfSfeqS ra rb s
  | .lfSfneS ra rb => Sys2Proof.Machine.execLfSfneS ra rb s
  | .lfSfgtS ra rb => Sys2Proof.Machine.execLfSfgtS ra rb s
  | .lfSfgeS ra rb => Sys2Proof.Machine.execLfSfgeS ra rb s
  | .lfSfltS ra rb => Sys2Proof.Machine.execLfSfltS ra rb s
  | .lfSfleS ra rb => Sys2Proof.Machine.execLfSfleS ra rb s
  | .lfCust1S ra rb => Sys2Proof.Machine.execLfCust1S ra rb s
  | .lfAddD rd ra rb => Sys2Proof.Machine.execLfAddD rd ra rb s
  | .lfSubD rd ra rb => Sys2Proof.Machine.execLfSubD rd ra rb s
  | .lfMulD rd ra rb => Sys2Proof.Machine.execLfMulD rd ra rb s
  | .lfDivD rd ra rb => Sys2Proof.Machine.execLfDivD rd ra rb s
  | .lfRemD rd ra rb => Sys2Proof.Machine.execLfRemD rd ra rb s
  | .lfMaddD rd ra rb => Sys2Proof.Machine.execLfMaddD rd ra rb s
  | .lfItofD rd ra => Sys2Proof.Machine.execLfItofD rd ra s
  | .lfFtoiD rd ra => Sys2Proof.Machine.execLfFtoiD rd ra s
  | .lfSfeqD ra rb => Sys2Proof.Machine.execLfSfeqD ra rb s
  | .lfSfneD ra rb => Sys2Proof.Machine.execLfSfneD ra rb s
  | .lfSfgtD ra rb => Sys2Proof.Machine.execLfSfgtD ra rb s
  | .lfSfgeD ra rb => Sys2Proof.Machine.execLfSfgeD ra rb s
  | .lfSfltD ra rb => Sys2Proof.Machine.execLfSfltD ra rb s
  | .lfSfleD ra rb => Sys2Proof.Machine.execLfSfleD ra rb s
  | .lfCust1D ra rb => Sys2Proof.Machine.execLfCust1D ra rb s
  | .lvAddB rd ra rb => Sys2Proof.Machine.execLvAddB rd ra rb s
  | .lvAddH rd ra rb => Sys2Proof.Machine.execLvAddH rd ra rb s
  | .lvAddsB rd ra rb => Sys2Proof.Machine.execLvAddsB rd ra rb s
  | .lvAddsH rd ra rb => Sys2Proof.Machine.execLvAddsH rd ra rb s
  | .lvAdduB rd ra rb => Sys2Proof.Machine.execLvAdduB rd ra rb s
  | .lvAdduH rd ra rb => Sys2Proof.Machine.execLvAdduH rd ra rb s
  | .lvAddusB rd ra rb => Sys2Proof.Machine.execLvAddusB rd ra rb s
  | .lvAddusH rd ra rb => Sys2Proof.Machine.execLvAddusH rd ra rb s
  | .lvAllEqB rd ra rb => Sys2Proof.Machine.execLvAllEqB rd ra rb s
  | .lvAllEqH rd ra rb => Sys2Proof.Machine.execLvAllEqH rd ra rb s
  | .lvAllGeB rd ra rb => Sys2Proof.Machine.execLvAllGeB rd ra rb s
  | .lvAllGeH rd ra rb => Sys2Proof.Machine.execLvAllGeH rd ra rb s
  | .lvAllGtB rd ra rb => Sys2Proof.Machine.execLvAllGtB rd ra rb s
  | .lvAllGtH rd ra rb => Sys2Proof.Machine.execLvAllGtH rd ra rb s
  | .lvAllLeB rd ra rb => Sys2Proof.Machine.execLvAllLeB rd ra rb s
  | .lvAllLeH rd ra rb => Sys2Proof.Machine.execLvAllLeH rd ra rb s
  | .lvAllLtB rd ra rb => Sys2Proof.Machine.execLvAllLtB rd ra rb s
  | .lvAllLtH rd ra rb => Sys2Proof.Machine.execLvAllLtH rd ra rb s
  | .lvAllNeB rd ra rb => Sys2Proof.Machine.execLvAllNeB rd ra rb s
  | .lvAllNeH rd ra rb => Sys2Proof.Machine.execLvAllNeH rd ra rb s
  | .lvAnyEqB rd ra rb => Sys2Proof.Machine.execLvAnyEqB rd ra rb s
  | .lvAnyEqH rd ra rb => Sys2Proof.Machine.execLvAnyEqH rd ra rb s
  | .lvAnyGeB rd ra rb => Sys2Proof.Machine.execLvAnyGeB rd ra rb s
  | .lvAnyGeH rd ra rb => Sys2Proof.Machine.execLvAnyGeH rd ra rb s
  | .lvAnyGtB rd ra rb => Sys2Proof.Machine.execLvAnyGtB rd ra rb s
  | .lvAnyGtH rd ra rb => Sys2Proof.Machine.execLvAnyGtH rd ra rb s
  | .lvAnyLeB rd ra rb => Sys2Proof.Machine.execLvAnyLeB rd ra rb s
  | .lvAnyLeH rd ra rb => Sys2Proof.Machine.execLvAnyLeH rd ra rb s
  | .lvAnyLtB rd ra rb => Sys2Proof.Machine.execLvAnyLtB rd ra rb s
  | .lvAnyLtH rd ra rb => Sys2Proof.Machine.execLvAnyLtH rd ra rb s
  | .lvAnyNeB rd ra rb => Sys2Proof.Machine.execLvAnyNeB rd ra rb s
  | .lvAnyNeH rd ra rb => Sys2Proof.Machine.execLvAnyNeH rd ra rb s
  | .lvAnd rd ra rb => Sys2Proof.Machine.execLvAnd rd ra rb s
  | .lvAvgB rd ra rb => Sys2Proof.Machine.execLvAvgB rd ra rb s
  | .lvAvgH rd ra rb => Sys2Proof.Machine.execLvAvgH rd ra rb s
  | .lvCmpEqB rd ra rb => Sys2Proof.Machine.execLvCmpEqB rd ra rb s
  | .lvCmpEqH rd ra rb => Sys2Proof.Machine.execLvCmpEqH rd ra rb s
  | .lvCmpGeB rd ra rb => Sys2Proof.Machine.execLvCmpGeB rd ra rb s
  | .lvCmpGeH rd ra rb => Sys2Proof.Machine.execLvCmpGeH rd ra rb s
  | .lvCmpGtB rd ra rb => Sys2Proof.Machine.execLvCmpGtB rd ra rb s
  | .lvCmpGtH rd ra rb => Sys2Proof.Machine.execLvCmpGtH rd ra rb s
  | .lvCmpLeB rd ra rb => Sys2Proof.Machine.execLvCmpLeB rd ra rb s
  | .lvCmpLeH rd ra rb => Sys2Proof.Machine.execLvCmpLeH rd ra rb s
  | .lvCmpLtB rd ra rb => Sys2Proof.Machine.execLvCmpLtB rd ra rb s
  | .lvCmpLtH rd ra rb => Sys2Proof.Machine.execLvCmpLtH rd ra rb s
  | .lvCmpNeB rd ra rb => Sys2Proof.Machine.execLvCmpNeB rd ra rb s
  | .lvCmpNeH rd ra rb => Sys2Proof.Machine.execLvCmpNeH rd ra rb s
  | .lvMaddsH rd ra rb => Sys2Proof.Machine.execLvMaddsH rd ra rb s
  | .lvMaxB rd ra rb => Sys2Proof.Machine.execLvMaxB rd ra rb s
  | .lvMaxH rd ra rb => Sys2Proof.Machine.execLvMaxH rd ra rb s
  | .lvMergeB rd ra rb => Sys2Proof.Machine.execLvMergeB rd ra rb s
  | .lvMergeH rd ra rb => Sys2Proof.Machine.execLvMergeH rd ra rb s
  | .lvMinB rd ra rb => Sys2Proof.Machine.execLvMinB rd ra rb s
  | .lvMinH rd ra rb => Sys2Proof.Machine.execLvMinH rd ra rb s
  | .lvMsubsH rd ra rb => Sys2Proof.Machine.execLvMsubsH rd ra rb s
  | .lvMulsH rd ra rb => Sys2Proof.Machine.execLvMulsH rd ra rb s
  | .lvNand rd ra rb => Sys2Proof.Machine.execLvNand rd ra rb s
  | .lvNor rd ra rb => Sys2Proof.Machine.execLvNor rd ra rb s
  | .lvOr rd ra rb => Sys2Proof.Machine.execLvOr rd ra rb s
  | .lvPackB rd ra rb => Sys2Proof.Machine.execLvPackB rd ra rb s
  | .lvPackH rd ra rb => Sys2Proof.Machine.execLvPackH rd ra rb s
  | .lvPacksB rd ra rb => Sys2Proof.Machine.execLvPacksB rd ra rb s
  | .lvPacksH rd ra rb => Sys2Proof.Machine.execLvPacksH rd ra rb s
  | .lvPackusB rd ra rb => Sys2Proof.Machine.execLvPackusB rd ra rb s
  | .lvPackusH rd ra rb => Sys2Proof.Machine.execLvPackusH rd ra rb s
  | .lvPermN rd ra rb => Sys2Proof.Machine.execLvPermN rd ra rb s
  | .lvRlB rd ra rb => Sys2Proof.Machine.execLvRlB rd ra rb s
  | .lvRlH rd ra rb => Sys2Proof.Machine.execLvRlH rd ra rb s
  | .lvSllB rd ra rb => Sys2Proof.Machine.execLvSllB rd ra rb s
  | .lvSllH rd ra rb => Sys2Proof.Machine.execLvSllH rd ra rb s
  | .lvSll rd ra rb => Sys2Proof.Machine.execLvSll rd ra rb s
  | .lvSrlB rd ra rb => Sys2Proof.Machine.execLvSrlB rd ra rb s
  | .lvSrlH rd ra rb => Sys2Proof.Machine.execLvSrlH rd ra rb s
  | .lvSraB rd ra rb => Sys2Proof.Machine.execLvSraB rd ra rb s
  | .lvSraH rd ra rb => Sys2Proof.Machine.execLvSraH rd ra rb s
  | .lvSrl rd ra rb => Sys2Proof.Machine.execLvSrl rd ra rb s
  | .lvSubB rd ra rb => Sys2Proof.Machine.execLvSubB rd ra rb s
  | .lvSubH rd ra rb => Sys2Proof.Machine.execLvSubH rd ra rb s
  | .lvSubsB rd ra rb => Sys2Proof.Machine.execLvSubsB rd ra rb s
  | .lvSubsH rd ra rb => Sys2Proof.Machine.execLvSubsH rd ra rb s
  | .lvSubuB rd ra rb => Sys2Proof.Machine.execLvSubuB rd ra rb s
  | .lvSubuH rd ra rb => Sys2Proof.Machine.execLvSubuH rd ra rb s
  | .lvSubusB rd ra rb => Sys2Proof.Machine.execLvSubusB rd ra rb s
  | .lvSubusH rd ra rb => Sys2Proof.Machine.execLvSubusH rd ra rb s
  | .lvUnpackB rd ra rb => Sys2Proof.Machine.execLvUnpackB rd ra rb s
  | .lvUnpackH rd ra rb => Sys2Proof.Machine.execLvUnpackH rd ra rb s
  | .lvXor rd ra rb => Sys2Proof.Machine.execLvXor rd ra rb s
  | .lvCust1 => Sys2Proof.Machine.execLvCust1 s
  | .lvCust2 => Sys2Proof.Machine.execLvCust2 s
  | .lvCust3 => Sys2Proof.Machine.execLvCust3 s
  | .lvCust4 => Sys2Proof.Machine.execLvCust4 s
  | .lCust1 => Sys2Proof.Machine.execLCust1 s
  | .lCust2 => Sys2Proof.Machine.execLCust2 s
  | .lCust3 => Sys2Proof.Machine.execLCust3 s
  | .lCust4 => Sys2Proof.Machine.execLCust4 s
  | .lCust5 rd ra rb l k => Sys2Proof.Machine.execLCust5 rd ra rb l k s
  | .lCust6 => Sys2Proof.Machine.execLCust6 s
  | .lCust7 => Sys2Proof.Machine.execLCust7 s
  | .lCust8 => Sys2Proof.Machine.execLCust8 s

end Sys2Proof.Machine
end

