-- ==== Sys2Proof/Machine/Watch.lean ====
section
/-! DEFINITION. The debug unit's watchpoints and the counters DWCR0 and DWCR1 (61_platform_units.md R986-R994): what an instruction
offers to the comparators, which watchpoints it fires, and what the counters add. A watchpoint that would cause a breakpoint is
refused before (U19). What the sources leave open here is decided by the bits of one free value (entry 21). -/

namespace Sys2Proof.Machine

/-! ## What an instruction offers to the comparators (R986, R991) -/

/-- A load or store: its effective address, its size in bytes, and its data, none where the access cannot be made. -/
structure DataSeen where
  store : Bool
  ea : Word
  size : Nat
  data : Option Nat
  deriving DecidableEq, Repr

/-- One instruction: the address it is fetched from, and its load or store if it is one. -/
structure Seen where
  fetchEa : Word
  access : Option DataSeen
  deriving DecidableEq, Repr

/-- A load of `n` bytes. -/
def State.loadSeen (s : State) (ra : Reg) (i : BitVec 16) (n : Nat) : DataSeen :=
  { store := false, ea := s.effAddr ra i, size := n
    data := match s.memRead (s.effAddr ra i) n with
      | .ok r => some r.1
      | _ => none }

/-- A store of the low `n` bytes of `rb`. -/
def State.storeSeen (s : State) (ra rb : Reg) (i : BitVec 16) (n : Nat) : DataSeen :=
  { store := true, ea := s.effAddr ra i, size := n, data := some ((s.gpr rb).toNat % 2 ^ (8 * n)) }

/-- The load or store that an instruction is; a conditional store counts as one whether it stores or not (entry 21). -/
def State.accessSeen (s : State) : Instr → Option DataSeen
  | .lLbz _ ra i => some (s.loadSeen ra i 1)
  | .lLbs _ ra i => some (s.loadSeen ra i 1)
  | .lLhz _ ra i => some (s.loadSeen ra i 2)
  | .lLhs _ ra i => some (s.loadSeen ra i 2)
  | .lLwz _ ra i => some (s.loadSeen ra i 4)
  | .lLws _ ra i => some (s.loadSeen ra i 4)
  | .lLwa _ ra i => some (s.loadSeen ra i 4)
  | .lLd _ ra i => some (s.loadSeen ra i 8)
  | .lSb ra rb i => some (s.storeSeen ra rb i 1)
  | .lSh ra rb i => some (s.storeSeen ra rb i 2)
  | .lSw ra rb i => some (s.storeSeen ra rb i 4)
  | .lSwa ra rb i => some (s.storeSeen ra rb i 4)
  | .lSd ra rb i => some (s.storeSeen ra rb i 8)
  | _ => none

/-- What the instruction at `pc` offers; a word that decodes to none offers its fetch address alone. -/
def State.seen (s : State) (i : Option Instr) : Seen := { fetchEa := s.pc, access := i.bind s.accessSeen }

/-! ## Comparison (R991) -/

/-- The quantity that DCR[CT] selects, with its width in bits; none where the comparison is disabled or the instruction offers no
such quantity. -/
def Seen.quantity (o : Seen) (x : Xlen) (ct : BitVec 3) : Option (Nat × Nat) :=
  let eaIf := fun (p : DataSeen → Bool) => (o.access.filter p).map fun d => (x.bits, d.ea.toNat)
  let dataIf := fun (p : DataSeen → Bool) => (o.access.filter p).bind fun d => d.data.map fun v => (8 * d.size, v)
  match ct.toNat with
  | 1 => some (x.bits, o.fetchEa.toNat)
  | 2 => eaIf fun d => !d.store
  | 3 => eaIf fun d => d.store
  | 4 => dataIf fun d => !d.store
  | 5 => dataIf fun d => d.store
  | 6 => eaIf fun _ => true
  | 7 => dataIf fun _ => true
  | _ => none

/-- `quantity CC DVR` (R987) on the integers that both stand for, as DCR[SC] says; "Masked" and the reserved code never match
(R991). -/
def compareDvr (signed : Bool) (cc : BitVec 3) (width quantity : Nat) (dvr : Word32) : Bool :=
  let a : Int := if signed then (BitVec.ofNat width quantity).toInt else quantity
  let b : Int := if signed then dvr.toInt else dvr.toNat
  match cc.toNat with
  | 1 => decide (a = b)
  | 2 => decide (a < b)
  | 3 => decide (a ≤ b)
  | 4 => decide (a > b)
  | 5 => decide (a ≥ b)
  | 6 => decide (a ≠ b)
  | _ => false

/-- `Match_n`: the comparison of an implemented pair (R986, R991). -/
def State.dvrMatch (s : State) (o : Seen) (n : BitVec 3) : Bool :=
  let dcr := s.dcr.at n
  decide (n.toNat ≤ s.cfg.ndp.toNat) &&
    match o.quantity s.cfg.xlen (dcr.extractLsb' 5 3) with
    | none => false
    | some q => compareDvr (dcr.getLsbD 4) (dcr.extractLsb' 1 3) q.1 q.2 (s.dvr.at n)

/-! ## Watchpoints (R986, R992) -/

/-- How DMR1[CWn] combines a match with another watchpoint; the reserved code is open. -/
def combineMatch (cw : BitVec 2) (hit other free : Bool) : Bool :=
  if cw = 0 then hit else if cw = 1 then hit && other else if cw = 2 then hit || other else free

/-- DMR1[CWn]. -/
def State.cw (s : State) (n : Nat) : BitVec 2 := s.dmr1.extractLsb' (2 * n) 2

/-- Watchpoints 0 to 7, with the free value `f`: watchpoints 0 and 4 combine with the external watchpoint input, which nothing
describes (R987), the others with the one before. The watchpoint of a pair that is not implemented has no match of its own, but
DMR1[CWn] still combines it with the one before; R986 speaks of implemented pairs only (DESIGN CHOICE, entry 21). -/
def State.matchPoint (s : State) (o : Seen) (f : Word) : Nat → Bool
  | 0 => combineMatch (s.cw 0) (s.dvrMatch o 0) (f.getLsbD 2) (f.getLsbD 16)
  | n + 1 =>
    combineMatch (s.cw (n + 1)) (s.dvrMatch o (BitVec.ofNat 3 (n + 1)))
      (if n + 1 = 4 then f.getLsbD 2 else s.matchPoint o f n) (f.getLsbD (17 + n))

/-- The counter that DMR2[AWTC] assigns watchpoint `n` to (R993). -/
def State.counterOf (s : State) (n : Nat) : BitVec 1 := BitVec.ofBool (s.dmr2.getLsbD (2 + n))

/-- DMR2[WCEj] (R993). -/
def State.counterOn (s : State) (j : BitVec 1) : Bool := s.dmr2.getLsbD j.toNat

/-- How many of the watchpoints that fire are assigned to counter `j`. -/
def State.tally (s : State) (fires : Nat → Bool) (j : BitVec 1) : Nat :=
  ((List.range 10).filter fun k => fires k && s.counterOf k == j).length

/-- "Watchpoint counter j match" where `added` firing watchpoints are assigned to the counter: COUNT reaches MATCH, if the counter
is enabled (R994). Where COUNT equals MATCH already, the parameter `counterLevel` says whether that matches still (R987, entry 21). -/
def State.counterMatch (s : State) (j : BitVec 1) (added : Nat) : Bool :=
  let w := s.dwcr.at j
  let gap := (w.extractLsb' 16 16 - w.extractLsb' 0 16).toNat
  if gap = 0 then s.cfg.counterLevel else s.counterOn j && decide (gap ≤ added)

/-- The firing watchpoints `fires` with watchpoint 8 + `j`, counter `j`'s, decided from what they add to the counter (R992); it
combines with watchpoint 3 or 7. -/
def State.withCounter (s : State) (f : Word) (j : BitVec 1) (fires : Nat → Bool) (n : Nat) : Bool :=
  if n = 8 + j.toNat then
    combineMatch (s.cw n) (s.counterMatch j (s.tally fires j)) (fires (4 * j.toNat + 3)) (f.getLsbD (16 + n))
  else fires n

/-- Watchpoints 0 to 9. The last two may count each other: watchpoint 9 is decided with what 8 adds, and 8 again with what 9
adds. -/
def State.watchpoint (s : State) (o : Seen) (f : Word) : Nat → Bool :=
  s.withCounter f 0 (s.withCounter f 1 (s.withCounter f 0 fun n => decide (n < 8) && s.matchPoint o f n))

/-! ## Counting (R994) -/

/-- DWCRj after an instruction: an enabled counter adds 1 for each firing watchpoint assigned to it. -/
def State.countedDwcr (s : State) (o : Seen) (f : Word) (j : BitVec 1) : Word32 :=
  let w := s.dwcr.at j
  if s.counterOn j then
    w.extractLsb' 16 16 ++ (w.extractLsb' 0 16 + BitVec.ofNat 16 (s.tally (s.watchpoint o f) j))
  else w

/-- Both counters after an instruction. -/
def State.countWatchpoints (s : State) (o : Seen) (f : Word) : State :=
  { s with dwcr := (s.dwcr.put 0 (s.countedDwcr o f 0)).put 1 (s.countedDwcr o f 1) }

/-- A watchpoint counter is present and enabled. -/
def State.watching (s : State) : Bool := s.cfg.dup && s.cfg.wpci && (s.counterOn 0 || s.counterOn 1)

/-- Counting before the instruction takes effect, and whether that was done: the sources do not say whether watchpoints are
evaluated before or after it (R987). -/
def State.watchBefore (s : State) (o : Seen) : State × Bool :=
  if s.watching then
    if s.draw.1.getLsbD 0 then (s.draw.2.countWatchpoints o s.draw.1, true) else (s.draw.2, false)
  else (s, false)

/-- Counting after the instruction has taken effect; where it is not `sure` that the instruction counts, it may. -/
def State.watchAfter (t : State) (o : Seen) (sure : Bool) : State :=
  if t.watching then
    if sure || t.draw.1.getLsbD 1 then t.draw.2.countWatchpoints o t.draw.1 else t.draw.2
  else t

/-- The instructions that raise an exception after they have written their results: Range of the arithmetic instructions
(40_orbis_arith.md R352) and Floating Point (45_orfpx.md R604). -/
def Instr.trapsAfterEffect : Instr → Bool
  | .lAdd .. => true
  | .lAddc .. => true
  | .lAddi .. => true
  | .lAddic .. => true
  | .lSub .. => true
  | .lMul .. => true
  | .lMuli .. => true
  | .lMulu .. => true
  | .lMuld .. => true
  | .lMuldu .. => true
  | .lDiv .. => true
  | .lDivu .. => true
  | .lMac .. => true
  | .lMaci .. => true
  | .lMacu .. => true
  | .lMsb .. => true
  | .lMsbu .. => true
  | .lfAddS .. => true
  | .lfSubS .. => true
  | .lfMulS .. => true
  | .lfDivS .. => true
  | .lfRemS .. => true
  | .lfItofS .. => true
  | .lfFtoiS .. => true
  | .lfAddD .. => true
  | .lfSubD .. => true
  | .lfMulD .. => true
  | .lfDivD .. => true
  | .lfRemD .. => true
  | .lfItofD .. => true
  | .lfFtoiD .. => true
  | _ => false

/-- Issued instruction `i`, which leaves `t`, has its effect in `s` although it enters an exception or returns from one: `l.rfe`; `l.sys`
and `l.trap`, whose effect the exception is; and those that trap after they have written their results. -/
def State.endsInEntry (s : State) (i : Instr) (t : State) : Bool :=
  match i with
  | .lRfe => s.sm
  | .lSys _ => !t.debugStopped
  | .lTrap _ => !t.debugStopped
  | i => Instr.trapsAfterEffect i

/-- Instruction `i`, which leaves `t`, has had its effect in `s`: it has completed, or it ends in an entry or a return and had its effect
all the same. -/
def State.hadEffect (s : State) (i : Option Instr) (t : State) : Bool :=
  (t.hist != .entered && !t.debugStopped) ||
  match i with
  | none => false
  | some i => present s.cfg i && !(Instr.regsNow i).any s.regMissing && s.endsInEntry i t

/-- Running an instruction while its watchpoints are counted. Watchpoints fire at each instruction (R986): one that has its effect, with the
counters enabled before and after it, counts once, before or after its effect. Whether one counts that an exception has kept from its
effect, or that enables a counter, is open (R987, entry 21). -/
def State.watched (s : State) (i : Option Instr) (run : State → Result) : Result :=
  match run (s.watchBefore (s.seen i)).1 with
  | .next t =>
    .next (if (s.watchBefore (s.seen i)).2 then t else t.watchAfter (s.seen i) (s.watching && s.hadEffect i t))
  | .fault e => .fault e
  | .refused r => .refused r

end Sys2Proof.Machine
end

