-- ==== Sys2Proof/Machine/Cycle.lean ====
section
/-! DEFINITION. One step of the machine: the environment acts, an interrupt is recognised, or one instruction is fetched,
decoded and executed (44_orbis_control_system.md R551, 60_exceptions.md R871). -/

namespace Sys2Proof.Machine

/-- Executing a fetched word: a word that matches no row raises Illegal Instruction (30_encoding.md R331). -/
def executeWord (w : Word32) (s : State) : Result :=
  match decodeWord w with
  | some i => exec i s
  | none => s.raise .illegal s.pc

/-- Fetching the instruction at `pc` and executing it (R551, 20_memory.md R212), while the debug unit counts the watchpoints it fires
(61_platform_units.md R986). -/
def fetchAndExecute (s : State) : Result :=
  s.fetch.run s (fun f => f.2.watched (decodeWord f.1) (executeWord f.1))

/-- The core's part of a step, after the environment has acted. -/
def coreStep (s : State) : Result :=
  if s.debugStopped then .next s
  else match s.paused with
    | some t => .next t
    | none =>
      match s.blocked with
      | some r => .refused r
      | none =>
        match s.interrupt with
        | some x => s.raise x 0
        | none => fetchAndExecute s

/-- One step: the environment acts; then the machine is reset, or the core takes its part. The reset is always performed, whatever
DSR[RSTE] holds: it is never handed to the development interface (DEDUCED, entry 48: 70_reset_and_hazards.md R1050 says that a set RSTE
would do so, "but DSR itself resets to 0", and 61_platform_units.md R995 lists the bit). The environment acts in every step, also
while the core sleeps or is stopped for the debugger: the timer, the interrupt lines and other agents go on (DESIGN CHOICE, entry 31;
61_platform_units.md R995 speaks of the core alone). -/
def cycle (s : State) : Result :=
  if s.resetAsserted then .next s.environment.afterReset else coreStep s.environment

/-- The physical byte addresses the next fetch reads. -/
def State.fetchAddrs (s : State) : List Nat :=
  match translate s .fetch (trunc s.cfg.xlen s.pc) 4 with
  | .ok l => l.addrs
  | _ => untranslatedBytes s.cfg (trunc s.cfg.xlen s.pc) 4

/-- The state with an instruction word placed where the next fetch reads it, most significant byte first. -/
def State.placeWord (s : State) (w : Word32) : State :=
  { s with
    mem := s.mem.writeAll (s.fetchAddrs.zip (wordBytes w))
    stale := s.stale.filter fun e => !s.fetchAddrs.contains e.addr }

end Sys2Proof.Machine
end

