-- ==== Sys2Proof/WellFormed.lean ====
section
/-! DEFINITION. What an instruction and a configuration must satisfy beyond their types: the spec's own prohibitions, each with
its name. No meaning depends on these checks; statements use them as hypotheses. -/

namespace Sys2Proof

/-! ## Instructions -/

/-- What makes an instruction ill-formed. -/
inductive InstrError where
  /-- `l.jalr` names the link register r9 (44_orbis_control_system.md R555) -/
  | linkRegisterAsTarget
  deriving DecidableEq, Repr

/-- The errors of an instruction. Every field has the width of its encoding (30_encoding.md R302), so the one
prohibition left is R555's. -/
def Instr.errors : Instr → List InstrError
  | .lJalr rb => if rb = 9 then [.linkRegisterAsTarget] else []
  | _ => []

/-- An instruction is well formed. -/
def Instr.wf (i : Instr) : Bool := (Instr.errors i).isEmpty

/-! ## Configurations -/

/-- What makes a configuration illegal (00_scope.md R8 legal values, R10; 10_state.md R85, R88-R91; 20_memory.md R207). -/
inductive ConfigError where
  /-- HAS_ORBIS64, HAS_ORFPX64 or HAS_ORVDX64 with XLEN = 32 (R10) -/
  | subsetNeeds64
  /-- a class I instruction is left out (30_encoding.md R335) -/
  | classOneAbsent
  /-- an NAE field of 5 to 7 (R88, R89) -/
  | atbEntries
  /-- an NCW field above 5 or an NCS field above 10 (R90, R91) -/
  | cacheGeometry
  /-- a unified MMU without both MMUs present and described alike (10_state.md R53, entry 45) -/
  | unifiedMmuParts
  /-- a unified cache without both caches present and alike in ways, sets and block size (10_state.md R53, entry 45) -/
  | unifiedCacheParts
  /-- EVBAR_RESET is not a multiple of 8192 (R8) -/
  | evbarUnaligned
  /-- COREID is not below NUMCORES (R8) -/
  | coreIdRange
  /-- more than 8192 cores with an OMPIC (61_platform_units.md R970) -/
  | tooManyCores
  /-- PA_BITS above 35 (R8) -/
  | paBitsRange
  /-- the registers of the OMPIC are not words (R970) -/
  | ompicUnaligned
  /-- VR[VER] outside 0x10..0x19 (R85) -/
  | versionRange
  /-- VR[CFG] above 99 (R85) -/
  | templateRange
  deriving DecidableEq, Repr

/-- The rows of spec/opcode_table.json (from 0) of class I: always implemented within their subset (00_scope.md R4; the labels
of 30_encoding.md R335, and row 42, `l.sfeq`, by 42_orbis_compare.md R453). -/
def classOneRows : List Nat :=
  [3, 42, 43, 44, 46, 47, 48, 49, 50, 51, 62, 68, 73, 75, 76, 78, 79, 80, 81, 82, 84, 120, 126, 130, 132, 134, 136, 138,
   142, 144, 146, 147, 150, 153, 155, 156, 158, 159, 163, 164, 165, 167, 168, 174, 177, 178, 180, 181, 183, 184, 185,
   189, 190, 191, 193, 195]

/-- One check: the error where the condition fails. -/
def check (e : ConfigError) (ok : Bool) : List ConfigError := if ok then [] else [e]

/-- The errors of a configuration. -/
def Config.errors (c : Config) : List ConfigError :=
  check .subsetNeeds64 (c.xlen == .x64 || !(c.orbis64 || c.orfpx64 || c.orvdx64)) ++
  check .classOneAbsent (!classOneRows.any c.absent.contains) ++
  check .atbEntries (decide (c.dmmu.nae.toNat ≤ 4) && decide (c.immu.nae.toNat ≤ 4)) ++
  check .cacheGeometry (decide (c.dc.ncw.toNat ≤ 5) && decide (c.dc.ncs.toNat ≤ 10) &&
    decide (c.ic.ncw.toNat ≤ 5) && decide (c.ic.ncs.toNat ≤ 10)) ++
  check .unifiedMmuParts (!c.unifiedMmu || (c.dmp && c.imp && c.dmmu == c.immu)) ++
  check .unifiedCacheParts (!c.unifiedCache ||
    (c.dcp && c.icp && c.dc.ncw == c.ic.ncw && c.dc.ncs == c.ic.ncs && c.dc.cbs == c.ic.cbs)) ++
  check .evbarUnaligned (c.evbarReset &&& 0x1FFF == 0) ++
  check .coreIdRange (decide (c.coreId < c.numCores)) ++
  check .tooManyCores (c.ompicBase.isNone || decide (c.numCores ≤ 8192)) ++
  check .paBitsRange (decide (c.paBits ≤ 35)) ++
  check .ompicUnaligned (match c.ompicBase with | none => true | some b => b % 4 == 0) ++
  check .versionRange (decide (0x10 ≤ c.vrVer.toNat ∧ c.vrVer.toNat ≤ 0x19)) ++
  check .templateRange (decide (c.vrCfg.toNat ≤ 99))

/-- A configuration is legal. -/
def Config.wf (c : Config) : Bool := (Config.errors c).isEmpty

end Sys2Proof
end

