-- ==== Sys2Proof/Safety.lean ====
section
/-! DEFINITION. The terms the statements use: the invariant of a state, when an instruction may have its effect, what an
instruction leaves unchanged, and what a run without a stop is. -/

namespace Sys2Proof.Machine

/-! ## The invariant -/

/-- What every step keeps, whatever state it starts from. -/
structure Inv (s : State) : Prop where
  /-- memory is in canonical form -/
  mem : s.mem.wf = true
  /-- `pc[1:0] = 0` always (44_orbis_control_system.md R556) -/
  pcAligned : s.pc.extractLsb' 0 2 = 0
  /-- the pending target is aligned as well -/
  targetAligned : s.dsTarget.extractLsb' 0 2 = 0
  /-- `pc` holds XLEN bits (10_state.md R46) -/
  pcWidth : trunc s.cfg.xlen s.pc = s.pc
  /-- the pending target holds XLEN bits -/
  targetWidth : trunc s.cfg.xlen s.dsTarget = s.dsTarget
  /-- every general register holds XLEN bits (10_state.md R40) -/
  gprWidth : ∀ i, trunc s.cfg.xlen (s.gprs.at i) = s.gprs.at i
  /-- every EPCR holds XLEN bits (10_state.md R70) -/
  epcrWidth : ∀ i, trunc s.cfg.xlen (s.epcr.at i) = s.epcr.at i
  /-- every EEAR holds XLEN bits (10_state.md R71) -/
  eearWidth : ∀ i, trunc s.cfg.xlen (s.eear.at i) = s.eear.at i
  /-- SR[FO] reads one and bits 27:17 read zero (10_state.md R60, R61) -/
  srFixed : s.sr &&& 0x0FFE8000 = 0x00008000
  /-- SR[LEE] stays zero where it is not supported (92_eei_decisions.md D6) -/
  srLee : s.cfg.leeSupported = false → s.sr.getLsbD 7 = false
  /-- EVBAR bits 12:0 read zero (10_state.md R98) -/
  evbarLow : s.evbar &&& 0x1FFF = 0
  /-- AECR has seven bits (10_state.md R99) -/
  aecrBits : s.aecr &&& 0xFFFFFF80 = 0
  /-- AESR has seven bits (10_state.md R100) -/
  aesrBits : s.aesr &&& 0xFFFFFF80 = 0
  /-- FPCSR has twelve bits (10_state.md R75) -/
  fpcsrBits : s.fpcsr &&& 0xFFFFF000 = 0
  /-- DSR has fourteen bits (61_platform_units.md R995) -/
  dsrBits : s.dsr &&& 0xFFFFC000 = 0
  /-- DRR has fourteen bits (R996) -/
  drrBits : s.drr &&& 0xFFFFC000 = 0
  /-- PMR has the bits of the features that are implemented (R1020, entry 49) -/
  pmrBits : s.pmr &&& ~~~(s.cfg.pmrFields.setWidth 32) = 0
  /-- a reservation covers an aligned word (20_memory.md R230), unless unaligned accesses are performed (R204, entry 25) -/
  resvAligned : s.cfg.unalignedSupported = false → ∀ a, s.resv = some a → a % 4 = 0
  /-- the OMPIC has one status register for each core (61_platform_units.md R972) -/
  ompicCores : s.ompic.length = s.cfg.numCores
  /-- the replaced instruction words are aligned words (20_memory.md R282, entry 38) -/
  staleAligned : ∀ e ∈ s.stale, e.addr % 4 = 0
  /-- without an instruction cache a fetch sees every store (20_memory.md R269) -/
  staleCached : s.cfg.icp = false → s.stale = []
  /-- without delay slots no instruction is in one (44_orbis_control_system.md R551) -/
  noSlot : s.cfg.nd = true → s.dsPending = false

/-! ## When an instruction may have its effect -/

/-- Nothing at issue stops instruction `i`: the context exists and no debug trap is armed (U27, U19), the instruction is
implemented (60_exceptions.md R853), the registers it uses exist (R857). -/
def Ready (i : Instr) (s : State) : Prop :=
  s.blocked = none ∧ present s.cfg i = true ∧ (Instr.regsNow i).any s.regMissing = false

/-! ## What an instruction leaves unchanged -/

/-- `s` with the sequencing registers of `t`. -/
def State.seqOf (s t : State) : State :=
  { s with pc := t.pc, dsPending := t.dsPending, dsTarget := t.dsTarget, ppc := t.ppc, hist := t.hist }

/-- `pc` after an instruction that is no control transfer (44_orbis_control_system.md R551). -/
def Completes (s t : State) : Prop :=
  t.pc = (if s.dsPending then s.dsTarget else trunc s.cfg.xlen (s.pc + 4)) ∧ t.dsPending = false ∧ t.ppc = s.pc

/-- General register `rd` of the current set holds `v` (a hardwired r0 discards it, 10_state.md R42) and no other general
register of any set has changed. -/
def WritesReg (s t : State) (rd : Reg) (v : Word) : Prop :=
  t.gprAt (gprIndex s.ctx rd) = (if s.cfg.r0Hardwired && rd == 0 then 0 else trunc s.cfg.xlen v) ∧
  ∀ j, j ≠ gprIndex s.ctx rd → t.gprAt j = s.gprAt j

/-- Every byte of memory reads as before. -/
def MemSame (s t : State) : Prop := ∀ a, t.mem.read a = s.mem.read a

/-- SR is unchanged outside `mask`. -/
def SrOutside (mask : Word32) (s t : State) : Prop := t.sr &&& ~~~mask = s.sr &&& ~~~mask

/-- The instruction writes `v` to `rd` and changes nothing else. -/
def WritesOnly (s t : State) (rd : Reg) (v : Word) : Prop :=
  WritesReg s t rd v ∧ Completes s t ∧ t = { s.seqOf t with gprs := t.gprs } ∧ MemSame s t

/-- The instruction writes `v` to `rd` and SR within `mask`, and changes nothing else. -/
def WritesRegSr (mask : Word32) (s t : State) (rd : Reg) (v : Word) : Prop :=
  WritesReg s t rd v ∧ SrOutside mask s t ∧ Completes s t ∧
  t = { s.seqOf t with gprs := t.gprs, sr := t.sr } ∧ MemSame s t

/-- The instruction writes SR[F] and changes nothing else. -/
def WritesFlag (s t : State) (b : Bool) : Prop :=
  t.flag = b ∧ SrOutside 0x200 s t ∧ Completes s t ∧ t = { s.seqOf t with sr := t.sr } ∧ MemSame s t

/-- The instruction writes the accumulator `v` and SR within `mask`, and changes nothing else. -/
def WritesAcc (mask : Word32) (s t : State) (v : Word) : Prop :=
  t.machi ++ t.maclo = v ∧ SrOutside mask s t ∧ Completes s t ∧
  t = { s.seqOf t with machi := t.machi, maclo := t.maclo, sr := t.sr } ∧ MemSame s t

/-- Exception `x` with EEAR value `ea` has been taken from `s`, leaving `t`: the registers of 60_exceptions.md R860-R864, and
nothing else has changed. -/
def Enters (s t : State) (x : Exc) (ea : Word) : Prop :=
  t.pc = s.vectorAddress (s.entryExc x) ∧ t.dsPending = false ∧ t.dsTarget = 0 ∧
  t.epcr = s.epcr.put s.entryCtx (s.epcFor x) ∧ t.esr = s.esr.put s.entryCtx (zext32 s.sr) ∧
  t.eear = (if x.writesEear && !s.contextsUsed then s.eear.put s.entryCtx (trunc s.cfg.xlen ea) else s.eear) ∧
  t.sr = s.entrySr s.entryCtx ∧ t.resv = none ∧
  t = { s.seqOf t with epcr := t.epcr, esr := t.esr, eear := t.eear, sr := t.sr, resv := t.resv } ∧ MemSame s t

/-- The debug unit has stopped the core for exception `x`: its DRR bit is set, no step is taken any more, and nothing else has changed
(61_platform_units.md R995, R996). -/
def Stops (s t : State) (x : Exc) : Prop :=
  t = { s with drr := s.drr ||| (1#32 <<< x.dsrBit), debugStopped := true }

/-- Exception `x` with EEAR value `ea` has been raised in `s`, leaving `t`: it has been entered, or DSR has its bit and the core has
stopped (60_exceptions.md R860, 61_platform_units.md R995). -/
def Raises (s t : State) (x : Exc) (ea : Word) : Prop :=
  (s.redirects x = false → Enters s t x ea) ∧ (s.redirects x = true → Stops s t x)

/-- The sign bit of an XLEN-bit value. -/
def signBit (x : Xlen) (v : Word) : Bool := v.getLsbD (x.bits - 1)

/-- The effect of an addition of `a`, `b` and a carry: the sum, CY on a carry out of the top bit, OV where both operands
have one sign and the sum has the other (40_orbis_arith.md R350, R353). -/
def AddsTo (s t : State) (rd : Reg) (a b : Word) (c : Bool) : Prop :=
  WritesRegSr 0xC00 s t rd (a + b + (if c then 1 else 0)) ∧
  t.carry = decide (2 ^ s.cfg.xlen.bits ≤ a.toNat + b.toNat + c.toNat) ∧
  t.overflow = (signBit s.cfg.xlen a == signBit s.cfg.xlen b &&
    signBit s.cfg.xlen (a + b + (if c then 1 else 0)) != signBit s.cfg.xlen a)

/-- Bytes in the order in which they make up an operand, the most significant first: as they stand from the lowest address up,
reversed exactly where the implementation supports SR[LEE] and it is 1 (20_memory.md R202, R203). -/
def operandOrder (s : State) (bs : List Byte) : List Byte :=
  if s.cfg.leeSupported = true ∧ s.sr.getLsbD 7 = true then bs.reverse else bs

/-- The effect of a load of the located bytes: `v` in `rd`, the page history, and nothing else. -/
def LoadsTo (s t : State) (l : Located) (rd : Reg) (v : Word) : Prop :=
  WritesReg s t rd v ∧ Completes s t ∧ t = { l.state.seqOf t with gprs := t.gprs } ∧ MemSame s t

/-- The effect of a store of the low `n` bytes of `v` to the located bytes: they read back as the value (where they are
different bytes), every other byte reads as before, an overlapped reservation is gone, an instruction cache may keep the replaced words
(entry 38), and nothing else has changed
(20_memory.md R202, R203, R231). -/
def StoresTo (s t : State) (l : Located) (n : Nat) (v : Word) : Prop :=
  (l.addrs.Nodup → ofBytes (operandOrder s (l.addrs.map t.mem.read)) = v.toNat % 2 ^ (8 * n)) ∧
  (∀ a, a ∉ l.addrs → t.mem.read a = s.mem.read a) ∧
  t.resv = cancelOverlap s.resv l.addrs ∧ t.stale = s.noteStale l.addrs (firstStage s.cfg) ∧ Completes s t ∧
  t = { l.state.seqOf t with mem := t.mem, stale := t.stale, resv := t.resv }

/-- A load or store of `n` bytes at `ea` finds the bytes `l`: aligned, translated, existing, and plain memory
(20_memory.md R210, R211). -/
def Reaches (s : State) (k : Access) (ea : Word) (n : Nat) (l : Located) : Prop :=
  misaligned s ea n = false ∧ locate s k ea n = .ok l ∧ l.addrs.any (inOmpic s.cfg) = false

/-! ## Translation -/

/-- TLB match register `mr` holds the page number of `ea` (20_memory.md R252): bits 31:13, or 31:24 in a 16-Mbyte page; with XLEN = 64
as a free value of the 46-bit page number says (R258, entry 14). -/
def TagMatches (x : Xlen) (mr : Word32) (ea : Word) : Prop :=
  match x with
  | .x32 =>
    if mr.getLsbD 1 then mr.extractLsb' 24 8 = ea.extractLsb' 24 8 else mr.extractLsb' 13 19 = ea.extractLsb' 13 19
  | .x64 =>
    Config.tlbTagMatch64 (mr.getLsbD 1) (mr.extractLsb' 13 19)
      (if mr.getLsbD 1 then ea.extractLsb' 24 22 ++ 0#11 else ea.extractLsb' 13 33) = true

/-- TLB register `i` of an MMU is in the set that `ea` selects, in a way that exists (20_memory.md R252). -/
def InSet (c : MmuCfg) (ea : Word) (i : BitVec 9) : Prop :=
  i.toNat / 128 ≤ c.ntw.toNat ∧ i.toNat % 128 = ea.toNat / 8192 % 2 ^ c.nts.toNat

/-- TLB entry `i` of an MMU translates `ea`: it is in the set, valid, and holds the page number and the context (20_memory.md R252). -/
def TlbFinds (s : State) (m : Mmu) (ea : Word) (i : BitVec 9) : Prop :=
  InSet m.cfg ea i ∧ (m.mr.at i).getLsbD 0 = true ∧ TagMatches s.cfg.xlen (m.mr.at i) ea ∧
  (s.cfg.nsgf = 0 ∨ (m.mr.at i).extractLsb' 2 4 = s.sr.extractLsb' 28 4)

/-- The size of the area of an ATB entry: 32 Gbyte with PS, else 16 Mbyte (20_memory.md R249). -/
def areaSize (mr : Word32) : Nat := if mr.getLsbD 5 then 2 ^ 35 else 2 ^ 24

/-- ATB entry `j` of an MMU translates `ea`: it exists, is valid, and holds the area and the context (20_memory.md R253); with XLEN = 64
the area's number stands at the parameter `atbVpnBit` (entry 15). -/
def AtbFinds (s : State) (m : Mmu) (ea : Word) (j : BitVec 2) : Prop :=
  j.toNat < m.cfg.nae.toNat ∧ (m.amr.at j).getLsbD 0 = true ∧
  (s.cfg.nsgf = 0 ∨ (m.amr.at j).extractLsb' 1 4 = s.sr.extractLsb' 28 4) ∧
  match s.cfg.xlen with
  | .x32 => (m.amr.at j).getLsbD 5 = false ∧ (m.amr.at j).extractLsb' 24 8 = ea.extractLsb' 24 8
  | .x64 =>
    ((m.amr.at j).extractLsb' 10 22).toNat * 2 ^ s.cfg.atbVpnBit % 2 ^ 46 / areaSize (m.amr.at j) =
      ea.toNat % 2 ^ 46 / areaSize (m.amr.at j)

/-- The bit of a TLB translate register that permits an access in supervisor or user mode: SXE, UXE, SRE, URE, SWE, UWE (20_memory.md
R246, R247, R255, R256). -/
def tlbPermission (k : Access) (supervisor : Bool) : Nat :=
  match k with
  | .fetch => if supervisor then 6 else 7
  | .load => if supervisor then 8 else 6
  | .store => if supervisor then 9 else 7

/-- The same of an ATB translate register, whose data bits stand in another order (20_memory.md R250, R251). -/
def atbPermission (k : Access) (supervisor : Bool) : Nat :=
  match k with
  | .fetch => if supervisor then 6 else 7
  | .load => if supervisor then 6 else 8
  | .store => if supervisor then 7 else 9

/-- An access to `n` bytes at `ea` through an entry with translate register `tr` and a page of `size` bytes at `base`: without the
permission bit a page fault; with it the page's bytes, with A set and D for a store, and CI = 1 as the register says; an access that leaves the page is refused
(20_memory.md R255, R256, R261, R286; entry 25). `put` puts a translate register back. -/
def TranslatesBy (s : State) (k : Access) (ea : Word) (n : Nat) (tr : Word32) (permission size base : Nat)
    (put : Word32 → State) : Prop :=
  (tr.getLsbD permission = false →
    translate s k ea n = .raise (if k = .fetch then .insnPageFault else .dataPageFault) ea) ∧
  (tr.getLsbD permission = true → size < ea.toNat % size + n → translate s k ea n = .refuse .unalignedPage) ∧
  (tr.getLsbD permission = true → ea.toNat % size + n ≤ size →
    ∃ l, translate s k ea n = .ok l ∧ l.addrs = (List.range n).map (base + ea.toNat % size + ·) ∧
      l.state = put (tr ||| (if k = .store then 0x30 else 0x10)) ∧
      l.cached = ((if k = .fetch then s.cfg.icp && s.sr.getLsbD 4 else s.cfg.dcp && s.sr.getLsbD 3) && !tr.getLsbD 1) ∧
      l.inhibited = tr.getLsbD 1)

/-- The bytes of an access to `n` bytes at `ea` that nothing translates: with XLEN = 32 the same addresses; with XLEN = 64 where the first
window of the parameter `eaMap` that holds the address puts it, else its low PA_BITS bits (20_memory.md R239,
93_implementation_defined.md U8, entry 16). An access wraps at the top of the effective address space (R205). -/
def Untranslated (c : Config) (ea : Word) (n : Nat) (as : List Nat) : Prop :=
  as.length = n ∧ ∀ i < n,
    match c.xlen with
    | .x32 => as[i]? = some ((ea.toNat + i) % 2 ^ 32)
    | .x64 =>
      let a := (ea.toNat + i) % 2 ^ 64
      let holds := fun (w : EaWindow) => 8 * w.ea ≤ a ∧ a < 8 * (w.ea + w.size)
      ((∀ w ∈ c.eaMap, ¬ holds w) → as[i]? = some (a % 2 ^ c.paBits)) ∧
      ∀ pre w post, c.eaMap = pre ++ w :: post → (∀ v ∈ pre, ¬ holds v) → holds w →
        as[i]? = some ((8 * w.pa + (a - 8 * w.ea)) % 2 ^ c.paBits)

/-! ## Sequencing and floating point -/

/-- The sequencing of a control transfer (44_orbis_control_system.md R551): with a delay slot the next instruction is the
slot and the jump is pending; with ND = 1 the target is next. -/
def TransfersTo (s t : State) (taken : Bool) (target : Word) : Prop :=
  (s.cfg.nd = false → t.pc = trunc s.cfg.xlen (s.pc + 4) ∧ t.dsPending = true ∧
    t.dsTarget = if taken then target else trunc s.cfg.xlen (s.pc + 8)) ∧
  (s.cfg.nd = true → t.pc = (if taken then target else trunc s.cfg.xlen (s.pc + 4)) ∧ t.dsPending = false) ∧
  t.ppc = s.pc

/-- The value `v` is what result `r` of a floating-point operation gives: its bits; or, where the sources leave it open, a quiet NaN
or an integer of the format (U12, U14, entry 19). -/
def FpGives (f : Fmt) (r : FRes) (v : Word) : Prop :=
  (∀ n, r.out = .bits n → v = BitVec.ofNat 64 n) ∧
  (r.out = .quietNan → v.toNat < 2 ^ f.width ∧ ∀ env, unpack f env v.toNat = .nan false) ∧
  (r.out = .anyInt → v.toNat < 2 ^ f.width)

/-- Bit `b` as a field of one bit. -/
def flagField (b : Bool) : BitVec 1 := BitVec.ofBool b

/-- The environment of a floating-point operation: the rounding mode FPCSR[2:1], 0 nearest, 1 toward zero, 2 up, 3 down (10_state.md R75,
45_orfpx.md R602), and the parameters of 93_implementation_defined.md U13. -/
def fpEnvironment (s : State) : FEnv :=
  let rm := s.fpcsr.extractLsb' 1 2
  { mode := if rm = 0 then .nearest else if rm = 1 then .zero else if rm = 2 then .up else .down
    tinyAfter := s.cfg.fpTinyAfter, denormals := s.cfg.fpDenormals }

/-- A single-precision operand: the low 32 bits of the register (45_orfpx.md R601). -/
def singleOperand (s : State) (r : Reg) : FVal := unpack .single (fpEnvironment s) ((s.gpr r).toNat % 2 ^ 32)

/-- A double-precision operand: the whole register (45_orfpx.md R601). -/
def doubleOperand (s : State) (r : Reg) : FVal := unpack .double (fpEnvironment s) (s.gpr r).toNat

/-- The flags that an operation with result `r` signals where `v` is written: an integer that the sources leave open sets ZF where it
is 0 (45_orfpx.md R603; the model's choice, entry 19). -/
def signalled (r : FRes) (v : Word) : FFlags :=
  { r.flags with zf := if r.out = .anyInt then decide (v = 0) else r.flags.zf }

/-- Flags at their places in FPCSR, from DZF at bit 11 down to OVF at bit 3 (10_state.md R75, 45_orfpx.md R603). -/
def fpcsrFlags (f : FFlags) : Word32 :=
  0#20 ++ flagField f.dzf ++ flagField f.inf ++ flagField f.ivf ++ flagField f.ixf ++ flagField f.zf ++ flagField f.qnf ++
    flagField f.snf ++ flagField f.unf ++ flagField f.ovf ++ 0#3

/-- A floating-point operation with result `r` writes `v` to rD and accumulates the flags it signals (45_orfpx.md R603, R617). -/
def FpResult (s t : State) (f : Fmt) (rd : Reg) (r : FRes) (v : Word) : Prop :=
  FpGives f r v ∧ WritesReg s t rd v ∧ t.fpcsr = s.fpcsr ||| fpcsrFlags (signalled r v) ∧ MemSame s t

/-- A floating-point operation completes with result `r`: rD, the accumulated flags, and nothing else (45_orfpx.md R603). -/
def FpWrites (s t : State) (f : Fmt) (rd : Reg) (r : FRes) (v : Word) : Prop :=
  FpResult s t f rd r v ∧ Completes s t ∧
  t = { s.seqOf t with gprs := t.gprs, fpcsr := t.fpcsr, freeCtr := t.freeCtr }

/-- The rational number that a floating-point datum stands for; 0 for an infinity or a NaN. -/
def FVal.exact : FVal → ℚ
  | .num n m e => signedMan n m * (2 : ℚ) ^ e
  | _ => 0

/-- The result `r` is the exact value `x` rounded to the format, a zero having the sign `neg` (45_orfpx.md R602). What `roundResult`
gives is stated apart. -/
def RoundsTo (f : Fmt) (env : FEnv) (neg : Bool) (x : ℚ) (r : FRes) : Prop :=
  (x = 0 → r = { out := .bits (pack f neg 0 0), flags := { zf := true } }) ∧
  (x ≠ 0 → ∃ (p q : Nat) (e : Int), 0 < p ∧ 0 < q ∧ (p : ℚ) / q * 2 ^ e = |x| ∧
    r = roundResult f env (decide (x < 0)) p q e)

/-- The result `r` is as `p` says but for UNF and IXF, which it does not signal (45_orfpx.md R606). -/
def NeverInexact (p : FRes → Prop) (r : FRes) : Prop :=
  ∃ q, p q ∧ r = { q with flags := { q.flags with unf := false, ixf := false } }

/-- The instruction writes `v` to `rd` with every element `i` of width `w` as `p` says, and changes nothing else
(46_orvdx_a.md R681, R682). -/
def WritesLanes (w : Nat) (s t : State) (rd : Reg) (p : Nat → BitVec w → Prop) : Prop :=
  ∃ v, WritesOnly s t rd v ∧ ∀ i < 64 / w, p i (lane w v i)

/-- The instruction writes SR[F] and the same bit to every bit of `rd`, and changes nothing else (46_orvdx_a.md R684). -/
def WritesVecFlag (s t : State) (rd : Reg) (b : Bool) : Prop :=
  t.flag = b ∧ WritesRegSr 0x200 s t rd (if b then BitVec.allOnes 64 else 0)

/-! ## Reads of the units' registers -/

/-- DMMUCFGR or IMMUCFGR, field by field from bit 31 down: HTR, TEIRI, PRI, CRI, NAE, NTS, NTW (10_state.md R88, R89). -/
def mmuFields (m : MmuCfg) : Word32 :=
  0#20 ++ flagField m.htr ++ flagField m.teiri ++ flagField m.pri ++ flagField m.cri ++ m.nae ++ m.nts ++ m.ntw

/-- What `l.mfspr` of address `a` gives for the identification and configuration registers, field by field from bit 31 down
(10_state.md R73, R85-R93, R96, R97, R101). That a register of an absent unit, or with VR[CFG] of 50 or more, is not implemented is the
model's reading (entry 27); that reserved bits whose reset is X read zero is its choice (entry 6). -/
def ConfigReads (c : Config) (a : BitVec 16) (v : Word) : Prop :=
  (a = 0x0000 → v = zext32 (c.vrVer ++ c.vrCfg ++ 0#9 ++ flagField c.hasVr2 ++ c.vrRev)) ∧
  (a = 0x0001 → c.up = true → v = zext32 (c.cup ++ 0#13 ++ flagField c.ttp ++ flagField c.pmp ++ flagField c.picp ++
    flagField c.pcup ++ flagField c.dup ++ flagField c.mp ++ flagField c.imp ++ flagField c.dmp ++ flagField c.icp ++
    flagField c.dcp ++ flagField c.up)) ∧
  (c.vrCfg.toNat < 50 →
    (a = 0x0002 → v = zext32 (0#17 ++ flagField c.hasAecr ++ flagField c.hasIsr ++ flagField c.hasEvbar ++
      flagField c.hasAvr ++ flagField c.nd ++ flagField c.orvdx64 ++ flagField c.orfpx64 ++ flagField c.orfpx32 ++
      flagField c.orbis64 ++ 1#1 ++ flagField c.ngpr16 ++ c.nsgf)) ∧
    (a = 0x0003 → c.dmp = true → v = zext32 (mmuFields c.dmmu)) ∧
    (a = 0x0004 → c.imp = true → v = zext32 (mmuFields c.immu)) ∧
    (a = 0x0005 → c.dcp = true → v = zext32 (0#17 ++ flagField c.dc.cbwbri ++ flagField c.dc.cbfri ++
      flagField c.dc.cblri ++ flagField c.dc.cbpri ++ flagField c.dc.cbiri ++ flagField c.dc.ccri ++ flagField c.dc.cws ++
      flagField c.dc.cbs ++ c.dc.ncs ++ c.dc.ncw)) ∧
    (a = 0x0006 → c.icp = true → v = zext32 (0#19 ++ flagField c.ic.cblri ++ flagField c.ic.cbpri ++
      flagField c.ic.cbiri ++ flagField c.ic.ccri ++ 0#1 ++ flagField c.ic.cbs ++ c.ic.ncs ++ c.ic.ncw)) ∧
    (a = 0x0007 → c.dup = true → v = zext32 (0#28 ++ flagField c.wpci ++ c.ndp)) ∧
    (a = 0x0008 → c.pcup = true → v = zext32 (0#29 ++ c.npc))) ∧
  (a = 0x0009 → c.hasVr2 = true → v = zext32 (c.vr2Cpuid ++ c.vr2Ver)) ∧
  (a = 0x000A → c.hasAvr = true → v = zext32 (1#8 ++ 2#8 ++ c.avrRev ++ 0#8)) ∧
  (∀ j : BitVec 3, a = 0x0015 + j.setWidth 16 → c.hasIsr = true → v = zext32 (c.isr.at j)) ∧
  (a = 0x0080 → c.hasCoreRegs = true → v = BitVec.ofNat 64 c.coreId) ∧
  (a = 0x0081 → c.hasCoreRegs = true → v = BitVec.ofNat 64 c.numCores)

/-- What `l.mfspr` of address `a` gives for an MMU whose group of registers begins at address `g`: the control and protection register, zero
for the write-only xTLBEIR, the ATB and TLB registers that exist (20_memory.md R240-R251, 92_eei_decisions.md D5). -/
def MmuReads (m : Mmu) (control protection : Word32) (g a : BitVec 16) (v : Word) : Prop :=
  let c := m.cfg
  (a = g → c.cri = true → v = zext32 control) ∧ (a = g + 1 → c.pri = true → v = zext32 protection) ∧
  (a = g + 2 → v = 0) ∧
  (∀ j : BitVec 2, j.toNat < c.nae.toNat →
    (a = g + 4 + j.setWidth 16 → v = zext32 (m.amr.at j)) ∧ (a = g + 8 + j.setWidth 16 → v = zext32 (m.atr.at j))) ∧
  (∀ (y : BitVec 2) (n : BitVec 7), y.toNat ≤ c.ntw.toNat → n.toNat < 2 ^ c.nts.toNat →
    (a = g + 0x200 + 0x100 * y.setWidth 16 + n.setWidth 16 → v = zext32 (m.mr.at (y ++ n))) ∧
    (a = g + 0x280 + 0x100 * y.setWidth 16 + n.setWidth 16 → v = zext32 (m.tr.at (y ++ n))))

/-- What `l.mfspr` of address `a` gives in the debug unit: the registers as State holds them, with DCR[DP] = 1 for a pair that is there
(61_platform_units.md R990-R996). -/
def DebugUnitReads (s : State) (a : BitVec 16) (v : Word) : Prop :=
  (∀ j : BitVec 3, j.toNat ≤ s.cfg.ndp.toNat →
    (a = 0x3000 + j.setWidth 16 → v = zext32 (s.dvr.at j)) ∧
    (a = 0x3008 + j.setWidth 16 → v = zext32 (s.dcr.at j ||| 1))) ∧
  (a = 0x3010 → v = zext32 s.dmr1) ∧ (a = 0x3011 → v = zext32 s.dmr2) ∧
  (∀ j : BitVec 1, s.cfg.wpci = true → a = 0x3012 + j.setWidth 16 → v = zext32 (s.dwcr.at j)) ∧
  (a = 0x3014 → v = zext32 s.dsr) ∧ (a = 0x3015 → v = zext32 s.drr)

/-- What `l.mfspr` of address `a` gives in the performance counters: a count that no event changes, some 32-bit count where PCMR enables an
event, and PCMR with CP = 1 (61_platform_units.md R1010-R1012). -/
def CounterReads (s : State) (a : BitVec 16) (v : Word) : Prop :=
  ∀ j : BitVec 3, j.toNat ≤ s.cfg.npc.toNat →
    (a = 0x3800 + j.setWidth 16 → v.toNat < 2 ^ 32 ∧
      ((s.pcmr.at j).extractLsb' 4 22 = 0 → v = zext32 (s.pccr.at j))) ∧
    (a = 0x3808 + j.setWidth 16 → v = zext32 (s.pcmr.at j ||| 1))

/-! ## Writes of the units' registers -/

/-- What `l.mtspr` of `v` to address `a` leaves in the data MMU, whose group of registers begins at address `g` (20_memory.md
R240, R241, R244-R246, R249, R250). That reserved bits are zero after a write is the model's choice (entry 6). -/
def DataMmuWrites (s t : State) (g a : BitVec 16) (v : Word) : Prop :=
  let w : Word32 := v.setWidth 32
  let c := s.cfg.dmmu
  (a = g → c.cri = true → t.dmmucr = w &&& 0xFFFFFC00 ∧
    (∀ i, t.dtlbmr.at i = if w.getLsbD 0 then s.dtlbmr.at i &&& 0xFFFFFFFE else s.dtlbmr.at i) ∧
    t = { s.seqOf t with dmmucr := t.dmmucr, dtlbmr := t.dtlbmr }) ∧
  (a = g + 1 → c.pri = true → t.dmmupr = w &&& 0x0FFFFFFF ∧ t = { s.seqOf t with dmmupr := t.dmmupr }) ∧
  (a = g + 2 → c.teiri = true →
    (∀ i, (InSet c v i ∧ TagMatches s.cfg.xlen (s.dtlbmr.at i) v → t.dtlbmr.at i = s.dtlbmr.at i &&& 0xFFFFFFFE) ∧
      (¬ (InSet c v i ∧ TagMatches s.cfg.xlen (s.dtlbmr.at i) v) → t.dtlbmr.at i = s.dtlbmr.at i)) ∧
    t = { s.seqOf t with dtlbmr := t.dtlbmr }) ∧
  (∀ j : BitVec 2, j.toNat < c.nae.toNat →
    (a = g + 4 + j.setWidth 16 → t.datbmr = s.datbmr.put j (w &&& 0xFFFFFC3F) ∧
      t = { s.seqOf t with datbmr := t.datbmr }) ∧
    (a = g + 8 + j.setWidth 16 → t.datbtr = s.datbtr.put j w ∧ t = { s.seqOf t with datbtr := t.datbtr })) ∧
  (∀ (y : BitVec 2) (n : BitVec 7), y.toNat ≤ c.ntw.toNat → n.toNat < 2 ^ c.nts.toNat →
    (a = g + 0x200 + 0x100 * y.setWidth 16 + n.setWidth 16 → t.dtlbmr = s.dtlbmr.put (y ++ n) (w &&& 0xFFFFE0FF) ∧
      t = { s.seqOf t with dtlbmr := t.dtlbmr }) ∧
    (a = g + 0x280 + 0x100 * y.setWidth 16 + n.setWidth 16 → t.dtlbtr = s.dtlbtr.put (y ++ n) (w &&& 0xFFFFE3FF) ∧
      t = { s.seqOf t with dtlbtr := t.dtlbtr }))

/-- The same for an instruction MMU of its own (20_memory.md R242-R245, R247, R249, R251; entry 6). -/
def InsnMmuWrites (s t : State) (a : BitVec 16) (v : Word) : Prop :=
  let w : Word32 := v.setWidth 32
  let c := s.cfg.immu
  (a = 0x1000 → c.cri = true → t.immucr = w &&& 0xFFFFFC00 ∧
    (∀ i, t.itlbmr.at i = if w.getLsbD 0 then s.itlbmr.at i &&& 0xFFFFFFFE else s.itlbmr.at i) ∧
    t = { s.seqOf t with immucr := t.immucr, itlbmr := t.itlbmr }) ∧
  (a = 0x1001 → c.pri = true → t.immupr = w &&& 0x00003FFF ∧ t = { s.seqOf t with immupr := t.immupr }) ∧
  (a = 0x1002 → c.teiri = true →
    (∀ i, (InSet c v i ∧ TagMatches s.cfg.xlen (s.itlbmr.at i) v → t.itlbmr.at i = s.itlbmr.at i &&& 0xFFFFFFFE) ∧
      (¬ (InSet c v i ∧ TagMatches s.cfg.xlen (s.itlbmr.at i) v) → t.itlbmr.at i = s.itlbmr.at i)) ∧
    t = { s.seqOf t with itlbmr := t.itlbmr }) ∧
  (∀ j : BitVec 2, j.toNat < c.nae.toNat →
    (a = 0x1004 + j.setWidth 16 → t.iatbmr = s.iatbmr.put j (w &&& 0xFFFFFC3F) ∧
      t = { s.seqOf t with iatbmr := t.iatbmr }) ∧
    (a = 0x1008 + j.setWidth 16 → t.iatbtr = s.iatbtr.put j (w &&& 0xFFFFFCFF) ∧
      t = { s.seqOf t with iatbtr := t.iatbtr })) ∧
  (∀ (y : BitVec 2) (n : BitVec 7), y.toNat ≤ c.ntw.toNat → n.toNat < 2 ^ c.nts.toNat →
    (a = 0x1200 + 0x100 * y.setWidth 16 + n.setWidth 16 → t.itlbmr = s.itlbmr.put (y ++ n) (w &&& 0xFFFFE0FF) ∧
      t = { s.seqOf t with itlbmr := t.itlbmr }) ∧
    (a = 0x1280 + 0x100 * y.setWidth 16 + n.setWidth 16 → t.itlbtr = s.itlbtr.put (y ++ n) (w &&& 0xFFFFE0FF) ∧
      t = { s.seqOf t with itlbtr := t.itlbtr }))

/-- What `l.mtspr` of `w` to address `a` leaves in the debug unit: DVR, DCR, DMR1, DMR2, DWCR, DSR, DRR (61_platform_units.md R990-R996).
That reserved bits are zero after a write is the model's choice (entry 6). -/
def DebugUnitWrites (s t : State) (a : BitVec 16) (w : Word32) : Prop :=
  (∀ j : BitVec 3, j.toNat ≤ s.cfg.ndp.toNat →
    (a = 0x3000 + j.setWidth 16 → t.dvr = s.dvr.put j w ∧ t = { s.seqOf t with dvr := t.dvr }) ∧
    (a = 0x3008 + j.setWidth 16 → t.dcr = s.dcr.put j (w &&& 0xFE) ∧ t = { s.seqOf t with dcr := t.dcr })) ∧
  (a = 0x3010 → t.dmr1 = w &&& 0x00FFFFFF ∧ t = { s.seqOf t with dmr1 := t.dmr1 }) ∧
  (a = 0x3011 → t.dmr2 = (s.dmr2 &&& w &&& 0xFFC00000) ||| (w &&& 0x003FFFFF) ∧ t = { s.seqOf t with dmr2 := t.dmr2 }) ∧
  (∀ j : BitVec 1, s.cfg.wpci = true → a = 0x3012 + j.setWidth 16 → t.dwcr = s.dwcr.put j w ∧
    t = { s.seqOf t with dwcr := t.dwcr }) ∧
  (a = 0x3014 → t.dsr = w &&& 0x3FFF ∧ t = { s.seqOf t with dsr := t.dsr }) ∧
  (a = 0x3015 → t.drr = w &&& 0x3FFF ∧ t = { s.seqOf t with drr := t.drr })

/-- What `l.mtspr` of `w` to address `a` leaves in the performance counters (61_platform_units.md R1010, R1011). A counter whose events
are changed while it counts takes some count (R1012; that it does so at this moment is the model's choice, entry 21). Reserved
bits are zero after a write by the model's choice (entry 6). -/
def CounterWrites (s t : State) (a : BitVec 16) (w : Word32) : Prop :=
  ∀ j : BitVec 3, j.toNat ≤ s.cfg.npc.toNat →
    (a = 0x3800 + j.setWidth 16 → t.pccr = s.pccr.put j w ∧ t = { s.seqOf t with pccr := t.pccr }) ∧
    (a = 0x3808 + j.setWidth 16 → t.pcmr = s.pcmr.put j (w &&& 0x03FFFFFE) ∧
      ((s.pcmr.at j).extractLsb' 4 22 = 0 → t = { s.seqOf t with pcmr := t.pcmr }) ∧
      (∀ i, i ≠ j → t.pccr.at i = s.pccr.at i) ∧
      t = { s.seqOf t with pcmr := t.pcmr, pccr := t.pccr, freeCtr := t.freeCtr })

/-- What `l.mtspr` of `w` to address `a` leaves in the PIC: PICMR, whose permanently unmasked inputs stay one, and PICSR, where a written
one clears the latch of an edge-triggered input and nothing else changes (61_platform_units.md R941, R942). -/
def PicWrites (s t : State) (a : BitVec 16) (w : Word32) : Prop :=
  (a = 0x4800 → t.picmr = w ||| (if s.cfg.picNmi then 3 else 0) ∧ t = { s.seqOf t with picmr := t.picmr }) ∧
  (a = 0x4802 → t.picsr = s.picsr &&& ~~~(w &&& s.cfg.picEdge) ∧
    t.picLatch = s.picLatch &&& ~~~(w &&& s.cfg.picEdge) ∧ t = { s.seqOf t with picLatch := t.picLatch })

/-- What a write of `v` to a cache block register leaves of the model's record of replaced instruction words, where its operation takes a
word of the named block from one of the stages `gs` to stage `h`: in the block of 16 bytes, or of 32 where `wide`, that holds the address to which
`v` translates as an access of kind `k`, the words at one of `gs` are at `h`, and every other word is as before; where `v` does not translate, all are
(20_memory.md R273, R275, R278, R280, R282; the record is the model's own, entry 38). -/
def BlockMoves (s t : State) (k : Access) (v : Word) (wide : Bool) (gs : List Coherence) (h : Coherence) : Prop :=
  let n := if wide then 32 else 16
  (∀ l a, translate s k v 1 = .ok l → l.addrs.head? = some a →
    t.stale = s.stale.map fun e => if e.stage ∈ gs ∧ e.addr / n = a / n then { e with stage := h } else e) ∧
  ((∀ l, translate s k v 1 ≠ .ok l) → t.stale = s.stale)

/-- What a write of `v` to address `a` of the cache block registers DCBFR, DCBWR and ICBIR leaves of that record: one that is not
implemented changes nothing, nor does ICBIR in a unified cache (20_memory.md R268, entry 45). -/
def BlockWrites (s t : State) (a : BitVec 16) (v : Word) : Prop :=
  let writesBack := (a = 0x1802 ∧ s.cfg.dc.cbfri = true) ∨ (a = 0x1804 ∧ s.cfg.dc.cbwbri = true)
  let invalidates := s.cfg.icp = true ∧ a = 0x2002 ∧ s.cfg.ic.cbiri = true ∧ s.cfg.unifiedCache = false
  (s.cfg.dcp = true ∧ writesBack → BlockMoves s t .load v s.cfg.dc.cbs [.stored] .writtenBack) ∧
  (invalidates → BlockMoves s t .fetch v s.cfg.ic.cbs [.synced, .flushed] .invalidated) ∧
  (¬ (s.cfg.dcp = true ∧ writesBack) → ¬ invalidates → t.stale = s.stale)

/-! ## Watchpoints -/

/-- The quantity `q` of `w` bits that DCR[CT] selects of what an instruction offers: the address it is fetched from, the address of its
load or store, or the data (61_platform_units.md R991). -/
def Selects (x : Xlen) (o : Seen) (ct : BitVec 3) (w q : Nat) : Prop :=
  (ct = 1 ∧ w = x.bits ∧ q = o.fetchEa.toNat) ∨
  ∃ d, o.access = some d ∧
    ((((ct = 2 ∧ d.store = false) ∨ (ct = 3 ∧ d.store = true) ∨ ct = 6) ∧ w = x.bits ∧ q = d.ea.toNat) ∨
     (((ct = 4 ∧ d.store = false) ∨ (ct = 5 ∧ d.store = true) ∨ ct = 7) ∧ w = 8 * d.size ∧ d.data = some q))

/-- `Match_n`: pair `n` is implemented, DCR[CT] selects a quantity, and quantity CC DVR holds of the two as signed or unsigned integers as
DCR[SC] says; "Masked" and the reserved code never hold (61_platform_units.md R986, R987, R991). That each is as wide as it is, is the
model's choice (entry 21). -/
def PairMatches (s : State) (o : Seen) (n : BitVec 3) : Prop :=
  let dcr := s.dcr.at n
  let cc := dcr.extractLsb' 1 3
  n.toNat ≤ s.cfg.ndp.toNat ∧ ∃ w q, Selects s.cfg.xlen o (dcr.extractLsb' 5 3) w q ∧
    let a : Int := if dcr.getLsbD 4 then (BitVec.ofNat w q).toInt else q
    let b : Int := if dcr.getLsbD 4 then (s.dvr.at n).toInt else (s.dvr.at n).toNat
    (cc = 1 ∧ a = b) ∨ (cc = 2 ∧ a < b) ∨ (cc = 3 ∧ a ≤ b) ∨ (cc = 4 ∧ b < a) ∨ (cc = 5 ∧ b ≤ a) ∨ (cc = 6 ∧ a ≠ b)

/-- Instruction `i`, which leaves `t`, has had its effect in `s`: it has completed; or it is `l.rfe` in supervisor mode; or `l.sys` or
`l.trap` whose exception is entered; or it traps after it has written its results, with Range or Floating Point (60_exceptions.md
R856, R857, R875). -/
def HadEffect (i : Instr) (s t : State) : Prop :=
  (t.hist ≠ .entered ∧ t.debugStopped = false) ∨
  (Ready i s ∧ ((i = .lRfe ∧ s.sr.getLsbD 0 = true) ∨ ((∃ k, i = .lSys k ∨ i = .lTrap k) ∧ t.debugStopped = false) ∨
    Instr.trapsAfterEffect i = true))

/-! ## User mode -/

/-- The addresses that user mode may access: MACLO and MACHI; FPCSR, the performance counters and TTCR while SR[SUMRA] = 1; the cache block
registers but DCBIR; each where it is implemented (10_state.md R51, R52, R54; 92_eei_decisions.md D4). Every other address is
closed. -/
def userOpen (s : State) (a : BitVec 16) : Bool :=
  let c := s.cfg
  (c.mp && (a == 0x2801 || a == 0x2802)) ||
  (s.sr.getLsbD 16 &&
    (((c.orfpx32 || c.orfpx64) && a == 0x0014) || (c.ttp && a == 0x5001) ||
     (c.pcup && decide (0x3800 ≤ a.toNat ∧ a.toNat ≤ 0x3800 + c.npc.toNat)))) ||
  (c.dcp && ((c.dc.cbpri && a == 0x1801) || (c.dc.cbfri && a == 0x1802) || (c.dc.cbwbri && a == 0x1804) ||
    (c.dc.cblri && a == 0x1805))) ||
  (c.icp && ((c.ic.cbpri && a == 0x2001) || (c.ic.cbiri && a == 0x2002) || (c.ic.cblri && a == 0x2003)))

/-- At most one entry of a bank of translate registers has changed, and in it only A, or A and D, have been set (20_memory.md R261). -/
def PageHistory {n : Nat} (old new : Bank n Word32) : Prop :=
  ∃ i, (new.at i = old.at i ∨ new.at i = old.at i ||| 0x10 ∨ new.at i = old.at i ||| 0x30) ∧
    ∀ j, j ≠ i → new.at j = old.at j

/-- The access to data that an instruction makes: its kind, the base register, the offset and the number of bytes
(43_orbis_loadstore.md R500, R504-R516). -/
def Instr.dataAccess : Instr → Option (Access × Reg × BitVec 16 × Nat)
  | .lLbz _ ra d => some (.load, ra, d, 1)
  | .lLbs _ ra d => some (.load, ra, d, 1)
  | .lLhz _ ra d => some (.load, ra, d, 2)
  | .lLhs _ ra d => some (.load, ra, d, 2)
  | .lLwz _ ra d => some (.load, ra, d, 4)
  | .lLws _ ra d => some (.load, ra, d, 4)
  | .lLwa _ ra d => some (.load, ra, d, 4)
  | .lLd _ ra d => some (.load, ra, d, 8)
  | .lSb ra _ d => some (.store, ra, d, 1)
  | .lSh ra _ d => some (.store, ra, d, 2)
  | .lSw ra _ d => some (.store, ra, d, 4)
  | .lSwa ra _ d => some (.store, ra, d, 4)
  | .lSd ra _ d => some (.store, ra, d, 8)
  | _ => none

/-- What instruction `i` may change in memory, in the OMPIC and in the data MMU. One that is no load or store: nothing. A load or store,
unless it changes nothing: the page history that the translation of its effective address gives; a store the bytes at that
address too, or the OMPIC where they are its registers (20_memory.md R210, R211, R261). -/
def TouchesOnly (i : Instr) (s t : State) : Prop :=
  let same := t.mem = s.mem ∧ t.ompic = s.ompic ∧ t.dtlbtr = s.dtlbtr ∧ t.datbtr = s.datbtr
  match Instr.dataAccess i with
  | none => same
  | some (k, ra, d, n) =>
    let ea := trunc s.cfg.xlen (s.gpr ra + d.signExtend 64)
    same ∨ ∃ l, translate s k ea n = .ok l ∧ t.dtlbtr = l.state.dtlbtr ∧ t.datbtr = l.state.datbtr ∧
      (k = .load → t.mem = s.mem ∧ t.ompic = s.ompic) ∧
      (∀ a, t.mem.read a ≠ s.mem.read a → locate s .store ea n = .ok l ∧ a ∈ l.addrs) ∧
      (t.ompic ≠ s.ompic → locate s .store ea n = .ok l ∧ ∃ a ∈ l.addrs, inOmpic s.cfg a = true)

/-- What instruction `i` in user mode may change at most: the general registers of the current context, the sequencing of `pc`, SR[F],
SR[CY] and SR[OV], the accumulator, the floating-point flags, what its own access to memory touches (`TouchesOnly`), with the
reservation and the latches its line sets; AESR only by an arithmetic exception, DRR only by a stop for the debugger
(10_state.md R51, R54; 60_exceptions.md R890, R891). -/
def UserSame (i : Instr) (s t : State) : Prop :=
  t.sr &&& ~~~0xE00 = s.sr &&& ~~~0xE00 ∧ t.fpcsr &&& 0x7 = s.fpcsr &&& 0x7 ∧
  (∀ j : BitVec 9, (∀ r, j ≠ gprIndex s.ctx r) → t.gprs.at j = s.gprs.at j) ∧
  PageHistory s.dtlbtr t.dtlbtr ∧ PageHistory s.datbtr t.datbtr ∧ TouchesOnly i s t ∧
  (t.aesr ≠ s.aesr → s.cfg.hasAecr = true ∧ s.ove = true) ∧ t.aesr &&& s.aesr = s.aesr ∧
  ((t.drr = s.drr ∧ t.debugStopped = s.debugStopped) ∨
    ∃ x, s.redirects x = true ∧ t.drr = setBit s.drr x.dsrBit true ∧ t.debugStopped = true) ∧
  t.picLatch = s.picLatch ||| (t.irqLines &&& ~~~s.irqLines &&& s.cfg.picEdge) ∧
  t = { s.seqOf t with
    gprs := t.gprs, sr := t.sr, aesr := t.aesr, fpcsr := t.fpcsr, machi := t.machi, maclo := t.maclo
    dtlbtr := t.dtlbtr, datbtr := t.datbtr, drr := t.drr, debugStopped := t.debugStopped
    picLatch := t.picLatch, resv := t.resv, ompic := t.ompic, mem := t.mem, stale := t.stale, freeCtr := t.freeCtr }

/-! ## Runs -/

/-- `k` steps from `s` without a fault or a refusal. -/
def RunsFor (k : Nat) (s : State) : Prop := ∃ t, Host.Core.run core k s = .next t

end Sys2Proof.Machine
end

