-- ==== Sys2Proof/Certificates/Slice0/Obligations.lean ====
section
/-! DEFINITION. The statements for the provers. Each docstring names the rules of spec/ it formalises. `Ready`, `WritesOnly`
and the other terms are defined in Sys2Proof/Safety.lean. -/

open Sys2Proof Sys2Proof.Machine

/-! ## Encoding -/

/-- Decoding the encoding of any instruction gives it back: no operand bit is dropped (30_encoding.md R300-R320). -/
def Obligations.DecodeInvertsEncode : Prop := ∀ i : Instr, decodeWord (encode i) = some i

/-- The same through bytes: an encoded instruction is read from the first four bytes, and the rest is handed back
(30_encoding.md R300). -/
def Obligations.BytesRoundTrip : Prop :=
  ∀ (i : Instr) (rest : List Byte), decodeBytes (encodeBytes i ++ rest) = .ok (i, rest)

/-- Reserved bits are ignored on decoding: one instruction of every format of R303 that has some (30_encoding.md R302, R303,
R311-R320, R330; 92_eei_decisions.md D17). -/
def Obligations.ReservedBitsIgnored : Prop :=
  ∀ (rd ra rb : Reg) (k : BitVec 16) (l : BitVec 6) (x : Word32),
    decodeWord (encode (.lAdd rd ra rb) ||| (x &&& 0x000004F0)) = some (.lAdd rd ra rb) ∧
    decodeWord (encode (.lMuld ra rb) ||| (x &&& 0x03E004F0)) = some (.lMuld ra rb) ∧
    decodeWord (encode (.lFf1 rd ra) ||| (x &&& 0x0000FCF0)) = some (.lFf1 rd ra) ∧
    decodeWord (encode (.lSll rd ra rb) ||| (x &&& 0x00000430)) = some (.lSll rd ra rb) ∧
    decodeWord (encode (.lExtbs rd ra) ||| (x &&& 0x0000FC30)) = some (.lExtbs rd ra) ∧
    decodeWord (encode (.lSlli rd ra l) ||| (x &&& 0x0000FF00)) = some (.lSlli rd ra l) ∧
    decodeWord (encode (.lMac ra rb) ||| (x &&& 0x03E007F0)) = some (.lMac ra rb) ∧
    decodeWord (encode (.lMaci ra k) ||| (x &&& 0x03E00000)) = some (.lMaci ra k) ∧
    decodeWord (encode (.lSfeq ra rb) ||| (x &&& 0x000007FF)) = some (.lSfeq ra rb) ∧
    decodeWord (encode (.lMovhi rd k) ||| (x &&& 0x001E0000)) = some (.lMovhi rd k) ∧
    decodeWord (encode (.lMacrc rd) ||| (x &&& 0x001E0000)) = some (.lMacrc rd) ∧
    decodeWord (encode (.lJr rb) ||| (x &&& 0x03FF07FF)) = some (.lJr rb) ∧
    decodeWord (encode .lRfe ||| (x &&& 0x03FFFFFF)) = some .lRfe ∧
    decodeWord (encode (.lNop k) ||| (x &&& 0x00FF0000)) = some (.lNop k) ∧
    decodeWord (encode (.lfAddS rd ra rb) ||| (x &&& 0x00000700)) = some (.lfAddS rd ra rb) ∧
    decodeWord (encode (.lfItofS rd ra) ||| (x &&& 0x00000700)) = some (.lfItofS rd ra) ∧
    decodeWord (encode (.lfSfeqS ra rb) ||| (x &&& 0x03E00700)) = some (.lfSfeqS ra rb) ∧
    decodeWord (encode (.lfCust1S ra rb) ||| (x &&& 0x03E0070F)) = some (.lfCust1S ra rb) ∧
    decodeWord (encode (.lvAddB rd ra rb) ||| (x &&& 0x00000700)) = some (.lvAddB rd ra rb) ∧
    decodeWord (encode .lvCust1 ||| (x &&& 0x03FFFF0F)) = some .lvCust1

/-- Words written out from the spec's encodings decode to the instructions they stand for, one of each family. Those of `l.add`, `l.mac`,
`l.and`, `l.sfeq`, `l.lwz`, `l.j`, `lf.add.s` and `lv.add.b` are printed as examples in the rules (40 R353, R366; 41 R402; 42 R453; 43
R509; 44 R552; 45 R610; 46 R690); those of `l.sw`, `l.sys` and `l.mtspr` follow from the formats and immediates of 30_encoding.md R303,
R304 and R313. -/
def Obligations.SampleWords : Prop :=
  decodeWord 0xE0642800 = some (.lAdd 3 4 5) ∧ decodeWord 0xC4042801 = some (.lMac 4 5) ∧
  decodeWord 0xE0642803 = some (.lAnd 3 4 5) ∧ decodeWord 0xE4042800 = some (.lSfeq 4 5) ∧
  decodeWord 0x8464FFFC = some (.lLwz 3 4 0xFFFC) ∧ decodeWord 0xD5E42FFC = some (.lSw 4 5 0x7FFC) ∧
  decodeWord 0x03FFFFFF = some (.lJ 0x3FFFFFF) ∧ decodeWord 0x2000FFFF = some (.lSys 0xFFFF) ∧
  decodeWord 0xC0A42801 = some (.lMtspr 4 5 0x2801) ∧ decodeWord 0xC8642800 = some (.lfAddS 3 4 5) ∧
  decodeWord 0x28642830 = some (.lvAddB 3 4 5)

/-- A word that matches no row raises Illegal Instruction, with EPCR and EEAR its own address outside a delay slot
(30_encoding.md R331; 60_exceptions.md R853, R861, R863). -/
def Obligations.UnallocatedWordTraps : Prop :=
  ∀ (s : State) (w : Word32), (∀ r ∈ opcodeTable, w &&& r.mask ≠ r.pattern) → s.redirects .illegal = false →
    ∃ t, executeWord w s = .next t ∧ Enters s t .illegal s.pc

/-- An instruction that the implementation does not have raises Illegal Instruction before any effect, and one that uses a register
number the implementation does not have raises Range before any effect (30_encoding.md R333; 60_exceptions.md R853 (b), R857;
10_state.md R44): every register field but the data register of a load or store, whose Range comes after the conditions of the
access (`AccessTraps`), and the data register of a special-register move that the mode may make (R870).
THE MODEL'S CHOICE, not the spec's (entry 17): that the D field of `lf.madd` counts as a used register (DESIGN CHOICE), and
that of a special-register move the right to access comes before its data register (DEDUCED). -/
def Obligations.AbsentInstructionTraps : Prop :=
  ∀ (s : State) (i : Instr), s.blocked = none →
    (present s.cfg i = false → s.redirects .illegal = false →
      ∃ t, exec i s = .next t ∧ Enters s t .illegal s.pc) ∧
    (present s.cfg i = true → s.cfg.ngpr16 = true → (∃ r ∈ Instr.regsNow i, 16 ≤ r.toNat) → s.redirects .range = false →
      ∃ t, exec i s = .next t ∧ Enters s t .range 0) ∧
    (∀ (r ra : Reg) (k : BitVec 16), i = .lMfspr r ra k ∨ i = .lMtspr ra r k → present s.cfg i = true →
      s.cfg.ngpr16 = true → ra.toNat < 16 → 16 ≤ r.toNat → s.redirects .range = false →
      let a := ((s.gpr ra ||| k.setWidth 64).setWidth 16 : BitVec 16)
      s.sr.getLsbD 0 = true ∨ (s.cfg.mp = true ∧ (a = 0x2801 ∨ a = 0x2802)) →
      ∃ t, exec i s = .next t ∧ Enters s t .range 0)

/-! ## Memory -/

/-- The bytes of a value, stored at distinct addresses most significant first, read back as the value (20_memory.md
R202). -/
def Obligations.StoredValueReadsBack : Prop :=
  ∀ (m : Memory) (as : List Nat) (v : Word), m.wf = true → as.Nodup →
    ofBytes (as.map (m.writeAll (as.zip (toBytes as.length v))).read) = v.toNat % 2 ^ (8 * as.length) ∧
    ∀ a, a ∉ as → (m.writeAll (as.zip (toBytes as.length v))).read a = m.read a

/-! ## Reset and the invariant -/

/-- The state after reset of any implementation: what 70_reset_and_hazards.md R1050 and R1051 give, field by field where the rest of
a register is not stated. A step with the reset input asserted, whatever the core was doing, leaves that state, but for memory and the
interrupt lines, which are as the environment's part of the step leaves them (61_platform_units.md R1031; DEDUCED, entry 35). That a
set DSR[RSTE] does not hand the reset to the development interface is the model's reading (R995; DEDUCED, entry 48). That the model's own
fields are so too, the coming inputs, the replaced instruction words and the counters of ticks and free values, is its choice (entries
8, 11, 12, 38). -/
def Obligations.ResetValues : Prop :=
  (∀ c : Config, let s := State.resetFor c
    s.sr = 0x00008001 ∧ s.dsPending = false ∧ s.dsTarget = 0 ∧
    s.pc = zext32 ((if c.hasEvbar then c.evbarReset &&& 0xFFFFE000 else 0) ||| 0x100) ∧
    (∀ i, s.epcr.at i = 0 ∧ s.eear.at i = 0 ∧ s.esr.at i = 0) ∧
    s.fpcsr = 0 ∧ s.aecr = 0 ∧ s.aesr = 0 ∧ s.resv = none ∧ s.evbar = c.evbarReset &&& 0xFFFFE000 ∧
    s.dmmucr.extractLsb' 10 22 = 0 ∧ s.immucr.extractLsb' 10 22 = 0 ∧ s.dmmucr.getLsbD 0 = false ∧
    s.immucr.getLsbD 0 = false ∧ s.dmmupr.extractLsb' 0 28 = 0 ∧ s.immupr.extractLsb' 0 14 = 0 ∧
    (∀ i, ∀ r ∈ [s.dtlbmr.at i, s.itlbmr.at i], r.extractLsb' 0 2 = 0 ∧ r.extractLsb' 6 2 = 0) ∧
    (∀ i, ∀ r ∈ [s.datbmr.at i, s.iatbmr.at i], r.extractLsb' 0 6 = 0) ∧
    s.dccr.extractLsb' 0 8 = 0 ∧ s.iccr.extractLsb' 0 8 = 0 ∧
    (∀ i, s.dvr.at i = 0 ∧ (s.dcr.at i).extractLsb' 1 7 = 0) ∧ s.dmr1.extractLsb' 0 24 = 0 ∧ s.dmr2 = 0 ∧
    (∀ i, s.dwcr.at i = 0) ∧ s.dsr.extractLsb' 0 14 = 0 ∧ s.drr.extractLsb' 0 14 = 0 ∧
    (∀ i, s.pccr.at i = 0 ∧ (s.pcmr.at i).extractLsb' 1 25 = 0) ∧ s.pmr.extractLsb' 0 8 = 0 ∧
    s.picmr = (if c.picNmi then 3 else 0) ∧ s.picLatch = 0 ∧ s.ttmr.extractLsb' 28 4 = 0 ∧ s.ttcr = 0 ∧
    (∀ w ∈ s.ompic, w.extractLsb' 0 31 = 0)) ∧
  ∀ s : State, s.resetAsserted = true → let e := s.environment
    step s = .next { State.resetFor s.cfg with
      irqIn := e.irqIn, mem := e.mem, stale := e.stale, inputs := e.inputs, tickWait := e.tickWait, freeCtr := e.freeCtr }

/-- The invariant holds after reset, for every implementation. `Inv` names the rules. THE MODEL'S CHOICE, not the spec's, is that the
reserved bits of DSR, DRR and PMR are zero after reset, where the rules print X (DESIGN CHOICE, entry 6). -/
def Obligations.ResetInv : Prop := Inv State.reset ∧ ∀ c : Config, Inv (State.resetFor c)

/-- Every step from a state with the invariant gives a state with it: the canonical memory, the alignment of `pc`, the
widths of the registers, the fixed and reserved bits (`Inv` names the rules). That the reserved bits of DSR, DRR and PMR stay zero is
the model's choice (DESIGN CHOICE, entry 6). -/
def Obligations.StepKeepsInv : Prop := ∀ s t : State, Inv s → step s = .next t → Inv t

/-- No step changes what the implementation is (00_scope.md R8: the parameters are fixed). -/
def Obligations.StepKeepsConfig : Prop := ∀ s t : State, step s = .next t → t.cfg = s.cfg

/-! ## The step -/

/-- A step runs the decoded instruction: after the environment has acted, with the core awake, no refusal pending, no interrupt recognised,
and a fetched word that decodes to `i`, the step is `exec i` at the state with the fetch's page history (44_orbis_control_system.md R551,
60_exceptions.md R871, 20_memory.md R212). Where the debug unit has watchpoint counters, they count around it: it changes the counters and
how many free values are drawn, and nothing else. Counting adds to the COUNT of an enabled counter the number of firing watchpoints that
DMR2[AWTC] assigns to it (61_platform_units.md R986, R993, R994). An instruction that has its effect counts once, before or after it (R986,
R987); that `l.sys`, `l.trap` and those that trap after writing their results have theirs is the model's reading (`HadEffect`, DEDUCED,
entry 21), and that one which an exception keeps from its effect may count or not is the model's choice (entry 21). Uncombined, watchpoint n
fires where pair n matches: DCR[CC] holds of the quantity that DCR[CT] selects and DVR, signed or not as DCR[SC] says (R987, R991; the
widths, and that a conditional store which fails is a store, are the model's choice, entry 21). Uncombined, watchpoint 8 + j fires when what
the other watchpoints add makes COUNT of the enabled counter j reach MATCH (R992, R994); where COUNT equals MATCH already, it fires as the
parameter `counterLevel` says: the model's choice (R987, entry 21). -/
def Obligations.StepRunsDecoded : Prop :=
  (∀ (s u : State) (w : Word32) (i : Instr),
    s.resetAsserted = false → s.environment.debugStopped = false → s.environment.paused = none →
    s.environment.blocked = none → s.environment.interrupt = none → s.environment.fetch = .ok (w, u) →
    decodeWord w = some i →
    ((u.cfg.dup && u.cfg.wpci) = false → step s = exec i u) ∧
    (∀ v, u.watching = false → exec i u = .next v → v.watching = false → step s = .next v) ∧
    (u.watching = true → let o := u.seen (some i)
      step s = exec i (u.draw.2.countWatchpoints o u.draw.1) ∨
      ∀ v, exec i u.draw.2 = .next v → v.watching = true → HadEffect i u v →
        step s = .next (v.draw.2.countWatchpoints o v.draw.1)) ∧
    (∀ t, step s = .next t → ∃ (v : State) (d : Bank 1 Word32) (n : Nat),
      exec i { u with dwcr := d, freeCtr := n } = .next v ∧ t = { v with dwcr := t.dwcr, freeCtr := t.freeCtr })) ∧
  (∀ (s : State) (o : Seen) (f : Word) (j : BitVec 1),
    let old := s.dwcr.at j
    let new := (s.countWatchpoints o f).dwcr.at j
    let fired := (List.range 10).filter fun n => s.watchpoint o f n && (s.dmr2.getLsbD (2 + n) == j.getLsbD 0)
    new.extractLsb' 16 16 = old.extractLsb' 16 16 ∧
    new.extractLsb' 0 16 =
      old.extractLsb' 0 16 + (if s.dmr2.getLsbD j.toNat then BitVec.ofNat 16 fired.length else 0) ∧
    s.countWatchpoints o f = { s with dwcr := (s.countWatchpoints o f).dwcr }) ∧
  (∀ (s : State) (o : Seen) (f : Word) (n : Nat), n < 8 → s.dmr1.extractLsb' (2 * n) 2 = 0 →
    (s.watchpoint o f n = true ↔ PairMatches s o (BitVec.ofNat 3 n))) ∧
  (∀ (s : State) (i : Instr), (s.seen (some i)).fetchEa = s.pc ∧
    match Instr.dataAccess i with
    | none => (s.seen (some i)).access = none
    | some (k, ra, d, n) => ∃ a, (s.seen (some i)).access = some a ∧ a.store = (k == .store) ∧
        a.ea = trunc s.cfg.xlen (s.gpr ra + d.signExtend 64) ∧ a.size = n ∧
        (k = .load → ∀ r, s.memRead a.ea n = .ok r → a.data = some r.1) ∧
        (k = .store → ∀ rb, i ∈ [.lSb ra rb d, .lSh ra rb d, .lSw ra rb d, .lSwa ra rb d, .lSd ra rb d] →
          a.data = some ((s.gpr rb).toNat % 2 ^ (8 * n)))) ∧
  (∀ (s : State) (o : Seen) (f : Word) (j : BitVec 1),
    let own := 8 + j.toNat
    let count := ((s.dwcr.at j).extractLsb' 0 16).toNat
    let goal := ((s.dwcr.at j).extractLsb' 16 16).toNat
    let added := ((List.range 10).filter fun n =>
      n != own && s.watchpoint o f n && (s.dmr2.getLsbD (2 + n) == j.getLsbD 0)).length
    s.dmr1.extractLsb' (2 * own) 2 = 0 →
    (count = goal → s.watchpoint o f own = s.cfg.counterLevel) ∧
    (count ≠ goal → (s.watchpoint o f own = true ↔
      s.dmr2.getLsbD j.toNat = true ∧ ∃ k, 0 < k ∧ k ≤ added ∧ (count + k) % 2 ^ 16 = goal)))

/-- With the instruction MMU off and XLEN = 32 the fetched word is the four bytes at `pc`, the lowest address most significant, and the
fetch changes nothing (20_memory.md R202, R212; 30_encoding.md R300). Where the word has been replaced and the coherence sequence has not
been carried out on a machine with an instruction cache, the fetch gives that word or one of the replaced ones, which one is open (R269,
R282; 93_implementation_defined.md U30; entry 38). The same of any fetch, of both widths and translated or not, whose bytes lie at one
place, with the page history of its entry (R261). From a page with CI = 1, which is past all caches (R286), a replaced word that only the
instruction cache may hold is not among them: the fetch gives the word in memory once main memory holds it and the pipeline has been
flushed. Where the address does not translate the fetch raises that exception, and where it translates to bytes that do not exist, Bus
Error; either is entered with EEAR the address fetched (R212; 60_exceptions.md R846, R848, R854, R863).
THE MODEL'S CHOICE, not the spec's: that with CI = 1 the sequence ends with the flush of the pipeline after the write-back and the wait,
without an invalidation (DESIGN CHOICE, entry 38); that a translated fetch which ends in Bus Error sets no A bit (DEDUCED, entry 18); that
a fetch of an OMPIC register reads it like a load of a word, and a cached one is refused (DEDUCED, entry 23; 93_implementation_defined.md
U18). -/
def Obligations.FetchReadsMemory : Prop :=
  (∀ s : State, s.cfg.xlen = .x32 → s.translates .fetch = false → s.pc.toNat < 2 ^ 32 → s.pc.toNat % 4 = 0 →
    (∀ k < 4, byteValid s.cfg (s.pc.toNat + k) = true ∧ inOmpic s.cfg (s.pc.toNat + k) = false) →
    let new := s.mem.read s.pc.toNat ++ s.mem.read (s.pc.toNat + 1) ++ s.mem.read (s.pc.toNat + 2) ++
      s.mem.read (s.pc.toNat + 3)
    ((∀ e ∈ s.stale, e.addr ≠ s.pc.toNat) → s.fetch = .ok (new, s)) ∧
    ((∃ e ∈ s.stale, e.addr = s.pc.toNat) →
      ∃ w, s.fetch = .ok (w, { s with freeCtr := s.freeCtr + 1 }) ∧
        (w = new ∨ ∃ e ∈ s.stale, e.addr = s.pc.toNat ∧ w = e.old))) ∧
  (∀ (s : State) (l : Located), translate s .fetch (trunc s.cfg.xlen s.pc) 4 = .ok l → l.inhibited = true →
    (∀ a ∈ l.addrs, byteValid s.cfg a = true ∧ inOmpic s.cfg a = false) →
    (∀ e ∈ s.stale, l.addrs.head? = some e.addr → e.stage = .flushed) →
    s.fetch = .ok (BitVec.ofNat 32 (ofBytes (l.addrs.map s.mem.read)), l.state)) ∧
  (∀ (s : State) (l : Located) (a : Nat), translate s .fetch (trunc s.cfg.xlen s.pc) 4 = .ok l →
    l.addrs = [a, a + 1, a + 2, a + 3] → (∀ k < 4, byteValid s.cfg (a + k) = true ∧ inOmpic s.cfg (a + k) = false) →
    let new := s.mem.read a ++ s.mem.read (a + 1) ++ s.mem.read (a + 2) ++ s.mem.read (a + 3)
    let seen := fun e : StaleWord => e ∈ s.stale ∧ e.addr = a ∧ (l.inhibited = true → e.stage ≠ .flushed)
    ((∀ e, ¬ seen e) → s.fetch = .ok (new, l.state)) ∧
    ((∃ e, seen e) → ∃ w, s.fetch = .ok (w, { l.state with freeCtr := s.freeCtr + 1 }) ∧
      (w = new ∨ ∃ e, seen e ∧ w = e.old))) ∧
  (∀ (s : State) (l : Located) (b n : Nat), translate s .fetch (trunc s.cfg.xlen s.pc) 4 = .ok l →
    s.cfg.ompicBase = some b → n < s.cfg.numCores →
    (l.cached = false → l.addrs = [b + 8 * n + 4, b + 8 * n + 5, b + 8 * n + 6, b + 8 * n + 7] →
      s.fetch = .ok (s.ompic.getD n 0 &&& 0x7FFFFFFF, l.state)) ∧
    (l.cached = false → l.addrs = [b + 8 * n, b + 8 * n + 1, b + 8 * n + 2, b + 8 * n + 3] → s.fetch = .ok (0, l.state)) ∧
    (l.cached = true → (∀ a ∈ l.addrs, byteValid s.cfg a = true) → (∃ a ∈ l.addrs, inOmpic s.cfg a = true) →
      s.fetch = .refuse .ompicAccess)) ∧
  (∀ (s : State) (x : Exc), s.redirects x = false →
    let pc := trunc s.cfg.xlen s.pc
    (translate s .fetch pc 4 = .raise x pc ∨
      (x = .busError ∧ ∃ l, translate s .fetch pc 4 = .ok l ∧ ∃ a ∈ l.addrs, byteValid s.cfg a = false)) →
    ∃ t, fetchAndExecute s = .next t ∧ Enters s t x pc)

/-- What the core does between two instructions. In suspend mode it waits; in sleep mode until the PIC's output, in doze mode until
that or TTMR[IP], which end the mode (61_platform_units.md R1022; where SME and DME are both set, ending both is the model's choice,
entry 22). Awake, it recognises Tick Timer while SR[TEE] and TTMR[IP], else External Interrupt while SR[IEE] and the PIC's
output, else it goes on with the instruction at `pc` (60_exceptions.md R871, R872); either stops the core instead where DSR says so
(R995). Without a tick timer no tick is pending (R950, R955); without a PIC interrupt line 0 is the request (R942-R944). -/
def Obligations.InterruptRecognition : Prop :=
  ∀ s : State, s.debugStopped = false →
    let tick := s.cfg.ttp && s.ttmr.getLsbD 28
    let picsr := (s.irqLines &&& ~~~s.cfg.picEdge) ||| (s.picLatch &&& s.cfg.picEdge)
    let picmr := s.picmr ||| (if s.cfg.picNmi then 3 else 0)
    let pic := if s.cfg.picp then picsr &&& picmr != 0 else s.irqLines.getLsbD 0
    (s.cfg.pmp = true →
      (s.pmr.getLsbD 7 = true → coreStep s = .next s) ∧
      (s.pmr.getLsbD 7 = false → s.pmr.getLsbD 5 = true →
        (pic = false → coreStep s = .next s) ∧
        (pic = true → coreStep s = .next { s with pmr := s.pmr &&& 0xFFFFFFCF })) ∧
      (s.pmr.getLsbD 7 = false → s.pmr.getLsbD 5 = false → s.pmr.getLsbD 4 = true →
        (pic = false → tick = false → coreStep s = .next s) ∧
        (pic = true ∨ tick = true → coreStep s = .next { s with pmr := s.pmr &&& 0xFFFFFFEF }))) ∧
    (s.cfg.pmp = false ∨ (s.pmr.getLsbD 7 = false ∧ s.pmr.getLsbD 5 = false ∧ s.pmr.getLsbD 4 = false) →
      s.blocked = none →
      ((s.sr.getLsbD 1 && tick) = true → ∃ t, coreStep s = .next t ∧ Raises s t .tickTimer 0) ∧
      ((s.sr.getLsbD 1 && tick) = false → (s.sr.getLsbD 2 && pic) = true →
        ∃ t, coreStep s = .next t ∧ Raises s t .extInt 0) ∧
      ((s.sr.getLsbD 1 && tick) = false → (s.sr.getLsbD 2 && pic) = false → coreStep s = fetchAndExecute s))

/-- One tick of the timer (61_platform_units.md R953): stopped when disabled or a one-shot at its match; else the
counter advances, the match event sets IP where IE is set and restarts the counter in mode 1, and nothing else
changes. With no input left, a timer that counts ticks after a number of steps that nothing determines, then again: ticks keep
happening (R953, 70_reset_and_hazards.md R1075; entry 11). -/
def Obligations.TimerTickRule : Prop :=
  (∀ s : State, s.cfg.ttp = true →
    let m := s.ttmr.extractLsb' 30 2
    let hit := (s.ttcr + 1).extractLsb' 0 28 = s.ttmr.extractLsb' 0 28
    (m = 0 ∨ (m = 2 ∧ s.ttcr.extractLsb' 0 28 = s.ttmr.extractLsb' 0 28) → s.timerTick = s) ∧
    (m ≠ 0 → ¬ (m = 2 ∧ s.ttcr.extractLsb' 0 28 = s.ttmr.extractLsb' 0 28) →
      (hit → m = 1 → s.timerTick.ttcr = 0) ∧
      (¬ (hit ∧ m = 1) → s.timerTick.ttcr = s.ttcr + 1) ∧
      (hit → s.ttmr.getLsbD 29 = true → s.timerTick.ttmr = s.ttmr ||| 0x10000000) ∧
      (¬ (hit ∧ s.ttmr.getLsbD 29 = true) → s.timerTick.ttmr = s.ttmr) ∧
      s.timerTick = { s with ttcr := s.timerTick.ttcr, ttmr := s.timerTick.ttmr })) ∧
  (∀ s : State, s.inputs = [] → s.timerRuns = true → s.clockStopped = false →
    (∀ n, s.tickWait = some (n + 1) → s.environment = { s with tickWait := some n }) ∧
    (s.tickWait = some 0 → ∃ k, 0 < k ∧
      s.environment = State.timerTicks k { s with tickWait := none, freeCtr := s.freeCtr + 1 }) ∧
    (s.tickWait = none → ∃ n, s.environment =
      State.environment { s with tickWait := some n, freeCtr := s.freeCtr + 1 }))

/-! ## Exceptions -/

/-- The new SR at the entry of any exception (60_exceptions.md R862). With fast context switching, that is NSGF > 0 and SR[CE] = 1, SR[CID]
is incremented, but at CID = NSGF, where Range is entered in the same context; without it SR[CID] stays (R880, R881, R883;
92_eei_decisions.md D33). -/
def Obligations.EntrySr : Prop :=
  ∀ (s : State) (x : Exc) (ea : Word), s.redirects x = false →
    let t := s.enter x ea
    t.sr.getLsbD 0 = true ∧ t.sr.getLsbD 1 = false ∧ t.sr.getLsbD 2 = false ∧ t.sr.getLsbD 5 = false ∧
    t.sr.getLsbD 6 = false ∧ t.sr.getLsbD 13 = s.dsPending ∧
    (t.sr.extractLsb' 28 4 =
      if s.cfg.nsgf ≠ 0 ∧ s.sr.getLsbD 8 = true ∧ s.sr.extractLsb' 28 4 ≠ s.cfg.nsgf then s.sr.extractLsb' 28 4 + 1
      else s.sr.extractLsb' 28 4) ∧
    t.sr &&& 0x0FFFDF98 = s.sr &&& 0x0FFFDF98

/-- The value saved in EPCR (60_exceptions.md R861, Table 6-3): in a delay slot the jump before it, which SR[DSX]
tells; else the next instruction for System Call and Floating Point, and the current one for every other exception. With
ND = 1 nothing is in a delay slot. Where all contexts are used Range is entered in place of `x`; that EPCR then takes the value of
`x`'s own kind is a decision of the spec (R883; 92_eei_decisions.md D33) as the model reads it (entry 42). The register is that of the
new context, CID + 1, with fast context switching, of the same one where all are used, and EPCR0 without (R880, R881, R883). -/
def Obligations.EntryEpcr : Prop :=
  ∀ (s : State) (x : Exc) (ea : Word), s.redirects x = false →
    let cid := s.sr.extractLsb' 28 4
    let ctx := if s.cfg.nsgf ≠ 0 ∧ s.sr.getLsbD 8 = true then (if cid = s.cfg.nsgf then cid else cid + 1) else 0
    (s.enter x ea).epcr.at ctx = trunc s.cfg.xlen
      (if s.dsPending then s.pc - 4
       else if x = .syscall ∨ x = .floatingPoint then s.pc + 4 else s.pc) ∧
    (s.enter x ea).sr.getLsbD 13 = s.dsPending ∧ (Inv s → s.cfg.nd = true → s.dsPending = false) ∧
    ∀ c, c ≠ ctx → (s.enter x ea).epcr.at c = s.epcr.at c

/-- The rest of the entry procedure (60_exceptions.md R860, R863, R864): ESR, EEAR, the vector, the pending jump, the
reservation; every other register and all of memory unchanged. With NSGF > 0, SR[CE] = 1 and CID below NSGF the new context is CID + 1:
it is SR[CID], and its registers take the saved values; without fast context switching context 0's do, and SR[CID] stays (R880, R881).
At CID = NSGF (R883; 92_eei_decisions.md D33) the context stays, the vector is Range's and EEAR is not written; that the saved values
are `x`'s is the model's reading (entry 42). Where there is a debug
unit and DSR has the exception's bit, nothing is entered: DRR gets that bit, the core stops, nothing else changes, and a
stopped core does no more (61_platform_units.md R995, R996; 93_implementation_defined.md U20). That the environment goes on while it is
stopped is the model's choice (DESIGN CHOICE, entry 31). -/
def Obligations.EntryFrame : Prop :=
  (∀ (s : State) (x : Exc) (ea : Word), Raises s (s.enter x ea) x ea) ∧
  (∀ (s : State) (x : Exc) (ea : Word), s.redirects x = false →
    let t := s.enter x ea
    let fast := s.cfg.nsgf ≠ 0 ∧ s.sr.getLsbD 8 = true
    let cid := s.sr.extractLsb' 28 4
    let faults := x ∈ [Exc.busError, .dataPageFault, .insnPageFault, .alignment, .illegal, .dtlbMiss, .itlbMiss]
    let saves := fun (n : BitVec 4) (y : Exc) => t.pc = s.vectorAddress y ∧ t.esr = s.esr.put n (zext32 s.sr) ∧
      t.gprs = s.gprs ∧ ∀ c, c ≠ n → t.epcr.at c = s.epcr.at c
    let addresses := fun (n : BitVec 4) =>
      (faults → t.eear = s.eear.put n (trunc s.cfg.xlen ea)) ∧ (¬ faults → t.eear = s.eear)
    (fast → cid.toNat < s.cfg.nsgf.toNat → t.sr.extractLsb' 28 4 = cid + 1 ∧ saves (cid + 1) x ∧ addresses (cid + 1)) ∧
    (fast → cid = s.cfg.nsgf → t.sr.extractLsb' 28 4 = cid ∧ saves cid .range ∧ t.eear = s.eear) ∧
    (¬ fast → t.sr.extractLsb' 28 4 = cid ∧ saves 0 x ∧ addresses 0)) ∧
  (∀ s : State, ∀ p ∈ [(Exc.busError, 1), (.dataPageFault, 2), (.insnPageFault, 3), (.tickTimer, 4), (.alignment, 5),
      (.illegal, 6), (.extInt, 7), (.dtlbMiss, 8), (.itlbMiss, 9), (.range, 10), (.syscall, 11), (.floatingPoint, 12),
      (.trap, 13)],
    (s.redirects p.1 = true ↔ s.cfg.dup = true ∧ s.dsr.getLsbD p.2 = true) ∧
    (s.redirects p.1 = true → ∀ ea, s.enter p.1 ea = { s with drr := s.drr ||| (1#32 <<< p.2), debugStopped := true })) ∧
  (∀ s : State, s.debugStopped = true → coreStep s = .next s ∧
    (s.resetAsserted = false → step s = .next s.environment ∧ s.environment.debugStopped = true))

/-- The vector addresses (60_exceptions.md R842, R864): the offset of each exception, ORed to EVBAR and to 0xF0000000
with SR[EPH] = 1; that of Reset is where a reset machine starts. -/
def Obligations.VectorAddresses : Prop :=
  (∀ c : Config, (State.resetFor c).pc =
    zext32 ((if c.hasEvbar then (State.resetFor c).evbar &&& 0xFFFFE000 else 0) |||
      (if (State.resetFor c).sr.getLsbD 14 then 0xF0000000 else 0) ||| 0x100)) ∧
  ∀ s : State,
    let base := (if s.cfg.hasEvbar then s.evbar &&& 0xFFFFE000 else 0) |||
      (if s.sr.getLsbD 14 then 0xF0000000 else 0)
    s.vectorAddress .busError = zext32 (base ||| 0x200) ∧ s.vectorAddress .dataPageFault = zext32 (base ||| 0x300) ∧
    s.vectorAddress .insnPageFault = zext32 (base ||| 0x400) ∧ s.vectorAddress .tickTimer = zext32 (base ||| 0x500) ∧
    s.vectorAddress .alignment = zext32 (base ||| 0x600) ∧ s.vectorAddress .illegal = zext32 (base ||| 0x700) ∧
    s.vectorAddress .extInt = zext32 (base ||| 0x800) ∧ s.vectorAddress .dtlbMiss = zext32 (base ||| 0x900) ∧
    s.vectorAddress .itlbMiss = zext32 (base ||| 0xA00) ∧ s.vectorAddress .range = zext32 (base ||| 0xB00) ∧
    s.vectorAddress .syscall = zext32 (base ||| 0xC00) ∧
    s.vectorAddress .floatingPoint = zext32 (base ||| 0xD00) ∧ s.vectorAddress .trap = zext32 (base ||| 0xE00)

/-- Returning from an exception as soon as it is entered restores SR as it was and `pc` from EPCR, in every context
(60_exceptions.md R875, R881, R882; 44_orbis_control_system.md R564). -/
def Obligations.EntryThenReturn : Prop :=
  ∀ (s : State) (x : Exc) (ea : Word), Inv s → s.redirects x = false →
    (s.enter x ea).leave.sr = s.sr ∧ (s.enter x ea).leave.pc = s.epcFor x ∧
    (s.enter x ea).leave.dsPending = false

/-! ## Integer arithmetic -/

/-- Additions with SR[OVE] = 0: the sum, CY on unsigned and OV on signed overflow, nothing else (40_orbis_arith.md
R350, R353-R356). -/
def Obligations.AddResults : Prop :=
  ∀ (s : State) (rd ra rb : Reg) (i : BitVec 16), s.ove = false →
    (Ready (.lAdd rd ra rb) s →
      ∃ t, exec (.lAdd rd ra rb) s = .next t ∧ AddsTo s t rd (s.gpr ra) (s.gpr rb) false) ∧
    (Ready (.lAddc rd ra rb) s →
      ∃ t, exec (.lAddc rd ra rb) s = .next t ∧ AddsTo s t rd (s.gpr ra) (s.gpr rb) (s.sr.getLsbD 10)) ∧
    (Ready (.lAddi rd ra i) s →
      ∃ t, exec (.lAddi rd ra i) s = .next t ∧ AddsTo s t rd (s.gpr ra) (trunc s.cfg.xlen (i.signExtend 64)) false) ∧
    (Ready (.lAddic rd ra i) s →
      ∃ t, exec (.lAddic rd ra i) s = .next t ∧
        AddsTo s t rd (s.gpr ra) (trunc s.cfg.xlen (i.signExtend 64)) (s.sr.getLsbD 10))

/-- Subtraction with SR[OVE] = 0: CY is the borrow, OV where the operands' signs differ and the result's differs from
rA's (40_orbis_arith.md R350, R357). -/
def Obligations.SubResult : Prop :=
  ∀ (s : State) (rd ra rb : Reg), s.ove = false → Ready (.lSub rd ra rb) s →
    ∃ t, exec (.lSub rd ra rb) s = .next t ∧ WritesRegSr 0xC00 s t rd (s.gpr ra - s.gpr rb) ∧
      t.carry = decide ((s.gpr ra).toNat < (s.gpr rb).toNat) ∧
      t.overflow = (signBit s.cfg.xlen (s.gpr ra) != signBit s.cfg.xlen (s.gpr rb) &&
        signBit s.cfg.xlen (s.gpr ra - s.gpr rb) != signBit s.cfg.xlen (s.gpr ra))

/-- Multiplications with SR[OVE] = 0: the low XLEN bits of the product; the signed ones write OV only, the unsigned
one CY only (40_orbis_arith.md R358-R360). -/
def Obligations.MulResults : Prop :=
  ∀ (s : State) (rd ra rb : Reg) (i : BitVec 16), s.ove = false →
    (Ready (.lMul rd ra rb) s →
      ∃ t, exec (.lMul rd ra rb) s = .next t ∧ WritesRegSr 0x800 s t rd (s.gpr ra * s.gpr rb) ∧
        (t.overflow = true ↔ sval s.cfg.xlen (s.gpr ra) * sval s.cfg.xlen (s.gpr rb) < -(2 ^ (s.cfg.xlen.bits - 1)) ∨
          2 ^ (s.cfg.xlen.bits - 1) ≤ sval s.cfg.xlen (s.gpr ra) * sval s.cfg.xlen (s.gpr rb))) ∧
    (Ready (.lMuli rd ra i) s →
      ∃ t, exec (.lMuli rd ra i) s = .next t ∧ WritesRegSr 0x800 s t rd (s.gpr ra * i.signExtend 64) ∧
        (t.overflow = true ↔ sval s.cfg.xlen (s.gpr ra) * i.toInt < -(2 ^ (s.cfg.xlen.bits - 1)) ∨
          2 ^ (s.cfg.xlen.bits - 1) ≤ sval s.cfg.xlen (s.gpr ra) * i.toInt)) ∧
    (Ready (.lMulu rd ra rb) s →
      ∃ t, exec (.lMulu rd ra rb) s = .next t ∧ WritesRegSr 0x400 s t rd (s.gpr ra * s.gpr rb) ∧
        (t.carry = true ↔ 2 ^ s.cfg.xlen.bits ≤ (s.gpr ra).toNat * (s.gpr rb).toNat))

/-- Divisions by a divisor that is not zero: the quotient truncated toward zero, its remainder of the dividend's sign
and smaller than the divisor; OV (signed) or CY (unsigned) is cleared, nothing else changes (40_orbis_arith.md
R361-R363). -/
def Obligations.DivResults : Prop :=
  ∀ (s : State) (rd ra rb : Reg),
    (Ready (.lDiv rd ra rb) s → sval s.cfg.xlen (s.gpr rb) ≠ 0 →
      ∃ (t : State) (q r : Int), exec (.lDiv rd ra rb) s = .next t ∧
        WritesRegSr 0x800 s t rd (BitVec.ofInt 64 q) ∧ t.overflow = false ∧
        sval s.cfg.xlen (s.gpr ra) = sval s.cfg.xlen (s.gpr rb) * q + r ∧
        r.natAbs < (sval s.cfg.xlen (s.gpr rb)).natAbs ∧
        (0 ≤ sval s.cfg.xlen (s.gpr ra) → 0 ≤ r) ∧ (sval s.cfg.xlen (s.gpr ra) ≤ 0 → r ≤ 0)) ∧
    (Ready (.lDivu rd ra rb) s → s.gpr rb ≠ 0 →
      ∃ (t : State) (q r : Nat), exec (.lDivu rd ra rb) s = .next t ∧
        WritesRegSr 0x400 s t rd (BitVec.ofNat 64 q) ∧ t.carry = false ∧
        (s.gpr ra).toNat = (s.gpr rb).toNat * q + r ∧ r < (s.gpr rb).toNat)

/-- Division by zero with SR[OVE] = 0: OV (`l.div`) or CY (`l.divu`) is set, rD holds some value, one free value has
been drawn, and nothing else changes (40_orbis_arith.md R361, R362, U4; entry 9). Nothing is said of the value. -/
def Obligations.DivByZero : Prop :=
  ∀ (s : State) (rd ra rb : Reg), s.ove = false → s.gpr rb = 0 →
    (Ready (.lDiv rd ra rb) s → ∃ (t : State) (v : Word), exec (.lDiv rd ra rb) s = .next t ∧ WritesReg s t rd v ∧
      t.overflow = true ∧ SrOutside 0x800 s t ∧ Completes s t ∧ MemSame s t ∧ t.freeCtr = s.freeCtr + 1 ∧
      t = { s.seqOf t with gprs := t.gprs, sr := t.sr, freeCtr := t.freeCtr }) ∧
    (Ready (.lDivu rd ra rb) s → ∃ (t : State) (v : Word), exec (.lDivu rd ra rb) s = .next t ∧ WritesReg s t rd v ∧
      t.carry = true ∧ SrOutside 0x400 s t ∧ Completes s t ∧ MemSame s t ∧ t.freeCtr = s.freeCtr + 1 ∧
      t = { s.seqOf t with gprs := t.gprs, sr := t.sr, freeCtr := t.freeCtr })

/-- Conditional move by SR[F]; find first and last one count from 1 and give 0 for a zero operand (40_orbis_arith.md
R376-R379). -/
def Obligations.MoveAndFindResults : Prop :=
  ∀ (s : State) (rd ra rb : Reg),
    (Ready (.lCmov rd ra rb) s → ∃ t, exec (.lCmov rd ra rb) s = .next t ∧
      WritesOnly s t rd (if s.sr.getLsbD 9 then s.gpr ra else s.gpr rb)) ∧
    (Ready (.lFf1 rd ra) s → ∃ (t : State) (n : Nat), exec (.lFf1 rd ra) s = .next t ∧
      WritesOnly s t rd (BitVec.ofNat 64 n) ∧
      ((s.gpr ra = 0 ∧ n = 0) ∨
        (0 < n ∧ n ≤ s.cfg.xlen.bits ∧ (s.gpr ra).getLsbD (n - 1) = true ∧
          ∀ k < n - 1, (s.gpr ra).getLsbD k = false))) ∧
    (Ready (.lFl1 rd ra) s → ∃ (t : State) (n : Nat), exec (.lFl1 rd ra) s = .next t ∧
      WritesOnly s t rd (BitVec.ofNat 64 n) ∧
      ((s.gpr ra = 0 ∧ n = 0) ∨
        (0 < n ∧ n ≤ s.cfg.xlen.bits ∧ (s.gpr ra).getLsbD (n - 1) = true ∧
          ∀ k, n ≤ k → (s.gpr ra).getLsbD k = false)))

/-- With SR[OVE] = 1 each arithmetic instruction writes its result and flags as with SR[OVE] = 0 and then, where a condition it
names is enabled, raises Range: the overflow or carry whose AECR bit is set, or without AECR the overflow alone (a
decision of the spec, 92_eei_decisions.md D7). AESR gets the bits of those conditions, ESR holds the new flags, and EPCR is the
instruction's own, or the jump's in a delay slot; where none is enabled it completes (40_orbis_arith.md R352-R362, R366-R370,
R372, R373; 60_exceptions.md R857, R861; 10_state.md R63, R99, R100). -/
def Obligations.OverflowTraps : Prop :=
  ∀ (s : State) (rd ra rb : Reg) (i : BitVec 16), s.ove = true →
    let quiet := { s with sr := s.sr &&& 0xFFFFEFFF }
    let traps := fun (j : Instr) (onOv onCy : Word32) => Ready j s →
      ∃ v, exec j quiet = .next v ∧
        (let raised := (if v.overflow then onOv else 0) ||| (if v.carry then onCy else 0)
         let enabled := if s.cfg.hasAecr then raised &&& s.aecr else if v.overflow then onOv else 0
         let done := { v with sr := v.sr ||| 0x1000 }
         (enabled = 0 → exec j s = .next done) ∧
         (enabled ≠ 0 → s.redirects .range = false →
           ∃ t u, exec j s = .next t ∧ Enters u t .range 0 ∧
             u = { done.seqOf s with aesr := if s.cfg.hasAecr then s.aesr ||| enabled else s.aesr } ∧
             (t.esr.at s.entryCtx).extractLsb' 10 2 = v.sr.extractLsb' 10 2 ∧
             t.epcr.at s.entryCtx = trunc s.cfg.xlen (if s.dsPending then s.pc - 4 else s.pc)))
    traps (.lAdd rd ra rb) 0x02 0x01 ∧ traps (.lAddc rd ra rb) 0x02 0x01 ∧ traps (.lAddi rd ra i) 0x02 0x01 ∧
    traps (.lAddic rd ra i) 0x02 0x01 ∧ traps (.lSub rd ra rb) 0x02 0x01 ∧
    traps (.lMul rd ra rb) 0x08 0 ∧ traps (.lMuli rd ra i) 0x08 0 ∧ traps (.lMuld ra rb) 0x08 0 ∧
    traps (.lMulu rd ra rb) 0 0x04 ∧ traps (.lMuldu ra rb) 0 0x04 ∧
    traps (.lDiv rd ra rb) 0x10 0 ∧ traps (.lDivu rd ra rb) 0 0x10 ∧
    traps (.lMac ra rb) 0x40 0 ∧ traps (.lMaci ra i) 0x40 0 ∧ traps (.lMsb ra rb) 0x40 0 ∧
    traps (.lMacu ra rb) 0 0x20 ∧ traps (.lMsbu ra rb) 0 0x20

/-! ## Multiply-accumulate -/

/-- The accumulating instructions with SR[OVE] = 0: the 64-bit accumulator, OV by the sign rule for the signed ones,
the carry or borrow in CY for the unsigned ones (40_orbis_arith.md R366-R370, R374, R375). -/
def Obligations.MacResults : Prop :=
  ∀ (s : State) (ra rb : Reg) (i : BitVec 16), s.ove = false →
    let acc : Word := s.machi ++ s.maclo
    let p := BitVec.ofInt 64 (sval s.cfg.xlen (s.gpr ra) * sval s.cfg.xlen (s.gpr rb))
    let pi := BitVec.ofInt 64 (sval s.cfg.xlen (s.gpr ra) * i.toInt)
    let pu := BitVec.ofNat 64 ((s.gpr ra).toNat * (s.gpr rb).toNat)
    (Ready (.lMac ra rb) s → ∃ t, exec (.lMac ra rb) s = .next t ∧ WritesAcc 0x800 s t (acc + p) ∧
      t.overflow = (acc.msb == p.msb && (acc + p).msb != acc.msb)) ∧
    (Ready (.lMaci ra i) s → ∃ t, exec (.lMaci ra i) s = .next t ∧ WritesAcc 0x800 s t (acc + pi) ∧
      t.overflow = (acc.msb == pi.msb && (acc + pi).msb != acc.msb)) ∧
    (Ready (.lMsb ra rb) s → ∃ t, exec (.lMsb ra rb) s = .next t ∧ WritesAcc 0x800 s t (acc - p) ∧
      t.overflow = (acc.msb != p.msb && (acc - p).msb != acc.msb)) ∧
    (Ready (.lMacu ra rb) s → ∃ t, exec (.lMacu ra rb) s = .next t ∧ WritesAcc 0x400 s t (acc + pu) ∧
      t.carry = decide ((acc + pu).toNat < acc.toNat)) ∧
    (Ready (.lMsbu ra rb) s → ∃ t, exec (.lMsbu ra rb) s = .next t ∧ WritesAcc 0x400 s t (acc - pu) ∧
      t.carry = decide (acc.toNat < pu.toNat))

/-- `l.macrc` reads and clears the accumulator; `l.muld` and `l.muldu` replace it, and set OV or CY where the exact product does not fit
64 bits, which with XLEN = 32 it does (40_orbis_arith.md R371-R373). -/
def Obligations.AccumulatorMoves : Prop :=
  ∀ (s : State) (rd ra rb : Reg),
    let p := sval s.cfg.xlen (s.gpr ra) * sval s.cfg.xlen (s.gpr rb)
    (Ready (.lMacrc rd) s → ∃ t, exec (.lMacrc rd) s = .next t ∧ WritesReg s t rd (s.machi ++ s.maclo) ∧
      t.machi = 0 ∧ t.maclo = 0 ∧ Completes s t ∧ MemSame s t ∧
      t = { s.seqOf t with gprs := t.gprs, machi := 0, maclo := 0 }) ∧
    (Ready (.lMuld ra rb) s → s.ove = false → ∃ t, exec (.lMuld ra rb) s = .next t ∧
      WritesAcc 0x800 s t (BitVec.ofInt 64 p) ∧ (t.overflow = true ↔ p < -(2 ^ 63) ∨ 2 ^ 63 ≤ p) ∧
      (s.cfg.xlen = .x32 → t.overflow = false)) ∧
    (Ready (.lMuldu ra rb) s → s.ove = false → ∃ t, exec (.lMuldu ra rb) s = .next t ∧
      WritesAcc 0x400 s t (BitVec.ofNat 64 ((s.gpr ra).toNat * (s.gpr rb).toNat)) ∧
      t.carry = decide (2 ^ 64 ≤ (s.gpr ra).toNat * (s.gpr rb).toNat))

/-! ## Logic, shifts, extensions -/

/-- Logic: the result in rD and nothing else; `l.andi` and `l.ori` zero-extend, `l.xori` sign-extends
(41_orbis_logic_shift.md R402-R407). -/
def Obligations.LogicResults : Prop :=
  ∀ (s : State) (rd ra rb : Reg) (k : BitVec 16),
    (Ready (.lAnd rd ra rb) s → ∃ t, exec (.lAnd rd ra rb) s = .next t ∧
      WritesOnly s t rd (s.gpr ra &&& s.gpr rb)) ∧
    (Ready (.lOr rd ra rb) s → ∃ t, exec (.lOr rd ra rb) s = .next t ∧ WritesOnly s t rd (s.gpr ra ||| s.gpr rb)) ∧
    (Ready (.lXor rd ra rb) s → ∃ t, exec (.lXor rd ra rb) s = .next t ∧
      WritesOnly s t rd (s.gpr ra ^^^ s.gpr rb)) ∧
    (Ready (.lAndi rd ra k) s → ∃ t, exec (.lAndi rd ra k) s = .next t ∧
      WritesOnly s t rd (s.gpr ra &&& k.setWidth 64)) ∧
    (Ready (.lOri rd ra k) s → ∃ t, exec (.lOri rd ra k) s = .next t ∧
      WritesOnly s t rd (s.gpr ra ||| k.setWidth 64)) ∧
    (Ready (.lXori rd ra k) s → ∃ t, exec (.lXori rd ra k) s = .next t ∧
      WritesOnly s t rd (s.gpr ra ^^^ k.signExtend 64))

/-- Shifts and rotates, bit by bit, by the amount modulo XLEN; the operand and the amount in rB or in the L field
(41_orbis_logic_shift.md R401, R408-R415). -/
def Obligations.ShiftResults : Prop :=
  ∀ (s : State) (rd ra rb : Reg) (l : BitVec 6),
    let w := s.cfg.xlen.bits
    let a := s.gpr ra
    let n := (s.gpr rb).toNat % w
    let m := l.toNat % w
    let sll := fun (v : Word) (n : Nat) => ∀ k < w, v.getLsbD k = (decide (n ≤ k) && a.getLsbD (k - n))
    let srl := fun (v : Word) (n : Nat) => ∀ k < w, v.getLsbD k = (decide (k + n < w) && a.getLsbD (k + n))
    let sra := fun (v : Word) (n : Nat) => ∀ k < w, v.getLsbD k = a.getLsbD (min (k + n) (w - 1))
    let ror := fun (v : Word) (n : Nat) => ∀ k < w, v.getLsbD k = a.getLsbD ((k + n) % w)
    (Ready (.lSll rd ra rb) s → ∃ t v, exec (.lSll rd ra rb) s = .next t ∧ WritesOnly s t rd v ∧ sll v n) ∧
    (Ready (.lSlli rd ra l) s → ∃ t v, exec (.lSlli rd ra l) s = .next t ∧ WritesOnly s t rd v ∧ sll v m) ∧
    (Ready (.lSrl rd ra rb) s → ∃ t v, exec (.lSrl rd ra rb) s = .next t ∧ WritesOnly s t rd v ∧ srl v n) ∧
    (Ready (.lSrli rd ra l) s → ∃ t v, exec (.lSrli rd ra l) s = .next t ∧ WritesOnly s t rd v ∧ srl v m) ∧
    (Ready (.lSra rd ra rb) s → ∃ t v, exec (.lSra rd ra rb) s = .next t ∧ WritesOnly s t rd v ∧ sra v n) ∧
    (Ready (.lSrai rd ra l) s → ∃ t v, exec (.lSrai rd ra l) s = .next t ∧ WritesOnly s t rd v ∧ sra v m) ∧
    (Ready (.lRor rd ra rb) s → ∃ t v, exec (.lRor rd ra rb) s = .next t ∧ WritesOnly s t rd v ∧ ror v n) ∧
    (Ready (.lRori rd ra l) s → ∃ t v, exec (.lRori rd ra l) s = .next t ∧ WritesOnly s t rd v ∧ ror v m)

/-- Extensions, bit by bit, and `l.movhi` (41_orbis_logic_shift.md R416-R422). -/
def Obligations.ExtendResults : Prop :=
  ∀ (s : State) (rd ra : Reg) (k : BitVec 16),
    let a := s.gpr ra
    let sext := fun (v : Word) (n : Nat) => ∀ j < s.cfg.xlen.bits, v.getLsbD j = a.getLsbD (min j (n - 1))
    let zext := fun (v : Word) (n : Nat) => ∀ j < s.cfg.xlen.bits, v.getLsbD j = (decide (j < n) && a.getLsbD j)
    (Ready (.lExtbs rd ra) s → ∃ t v, exec (.lExtbs rd ra) s = .next t ∧ WritesOnly s t rd v ∧ sext v 8) ∧
    (Ready (.lExtbz rd ra) s → ∃ t v, exec (.lExtbz rd ra) s = .next t ∧ WritesOnly s t rd v ∧ zext v 8) ∧
    (Ready (.lExths rd ra) s → ∃ t v, exec (.lExths rd ra) s = .next t ∧ WritesOnly s t rd v ∧ sext v 16) ∧
    (Ready (.lExthz rd ra) s → ∃ t v, exec (.lExthz rd ra) s = .next t ∧ WritesOnly s t rd v ∧ zext v 16) ∧
    (Ready (.lExtws rd ra) s → ∃ t v, exec (.lExtws rd ra) s = .next t ∧ WritesOnly s t rd v ∧ sext v 32) ∧
    (Ready (.lExtwz rd ra) s → ∃ t v, exec (.lExtwz rd ra) s = .next t ∧ WritesOnly s t rd v ∧ zext v 32) ∧
    (Ready (.lMovhi rd k) s → ∃ t, exec (.lMovhi rd k) s = .next t ∧ WritesOnly s t rd (k.setWidth 64 <<< 16))

/-! ## Compares -/

/-- Equality and unsigned compares: SR[F] and nothing else; the immediate is sign-extended even for the unsigned ones
(42_orbis_compare.md R450-R458, R463-R468). -/
def Obligations.UnsignedCompares : Prop :=
  ∀ (s : State) (ra rb : Reg) (i : BitVec 16),
    let a := (s.gpr ra).toNat
    let b := (s.gpr rb).toNat
    let c := (trunc s.cfg.xlen (i.signExtend 64)).toNat
    (Ready (.lSfeq ra rb) s → ∃ t, exec (.lSfeq ra rb) s = .next t ∧ WritesFlag s t (decide (a = b))) ∧
    (Ready (.lSfne ra rb) s → ∃ t, exec (.lSfne ra rb) s = .next t ∧ WritesFlag s t (decide (a ≠ b))) ∧
    (Ready (.lSfgtu ra rb) s → ∃ t, exec (.lSfgtu ra rb) s = .next t ∧ WritesFlag s t (decide (b < a))) ∧
    (Ready (.lSfgeu ra rb) s → ∃ t, exec (.lSfgeu ra rb) s = .next t ∧ WritesFlag s t (decide (b ≤ a))) ∧
    (Ready (.lSfltu ra rb) s → ∃ t, exec (.lSfltu ra rb) s = .next t ∧ WritesFlag s t (decide (a < b))) ∧
    (Ready (.lSfleu ra rb) s → ∃ t, exec (.lSfleu ra rb) s = .next t ∧ WritesFlag s t (decide (a ≤ b))) ∧
    (Ready (.lSfeqi ra i) s → ∃ t, exec (.lSfeqi ra i) s = .next t ∧ WritesFlag s t (decide (a = c))) ∧
    (Ready (.lSfnei ra i) s → ∃ t, exec (.lSfnei ra i) s = .next t ∧ WritesFlag s t (decide (a ≠ c))) ∧
    (Ready (.lSfgtui ra i) s → ∃ t, exec (.lSfgtui ra i) s = .next t ∧ WritesFlag s t (decide (c < a))) ∧
    (Ready (.lSfgeui ra i) s → ∃ t, exec (.lSfgeui ra i) s = .next t ∧ WritesFlag s t (decide (c ≤ a))) ∧
    (Ready (.lSfltui ra i) s → ∃ t, exec (.lSfltui ra i) s = .next t ∧ WritesFlag s t (decide (a < c))) ∧
    (Ready (.lSfleui ra i) s → ∃ t, exec (.lSfleui ra i) s = .next t ∧ WritesFlag s t (decide (a ≤ c)))

/-- Signed compares: SR[F] and nothing else. A difference of signs decides, else the unsigned order
(42_orbis_compare.md R450, R451, R459-R462, R469-R472). -/
def Obligations.SignedCompares : Prop :=
  ∀ (s : State) (ra rb : Reg) (i : BitVec 16),
    let a := s.gpr ra
    let b := s.gpr rb
    let c := trunc s.cfg.xlen (i.signExtend 64)
    let lt := fun (u v : Word) =>
      if signBit s.cfg.xlen u = signBit s.cfg.xlen v then decide (u.toNat < v.toNat) else signBit s.cfg.xlen u
    (Ready (.lSfgts ra rb) s → ∃ t, exec (.lSfgts ra rb) s = .next t ∧ WritesFlag s t (lt b a)) ∧
    (Ready (.lSfges ra rb) s → ∃ t, exec (.lSfges ra rb) s = .next t ∧ WritesFlag s t (!lt a b)) ∧
    (Ready (.lSflts ra rb) s → ∃ t, exec (.lSflts ra rb) s = .next t ∧ WritesFlag s t (lt a b)) ∧
    (Ready (.lSfles ra rb) s → ∃ t, exec (.lSfles ra rb) s = .next t ∧ WritesFlag s t (!lt b a)) ∧
    (Ready (.lSfgtsi ra i) s → ∃ t, exec (.lSfgtsi ra i) s = .next t ∧ WritesFlag s t (lt c a)) ∧
    (Ready (.lSfgesi ra i) s → ∃ t, exec (.lSfgesi ra i) s = .next t ∧ WritesFlag s t (!lt a c)) ∧
    (Ready (.lSfltsi ra i) s → ∃ t, exec (.lSfltsi ra i) s = .next t ∧ WritesFlag s t (lt a c)) ∧
    (Ready (.lSflesi ra i) s → ∃ t, exec (.lSflesi ra i) s = .next t ∧ WritesFlag s t (!lt c a))

/-! ## Loads and stores -/

/-- Loads of bytes that exist, aligned where alignment is asked for: the value, most significant byte first, or last exactly where the
implementation supports SR[LEE] and it is 1 (`operandOrder`, 20_memory.md R202, R203), extended with zeros or with the sign
(43_orbis_loadstore.md R500, R501, R504-R507, R509-R511; 20_memory.md R210). An uncached word load of an OMPIC register gives the status
register with bit 31 zero, or zero for a control register (61_platform_units.md R970-R972); that its value is not reversed with SR[LEE] is
the model's reading (DEDUCED, entry 23). -/
def Obligations.LoadResults : Prop :=
  ∀ (s : State) (rd ra : Reg) (i : BitVec 16) (l : Located), s.regMissing rd = false →
    let ea := trunc s.cfg.xlen (s.gpr ra + i.signExtend 64)
    let v := ofBytes (operandOrder s (l.addrs.map s.mem.read))
    (Ready (.lLbz rd ra i) s → Reaches s .load ea 1 l →
      ∃ t, exec (.lLbz rd ra i) s = .next t ∧ LoadsTo s t l rd (BitVec.ofNat 64 v)) ∧
    (Ready (.lLbs rd ra i) s → Reaches s .load ea 1 l →
      ∃ t, exec (.lLbs rd ra i) s = .next t ∧ LoadsTo s t l rd ((BitVec.ofNat 8 v).signExtend 64)) ∧
    (Ready (.lLhz rd ra i) s → Reaches s .load ea 2 l →
      ∃ t, exec (.lLhz rd ra i) s = .next t ∧ LoadsTo s t l rd (BitVec.ofNat 64 v)) ∧
    (Ready (.lLhs rd ra i) s → Reaches s .load ea 2 l →
      ∃ t, exec (.lLhs rd ra i) s = .next t ∧ LoadsTo s t l rd ((BitVec.ofNat 16 v).signExtend 64)) ∧
    (Ready (.lLwz rd ra i) s → Reaches s .load ea 4 l →
      ∃ t, exec (.lLwz rd ra i) s = .next t ∧ LoadsTo s t l rd (BitVec.ofNat 64 v)) ∧
    (Ready (.lLws rd ra i) s → Reaches s .load ea 4 l →
      ∃ t, exec (.lLws rd ra i) s = .next t ∧ LoadsTo s t l rd ((BitVec.ofNat 32 v).signExtend 64)) ∧
    (Ready (.lLd rd ra i) s → Reaches s .load ea 8 l →
      ∃ t, exec (.lLd rd ra i) s = .next t ∧ LoadsTo s t l rd (BitVec.ofNat 64 v)) ∧
    (∀ b n, s.cfg.ompicBase = some b → n < s.cfg.numCores → misaligned s ea 4 = false → locate s .load ea 4 = .ok l →
      l.cached = false → Ready (.lLwz rd ra i) s →
      (l.addrs = [b + 8 * n + 4, b + 8 * n + 5, b + 8 * n + 6, b + 8 * n + 7] →
        ∃ t, exec (.lLwz rd ra i) s = .next t ∧ LoadsTo s t l rd (zext32 (s.ompic.getD n 0 &&& 0x7FFFFFFF))) ∧
      (l.addrs = [b + 8 * n, b + 8 * n + 1, b + 8 * n + 2, b + 8 * n + 3] →
        ∃ t, exec (.lLwz rd ra i) s = .next t ∧ LoadsTo s t l rd 0))

/-- Stores to bytes that exist: the low bytes of rB read back, in the byte order of loads (`operandOrder`, R203), no other byte changes, an
overlapped reservation is cancelled (43_orbis_loadstore.md R500, R502, R512, R514-R516; 20_memory.md R211, R231). An uncached word store to
OMPIC control register `n` acknowledges core `n`'s message, then sends one to the core DST_CORE, and this core's line is up exactly while
its IRQ_PEND = 1 (61_platform_units.md R970-R972; 92_eei_decisions.md D37). The latch of an edge-triggered line follows a rise (R942). An
uncached word store to an OMPIC status register has no effect but on a reservation that it overlaps (61_platform_units.md R972; 20_memory.md
R231).
THE MODEL'S CHOICE, not the spec's: the levels before and after the whole store are compared, so one store that acknowledges and sends to
its own core makes no edge (DESIGN CHOICE, entry 24); rB is stored to the OMPIC unreversed with SR[LEE] too (DEDUCED, entry 23). -/
def Obligations.StoreResults : Prop :=
  ∀ (s : State) (ra rb : Reg) (i : BitVec 16) (l : Located), s.regMissing rb = false → s.mem.wf = true →
    let ea := trunc s.cfg.xlen (s.gpr ra + i.signExtend 64)
    (Ready (.lSb ra rb i) s → Reaches s .store ea 1 l →
      ∃ t, exec (.lSb ra rb i) s = .next t ∧ StoresTo s t l 1 (s.gpr rb)) ∧
    (Ready (.lSh ra rb i) s → Reaches s .store ea 2 l →
      ∃ t, exec (.lSh ra rb i) s = .next t ∧ StoresTo s t l 2 (s.gpr rb)) ∧
    (Ready (.lSw ra rb i) s → Reaches s .store ea 4 l →
      ∃ t, exec (.lSw ra rb i) s = .next t ∧ StoresTo s t l 4 (s.gpr rb)) ∧
    (Ready (.lSd ra rb i) s → Reaches s .store ea 8 l →
      ∃ t, exec (.lSd ra rb i) s = .next t ∧ StoresTo s t l 8 (s.gpr rb)) ∧
    (∀ b n, s.cfg.ompicBase = some b → n < s.cfg.numCores → s.ompic.length = s.cfg.numCores →
      misaligned s ea 4 = false → locate s .store ea 4 = .ok l → l.cached = false →
      l.addrs = [b + 8 * n, b + 8 * n + 1, b + 8 * n + 2, b + 8 * n + 3] → Ready (.lSw ra rb i) s →
      let v : Word32 := (s.gpr rb).setWidth 32
      ∃ t, exec (.lSw ra rb i) s = .next t ∧
        (∀ j < s.cfg.numCores, t.ompic.getD j 0 =
          if v.getLsbD 30 && decide ((v.extractLsb' 16 14).toNat = j) then
            0x40000000 ||| BitVec.ofNat 32 (n % 2 ^ 14) <<< 16 ||| (v &&& 0xFFFF)
          else if v.getLsbD 31 && decide (j = n) then s.ompic.getD j 0 &&& 0xBFFFFFFF else s.ompic.getD j 0) ∧
        t.ompic.length = s.cfg.numCores ∧
        t.irqLines.getLsbD s.cfg.ompicIrq.toNat = (t.ompic.getD s.cfg.coreId 0).getLsbD 30 ∧
        t.picLatch = s.picLatch ||| (t.irqLines &&& ~~~s.irqLines &&& s.cfg.picEdge) ∧
        t.resv = cancelOverlap s.resv l.addrs ∧ Completes s t ∧ MemSame s t ∧
        t = { l.state.seqOf t with ompic := t.ompic, picLatch := t.picLatch, resv := t.resv }) ∧
    (∀ b n, s.cfg.ompicBase = some b → n < s.cfg.numCores →
      misaligned s ea 4 = false → locate s .store ea 4 = .ok l → l.cached = false →
      l.addrs = [b + 8 * n + 4, b + 8 * n + 5, b + 8 * n + 6, b + 8 * n + 7] → Ready (.lSw ra rb i) s →
      ∃ t, exec (.lSw ra rb i) s = .next t ∧ t.resv = cancelOverlap s.resv l.addrs ∧ Completes s t ∧ MemSame s t ∧
        t = { l.state.seqOf t with resv := t.resv })

/-- `l.lwa` loads a word, in the byte order of loads (`operandOrder`, 20_memory.md R203), and reserves its physical address; `l.swa` stores
only under an intact reservation for its own address, tells so in SR[F], and ends the reservation (43_orbis_loadstore.md R508, R513;
20_memory.md R230-R233). Both wait, as `l.msync` does, where memory is weakly ordered (R234): only the model's record of replaced
instruction words shows that (entry 38); that `l.swa` does not wait for its own store is the model's choice (entry 38). A write by another
agent that overlaps the reserved word cancels the reservation, in memory or on an OMPIC control register (R231 (b)). -/
def Obligations.AtomicPair : Prop :=
  (∀ (s : State) (r ra : Reg) (i : BitVec 16) (l : Located), s.regMissing r = false → s.mem.wf = true →
    l.addrs.any (inOmpic s.cfg) = false →
    let ea := trunc s.cfg.xlen (s.gpr ra + i.signExtend 64)
    let waited := if s.cfg.strongOrder then s.stale else synced s.stale
    (Ready (.lLwa r ra i) s → misaligned s ea 4 = false → locate s .load ea 4 = .ok l →
      ∃ t, exec (.lLwa r ra i) s = .next t ∧
        WritesReg s t r (BitVec.ofNat 64 (ofBytes (operandOrder s (l.addrs.map s.mem.read)))) ∧
        t.resv = l.addrs.head? ∧ t.stale = waited ∧ Completes s t ∧
        t = { l.state.seqOf t with gprs := t.gprs, resv := t.resv, stale := t.stale } ∧ MemSame s t) ∧
    (Ready (.lSwa ra r i) s → ea.toNat % 4 = 0 → translate s .store ea 4 = .ok l → physValid s.cfg l.addrs = true →
      s.resv ≠ none → s.resv = l.addrs.head? →
      ∃ t, exec (.lSwa ra r i) s = .next t ∧ t.flag = true ∧ SrOutside 0x200 s t ∧ t.resv = none ∧
        (l.addrs.Nodup →
          ofBytes (operandOrder s (l.addrs.map t.mem.read)) = (s.gpr r).toNat % 2 ^ 32) ∧
        (∀ a, a ∉ l.addrs → t.mem.read a = s.mem.read a) ∧
        t.stale = State.noteStale { s with stale := waited } l.addrs (firstStage s.cfg) ∧
        Completes s t ∧ t = { l.state.seqOf t with mem := t.mem, stale := t.stale, sr := t.sr, resv := none }) ∧
    (Ready (.lSwa ra r i) s → ea.toNat % 4 = 0 → translate s .store ea 4 = .ok l →
      (s.resv = none ∨ s.resv ≠ l.addrs.head?) →
      ∃ t, exec (.lSwa ra r i) s = .next t ∧ t.flag = false ∧ SrOutside 0x200 s t ∧ t.stale = waited ∧
        Completes s t ∧ t = { l.state.seqOf t with sr := t.sr, resv := none, stale := t.stale } ∧ MemSame s t)) ∧
  (∀ (s : State) (r : Nat) (cs : List Host.Cell), s.resv = some r →
    ((∃ c ∈ cs, byteValid s.cfg c.1 = true ∧ r ≤ c.1 ∧ c.1 < r + 4) → (s.foreignWrites cs).resv = none) ∧
    ((∀ c ∈ cs, c.1 < r ∨ r + 4 ≤ c.1) → (s.foreignWrites cs).resv = some r)) ∧
  (∀ (s : State) (b n : Nat) (ms : List (Nat × Word32)), s.cfg.ompicBase = some b → s.resv = some (b + 8 * n) →
    n < s.cfg.numCores → (∃ m ∈ ms, m.1 = n) → (s.foreignMessages ms).resv = none)

/-- What a load or store raises instead of its effect, with EEAR the effective address and no register, flag or byte changed: Alignment
for a misaligned address where those are not supported; D-TLB Miss where the data MMU is on and no entry matches; Data Page Fault
where the one matching entry denies the access; Bus Error where the address translates to a byte that does not exist; and
Range where all that is right and the register does not exist (20_memory.md R204, R207, R210, R211, R213, R254, R255;
43_orbis_loadstore.md R501, R502; 60_exceptions.md R846, R847, R850, R852, R857, R863, R870). A denied access sets no A or D bit (R261;
92_eei_decisions.md D15). `l.swa` raises Alignment whatever is supported and Bus Error only under its reservation
(43_orbis_loadstore.md R513, 92_eei_decisions.md D14).
THE MODEL'S CHOICE, not the spec's: that no A or D bit is set either where a permitted and translated access ends in Bus Error or in Range
for its data register, although R255 sets A once the access is permitted (DEDUCED, entry 18), and that Range for the data register
comes after the conditions of the access (DEDUCED, entry 17). -/
def Obligations.AccessTraps : Prop :=
  ∀ (s : State) (r ra : Reg) (i : BitVec 16) (x : Exc),
    let ea := trunc s.cfg.xlen (s.gpr ra + i.signExtend 64)
    let one := fun (k : Access) (e : Entry) =>
      tlbHits s (s.mmu k) ea = [e] ∨ (tlbHits s (s.mmu k) ea = [] ∧ atbHits s (s.mmu k) ea = [e])
    let untranslated := fun (k : Access) =>
      (s.cfg.dmp = true ∧ s.sr.getLsbD 5 = true) ∧
      ((x = .dtlbMiss ∧ tlbHits s (s.mmu k) ea = [] ∧ atbHits s (s.mmu k) ea = [] ∧ s.cfg.dmmu.htr = false) ∨
       (x = .dataPageFault ∧ ∃ e, one k e ∧ ((s.mmu k).translateReg e).getLsbD (permissionBit k e s.sm) = false))
    let bad := fun (k : Access) (n : Nat) =>
      (x = .alignment ∧ s.cfg.unalignedSupported = false ∧ ea.toNat % n ≠ 0) ∨
      ((s.cfg.unalignedSupported = true ∨ ea.toNat % n = 0) ∧
        (untranslated k ∨
         (x = .busError ∧ ∃ l, translate s k ea n = .ok l ∧ ∃ a ∈ l.addrs, byteValid s.cfg a = false))) ∨
      (x = .range ∧ s.regMissing r = true ∧ ∃ l, Reaches s k ea n l)
    let traps := fun (j : Instr) => ∃ t, exec j s = .next t ∧ Enters s t x ea
    s.redirects x = false →
    (Ready (.lLbz r ra i) s → bad .load 1 → traps (.lLbz r ra i)) ∧
    (Ready (.lLbs r ra i) s → bad .load 1 → traps (.lLbs r ra i)) ∧
    (Ready (.lLhz r ra i) s → bad .load 2 → traps (.lLhz r ra i)) ∧
    (Ready (.lLhs r ra i) s → bad .load 2 → traps (.lLhs r ra i)) ∧
    (Ready (.lLwz r ra i) s → bad .load 4 → traps (.lLwz r ra i)) ∧
    (Ready (.lLws r ra i) s → bad .load 4 → traps (.lLws r ra i)) ∧
    (Ready (.lLwa r ra i) s → bad .load 4 → traps (.lLwa r ra i)) ∧
    (Ready (.lLd r ra i) s → bad .load 8 → traps (.lLd r ra i)) ∧
    (Ready (.lSb ra r i) s → bad .store 1 → traps (.lSb ra r i)) ∧
    (Ready (.lSh ra r i) s → bad .store 2 → traps (.lSh ra r i)) ∧
    (Ready (.lSw ra r i) s → bad .store 4 → traps (.lSw ra r i)) ∧
    (Ready (.lSd ra r i) s → bad .store 8 → traps (.lSd ra r i)) ∧
    (Ready (.lSwa ra r i) s →
      (x = .alignment ∧ ea.toNat % 4 ≠ 0) ∨
      (ea.toNat % 4 = 0 ∧ (untranslated .store ∨
        ∃ l, translate s .store ea 4 = .ok l ∧
          ((x = .busError ∧ s.resv ≠ none ∧ s.resv = l.addrs.head? ∧ ∃ a ∈ l.addrs, byteValid s.cfg a = false) ∨
           (x = .range ∧ s.regMissing r = true ∧ physValid s.cfg l.addrs = true ∧
             l.addrs.any (inOmpic s.cfg) = false)))) →
      traps (.lSwa ra r i))

/-- What the translation of an access gives (20_memory.md R238, R239, R246, R247, R249-R256, R261). It looks in the registers of its MMU:
the TLB entries found are those valid in the selected set that hold the page number and the context, the ATB entries those
valid that hold the area and the context. With the MMU off, the same address. Else the one TLB entry, or without any the one ATB entry,
gives its page's bytes where it permits the access and a page fault where it does not; none raises the TLB miss; two, or none
with hardware reload, have no meaning and are refused (93_implementation_defined.md U10, U11).
THE MODEL'S CHOICE, not the spec's: with XLEN = 64 what a match register holds of the page number and that a page has 19 bits of number
(DESIGN CHOICE, entry 14), where the fields of the ATB stand, with XLEN = 32 too (entry 15), and the map of untranslated
addresses (entry 16); that an access with the MMU off is uncached, of which no source speaks (DEDUCED, entry 23;
91_not_in_source.md N12); that a translated address of more than PA_BITS bits is not cut (DESIGN CHOICE, entry 2); that an access that
leaves its page is refused (DEDUCED, entry 25); and that in a unified MMU (10_state.md R53) a fetch uses the data MMU's registers and
reads its permission at the place R247 gives (DEDUCED, entry 45). -/
def Obligations.TranslationOutcome : Prop :=
  ∀ (s : State) (k : Access) (ea : Word) (n : Nat),
    let data := k != .fetch || s.cfg.unifiedMmu
    let m : Mmu := if data then { cfg := s.cfg.dmmu, mr := s.dtlbmr, tr := s.dtlbtr, amr := s.datbmr, atr := s.datbtr }
      else { cfg := s.cfg.immu, mr := s.itlbmr, tr := s.itlbtr, amr := s.iatbmr, atr := s.iatbtr }
    let on := if k = .fetch then s.cfg.imp && s.sr.getLsbD 6 else s.cfg.dmp && s.sr.getLsbD 5
    let tlb := tlbHits s m ea
    let atb := atbHits s m ea
    (tlb.Nodup ∧ ∀ e, e ∈ tlb ↔ ∃ i, e = .tlb i ∧ TlbFinds s m ea i) ∧
    (atb.Nodup ∧ ∀ e, e ∈ atb ↔ ∃ j, e = .atb j ∧ AtbFinds s m ea j) ∧
    (on = false → ∃ l, translate s k ea n = .ok l ∧ Untranslated s.cfg ea n l.addrs ∧ l.state = s ∧ l.cached = false ∧
      l.inhibited = false) ∧
    (on = true →
      (2 ≤ tlb.length ∨ (tlb = [] ∧ 2 ≤ atb.length) → translate s k ea n = .refuse .tlbMultiHit) ∧
      (tlb = [] → atb = [] → translate s k ea n =
        if m.cfg.htr then .refuse .hwTlbReload else .raise (if k = .fetch then .itlbMiss else .dtlbMiss) ea) ∧
      (∀ i, tlb = [.tlb i] →
        let large := (m.mr.at i).getLsbD 1
        TranslatesBy s k ea n (m.tr.at i) (tlbPermission k (s.sr.getLsbD 0)) (if large then 2 ^ 24 else 2 ^ 13)
          (m.tr.at i &&& (if large then 0xFF000000 else 0xFFFFE000)).toNat
          (fun v => if data then { s with dtlbtr := s.dtlbtr.put i v } else { s with itlbtr := s.itlbtr.put i v })) ∧
      (∀ j, tlb = [] → atb = [.atb j] →
        let size := areaSize (m.amr.at j)
        TranslatesBy s k ea n (m.atr.at j) (atbPermission k (s.sr.getLsbD 0)) size
          (((m.atr.at j).extractLsb' 10 22).toNat * 2 ^ s.cfg.atbPpnBit / size * size)
          (fun v => if data then { s with datbtr := s.datbtr.put j v } else { s with iatbtr := s.iatbtr.put j v })))

/-! ## Jumps and branches -/

/-- Jumps and branches outside a delay slot: where they go, with and without delay slots, and what the linking ones
leave in r9; nothing else changes (44_orbis_control_system.md R551-R558). That `l.jalr r9`, which R555 forbids, goes to the old r9 and
leaves the link in r9 is the model's choice (DESIGN CHOICE, entry 33; 93_implementation_defined.md U7). -/
def Obligations.JumpResults : Prop :=
  ∀ (s : State) (n : BitVec 26) (rb : Reg), s.dsPending = false →
    let target := trunc s.cfg.xlen (s.pc + (n ++ 0#2).signExtend 64)
    let link := trunc s.cfg.xlen (s.pc + (if s.cfg.nd then 4 else 8))
    let jumps := fun (i : Instr) (taken : Bool) (v : Word) =>
      ∃ t, exec i s = .next t ∧ TransfersTo s t taken v ∧ t = s.seqOf t ∧ MemSame s t
    let links := fun (i : Instr) (v : Word) =>
      ∃ t, exec i s = .next t ∧ TransfersTo s t true v ∧ WritesReg s t 9 link ∧
        t = { s.seqOf t with gprs := t.gprs } ∧ MemSame s t
    (Ready (.lJ n) s → jumps (.lJ n) true target) ∧
    (Ready (.lJal n) s → links (.lJal n) target) ∧
    (Ready (.lBf n) s → jumps (.lBf n) (s.sr.getLsbD 9) target) ∧
    (Ready (.lBnf n) s → jumps (.lBnf n) (!s.sr.getLsbD 9) target) ∧
    (Ready (.lJr rb) s → (s.gpr rb).toNat % 4 = 0 → jumps (.lJr rb) true (s.gpr rb)) ∧
    (Ready (.lJalr rb) s → (s.gpr rb).toNat % 4 = 0 → links (.lJalr rb) (s.gpr rb))

/-- A register target that is not a multiple of four raises Alignment at the jump (44_orbis_control_system.md R556,
92_eei_decisions.md D24). A transfer or a return in a delay slot has no meaning and is refused
(93_implementation_defined.md U5). -/
def Obligations.TransferStops : Prop :=
  ∀ (s : State) (n : BitVec 26) (rb : Reg),
    ((s.gpr rb).toNat % 4 ≠ 0 → s.redirects .alignment = false →
      (Ready (.lJr rb) s → ∃ t, exec (.lJr rb) s = .next t ∧ Enters s t .alignment (s.gpr rb)) ∧
      (Ready (.lJalr rb) s → ∃ t, exec (.lJalr rb) s = .next t ∧ Enters s t .alignment (s.gpr rb))) ∧
    (s.dsPending = true →
      (Ready (.lJ n) s → exec (.lJ n) s = .refused .jumpInDelaySlot) ∧
      (Ready (.lJal n) s → exec (.lJal n) s = .refused .jumpInDelaySlot) ∧
      (Ready (.lBf n) s → exec (.lBf n) s = .refused .jumpInDelaySlot) ∧
      (Ready (.lBnf n) s → exec (.lBnf n) s = .refused .jumpInDelaySlot) ∧
      (Ready (.lJr rb) s → (s.gpr rb).toNat % 4 = 0 → exec (.lJr rb) s = .refused .jumpInDelaySlot) ∧
      (Ready (.lJalr rb) s → (s.gpr rb).toNat % 4 = 0 → exec (.lJalr rb) s = .refused .jumpInDelaySlot) ∧
      (Ready .lRfe s → s.sr.getLsbD 0 = true → exec .lRfe s = .refused .jumpInDelaySlot))

/-- With delay slots: every jump and branch is followed by its slot. An instruction that completes there, such as `l.nop`, reaches the
target, or the instruction after the slot where a branch is not taken; an exception entered there, such as by `l.sys`, saves
the jump's address and sets SR[DSX], and returning from it comes back to the jump, outside a slot (44_orbis_control_system.md
R551-R558, R562, R564; 60_exceptions.md R861, R862, R875). That `l.jalr r9`, which R555 forbids, goes to the old r9 is the model's
choice (DESIGN CHOICE, entry 33; 93_implementation_defined.md U7). -/
def Obligations.DelaySlotSequence : Prop :=
  ∀ (s : State) (n : BitVec 26) (rb : Reg), Inv s → s.cfg.nd = false → s.dsPending = false →
    let target := trunc s.cfg.xlen (s.pc + (n ++ 0#2).signExtend 64)
    let sequence := fun (j : Instr) (goesTo : Word) => Ready j s →
      ∃ t, exec j s = .next t ∧ t.pc = trunc s.cfg.xlen (s.pc + 4) ∧ t.dsPending = true ∧
        (∀ (i : Instr) (u : State), exec i t = .next u → Completes t u → u.pc = goesTo ∧ u.dsPending = false) ∧
        (∀ k, Ready (.lNop k) t → ∃ u, exec (.lNop k) t = .next u ∧ u.pc = goesTo ∧ u.dsPending = false) ∧
        (∀ (x : Exc) (ea : Word), t.redirects x = false →
          (t.enter x ea).epcr.at t.entryCtx = s.pc ∧ (t.enter x ea).sr.getLsbD 13 = true ∧
          (t.enter x ea).leave.pc = s.pc ∧ (t.enter x ea).leave.dsPending = false) ∧
        (∀ k, Ready (.lSys k) t → t.redirects .syscall = false →
          ∃ u, exec (.lSys k) t = .next u ∧ Enters t u .syscall 0 ∧ u.epcr.at t.entryCtx = s.pc ∧ u.leave.pc = s.pc)
    let after := trunc s.cfg.xlen (s.pc + 8)
    sequence (.lJ n) target ∧ sequence (.lJal n) target ∧
    sequence (.lBf n) (if s.sr.getLsbD 9 then target else after) ∧
    sequence (.lBnf n) (if s.sr.getLsbD 9 then after else target) ∧
    ((s.gpr rb).toNat % 4 = 0 → sequence (.lJr rb) (s.gpr rb) ∧ sequence (.lJalr rb) (s.gpr rb))

/-! ## System instructions -/

/-- `l.nop` and the synchronisation instructions only advance `pc` (44_orbis_control_system.md R559, R567-R569; 92_eei_decisions.md D13).
The model's record of replaced instruction words is all that a synchronisation changes: it moves forward the words that have been written
back, and `l.psync` drops the invalidated ones, in a unified cache those that memory holds (20_memory.md R268, R282; DESIGN CHOICE, entries
38 and 45), and marks as flushed those that memory holds elsewhere (R286). -/
def Obligations.NopAndSync : Prop :=
  ∀ (s : State) (k : BitVec 16),
    (Ready (.lNop k) s → ∃ t, exec (.lNop k) s = .next t ∧ Completes s t ∧ t = s.seqOf t ∧ MemSame s t) ∧
    (∀ i : Instr, i = .lMsync ∨ i = .lCsync → Ready i s →
      ∃ t, exec i s = .next t ∧ Completes s t ∧ t = { s.seqOf t with stale := synced s.stale } ∧ MemSame s t) ∧
    (Ready .lPsync s → ∃ t, exec .lPsync s = .next t ∧ Completes s t ∧ t = { s.seqOf t with stale := t.stale } ∧
      MemSame s t ∧ ∀ e, e ∈ t.stale ↔
        (e ∈ s.stale ∧ e.stage ≠ .invalidated ∧ e.stage ≠ .synced) ∨
        (s.cfg.unifiedCache = false ∧ e.stage = .flushed ∧ { e with stage := .synced } ∈ s.stale))

/-- `l.sys` and `l.trap` take their exceptions always; where DSR has the exception's bit the debug unit stops the core instead
(61_platform_units.md R995). `l.rfe` in supervisor mode loads `pc` and SR from EPCR and ESR
of the current context; in user mode it is an illegal instruction (44_orbis_control_system.md R560, R561, R564;
60_exceptions.md R875; 92_eei_decisions.md D26). -/
def Obligations.ExceptionInstructions : Prop :=
  ∀ (s : State) (k : BitVec 16),
    (Ready (.lSys k) s → ∃ t, exec (.lSys k) s = .next t ∧ Raises s t .syscall 0) ∧
    (Ready (.lTrap k) s → ∃ t, exec (.lTrap k) s = .next t ∧ Raises s t .trap 0) ∧
    (Ready .lRfe s → s.sr.getLsbD 0 = true → s.dsPending = false →
      ∃ t, exec .lRfe s = .next t ∧ t.pc = trunc s.cfg.xlen (s.epcr.at s.ctx) &&& ~~~3 ∧ t.dsPending = false ∧
        t.sr = srWritten s.cfg ((s.esr.at s.ctx).setWidth 32) ∧ t = { s.seqOf t with sr := t.sr } ∧ MemSame s t) ∧
    (Ready .lRfe s → s.sr.getLsbD 0 = false → s.redirects .illegal = false →
      ∃ t, exec .lRfe s = .next t ∧ Enters s t .illegal s.pc)

/-- `l.mfspr` in supervisor mode completes at every address `a` = rA OR K: it writes rD and, where the value is open, draws it. Every
register of the table reads as said here where it is there (44_orbis_control_system.md R566; 10_state.md R45, R50, R54, R60, R70-R73,
R75, R78, R85-R93, R96-R101; 20_memory.md R240-R251, R268, R270-R279; 61_platform_units.md R941, R942, R951, R952, R990-R996,
R1010-R1012, R1020): the identification and configuration registers field by field (`ConfigReads`), the MMUs (`MmuReads`), the debug unit
(`DebugUnitReads`), the performance counters (`CounterReads`); EPCR, EEAR and ESR of all sixteen contexts where there is fast
context switching (60_exceptions.md R880) and of the first where there is none; PICSR not gated by PICMR (92_eei_decisions.md D34);
zero for a write-only register (D5). In a unified MMU or cache the addresses of the instruction side name the registers of the
data side (10_state.md R53). In straight-line code NPC reads as `pc + 4` and PPC as the address of the instruction before (R47).
THE MODEL'S CHOICE, not the spec's: which code counts as straight-line (DESIGN CHOICE, entry 7); that NPC and PPC have XLEN bits (DEDUCED,
entry 47); that reserved bits read zero (DESIGN CHOICE, entry 6); which configuration registers are there (DEDUCED, entry 27), and EEAR0
and ESR0 alone without fast context switching (DEDUCED, entry 44); the high half of ESR with XLEN = 64 (DEDUCED, entry 30); that
r0 of every set is wired (DEDUCED, entry 36); which registers a unified unit shares (DEDUCED, entry 45) and that DCCFGR[CCRI] alone
says whether the merged cache control register is there (DESIGN CHOICE, entry 45). -/
def Obligations.MfsprResults : Prop :=
  ∀ (s : State) (rd ra : Reg) (k : BitVec 16), Ready (.lMfspr rd ra k) s → s.sr.getLsbD 0 = true →
    s.regMissing rd = false →
    let a := ((s.gpr ra ||| k.setWidth 64).setWidth 16 : BitVec 16)
    let data : Mmu := { cfg := s.cfg.dmmu, mr := s.dtlbmr, tr := s.dtlbtr, amr := s.datbmr, atr := s.datbtr }
    let insn : Mmu := { cfg := s.cfg.immu, mr := s.itlbmr, tr := s.itlbtr, amr := s.iatbmr, atr := s.iatbtr }
    ∃ (t : State) (v : Word), exec (.lMfspr rd ra k) s = .next t ∧ WritesReg s t rd v ∧ Completes s t ∧
      t = { s.seqOf t with gprs := t.gprs, freeCtr := t.freeCtr } ∧ MemSame s t ∧
      ConfigReads s.cfg a v ∧
      (a = 0x0011 → v = zext32 s.sr) ∧
      (∀ j : BitVec 4, s.cfg.nsgf ≠ 0 ∨ j = 0 →
        (a = 0x0020 + j.setWidth 16 → v = s.epcr.at j) ∧ (a = 0x0030 + j.setWidth 16 → v = s.eear.at j) ∧
        (a = 0x0040 + j.setWidth 16 → v = s.esr.at j)) ∧
      (a = 0x0010 → s.hist = .straight → v = trunc s.cfg.xlen (s.pc + 4)) ∧
      (a = 0x0012 → s.hist = .straight → v = trunc s.cfg.xlen s.ppc) ∧
      (a = 0x0014 → s.cfg.orfpx32 = true ∨ s.cfg.orfpx64 = true → v = zext32 s.fpcsr) ∧
      (a = 0x000B → s.cfg.hasEvbar = true → v = zext32 s.evbar) ∧
      (a = 0x000C → s.cfg.hasAecr = true → v = zext32 s.aecr) ∧
      (a = 0x000D → s.cfg.hasAecr = true → v = zext32 s.aesr) ∧
      (∀ j : BitVec 9, a = 0x0400 + j.setWidth 16 → j.toNat / 32 ≤ s.cfg.nsgf.toNat →
        s.cfg.ngpr16 = false ∨ j.getLsbD 4 = false → v = s.gprAt j) ∧
      (s.cfg.dmp = true → MmuReads data s.dmmucr s.dmmupr 0x0800 a v ∧
        (s.cfg.unifiedMmu = true → MmuReads data s.dmmucr s.dmmupr 0x1000 a v)) ∧
      (s.cfg.imp = true → s.cfg.unifiedMmu = false → MmuReads insn s.immucr s.immupr 0x1000 a v) ∧
      (a = 0x1800 ∨ (s.cfg.unifiedCache = true ∧ a = 0x2000) → s.cfg.dcp = true → s.cfg.dc.ccri = true →
        v = zext32 s.dccr) ∧
      (s.cfg.unifiedCache = false ∧ a = 0x2000 → s.cfg.icp = true → s.cfg.ic.ccri = true → v = zext32 s.iccr) ∧
      ((0x1801 ≤ a ∧ a ≤ 0x1805) ∨ (0x2001 ≤ a ∧ a ≤ 0x2003) → v = 0) ∧
      (a = 0x2801 → s.cfg.mp = true → v = zext32 s.maclo) ∧ (a = 0x2802 → s.cfg.mp = true → v = zext32 s.machi) ∧
      (s.cfg.dup = true → DebugUnitReads s a v) ∧ (s.cfg.pcup = true → CounterReads s a v) ∧
      (a = 0x4000 → s.cfg.pmp = true → v = zext32 s.pmr) ∧
      (a = 0x4800 → s.cfg.picp = true → v = zext32 (s.picmr ||| (if s.cfg.picNmi then 3 else 0))) ∧
      (a = 0x4802 → s.cfg.picp = true →
        v = zext32 ((s.irqLines &&& ~~~s.cfg.picEdge) ||| (s.picLatch &&& s.cfg.picEdge))) ∧
      (a = 0x5000 → s.cfg.ttp = true → v = zext32 s.ttmr) ∧ (a = 0x5001 → s.cfg.ttp = true → v = zext32 s.ttcr)

/-- `l.mtspr` in supervisor mode completes at every address `a` = rA OR K; the registers listed take the written bits and nothing else
changes (44_orbis_control_system.md R565, R570; 10_state.md R45, R47, R70-R72, R75, R78, R98-R100; 60_exceptions.md R880; 20_memory.md
R240-R251, R268, R270-R279, R282; 61_platform_units.md R941, R942, R951, R952, R990-R996, R1010, R1011, R1020). A write to a read-only
register changes nothing (10_state.md R47, R51, R73, R85-R93, R96, R97, R101; 92_eei_decisions.md D5), nor does one to a cache block
register, but for the model's record of replaced instruction words (D16): DCBFR, DCBWR and ICBIR move those of the named block on and leave
the others (`BlockWrites`). SR is said by `SrWrite`. In a unified MMU or cache the addresses of the instruction side name the registers of
the data side (10_state.md R53).
THE MODEL'S CHOICE, not the spec's: that a reserved bit whose reset is X is zero after a write (DESIGN CHOICE, entry 6); that DTF and ITF
flush, that PTBP is kept, and the CID bits without fast context switching too (DESIGN CHOICE, entry 46); that a bit of PMR whose feature is
absent is zero (DESIGN CHOICE, entry 49); that NPC takes XLEN bits (DEDUCED, entry 47) and its write in a slot drops the pending jump
(DESIGN CHOICE, entry 32); that ESR takes XLEN bits (DEDUCED, entry 30); EEAR0 and ESR0 alone without fast context switching (DEDUCED,
entry 44); that r0 of every set is wired (DEDUCED, entry 36); what a cache block write-back or invalidation changes in the record of
replaced words (DESIGN CHOICE, entry 38); which registers a unified unit shares (DEDUCED, entry 45), that DCCFGR[CCRI] alone says whether
the merged cache control register is there, and the block registers of a unified cache (DESIGN CHOICE, entry 45); with XLEN = 64 which
entries xTLBEIR finds (DESIGN CHOICE, entry 14); and that a running PCCR takes its free count when PCMR is written (DESIGN CHOICE, entry
21). -/
def Obligations.MtsprResults : Prop :=
  ∀ (s : State) (ra rb : Reg) (k : BitVec 16), Ready (.lMtspr ra rb k) s → s.sr.getLsbD 0 = true →
    s.regMissing rb = false →
    let a := ((s.gpr ra ||| k.setWidth 64).setWidth 16 : BitVec 16)
    let v := s.gpr rb
    let w := (v.setWidth 32 : Word32)
    ∃ t, exec (.lMtspr ra rb k) s = .next t ∧ MemSame s t ∧ t.ppc = s.pc ∧
      (a ≠ 0x0010 → Completes s t) ∧
      (a = 0x0010 → t.pc = trunc s.cfg.xlen v &&& ~~~3 ∧ t.dsPending = false ∧ t = s.seqOf t) ∧
      (∀ j : BitVec 4, s.cfg.nsgf ≠ 0 ∨ j = 0 →
        (a = 0x0020 + j.setWidth 16 → t.epcr = s.epcr.put j v ∧ t = { s.seqOf t with epcr := t.epcr }) ∧
        (a = 0x0030 + j.setWidth 16 → t.eear = s.eear.put j v ∧ t = { s.seqOf t with eear := t.eear }) ∧
        (a = 0x0040 + j.setWidth 16 → t.esr = s.esr.put j v ∧ t = { s.seqOf t with esr := t.esr })) ∧
      (a = 0x0014 → s.cfg.orfpx32 = true ∨ s.cfg.orfpx64 = true → t.fpcsr = w &&& 0xFFF ∧
        t = { s.seqOf t with fpcsr := t.fpcsr }) ∧
      (a = 0x000B → s.cfg.hasEvbar = true → t.evbar = w &&& 0xFFFFE000 ∧ t = { s.seqOf t with evbar := t.evbar }) ∧
      (a = 0x000C → s.cfg.hasAecr = true → t.aecr = w &&& 0x7F ∧ t = { s.seqOf t with aecr := t.aecr }) ∧
      (a = 0x000D → s.cfg.hasAecr = true → t.aesr = w &&& 0x7F ∧ t = { s.seqOf t with aesr := t.aesr }) ∧
      (a = 0x2801 → s.cfg.mp = true → t.maclo = w ∧ t = { s.seqOf t with maclo := t.maclo }) ∧
      (a = 0x2802 → s.cfg.mp = true → t.machi = w ∧ t = { s.seqOf t with machi := t.machi }) ∧
      (a = 0x4000 → s.cfg.pmp = true → t.pmr = w &&& s.cfg.pmrFields.setWidth 32 ∧ t = { s.seqOf t with pmr := t.pmr }) ∧
      (a = 0x5000 → s.cfg.ttp = true → t.ttmr = (w &&& 0xEFFFFFFF) ||| (s.ttmr &&& w &&& 0x10000000) ∧
        t = { s.seqOf t with ttmr := t.ttmr }) ∧
      (a = 0x5001 → s.cfg.ttp = true → t.ttcr = w ∧ t = { s.seqOf t with ttcr := t.ttcr }) ∧
      (s.cfg.dmp = true → DataMmuWrites s t 0x0800 a v ∧ (s.cfg.unifiedMmu = true → DataMmuWrites s t 0x1000 a v)) ∧
      (s.cfg.imp = true → s.cfg.unifiedMmu = false → InsnMmuWrites s t a v) ∧
      (s.cfg.dup = true → DebugUnitWrites s t a w) ∧ (s.cfg.pcup = true → CounterWrites s t a w) ∧
      (s.cfg.picp = true → PicWrites s t a w) ∧
      (a = 0x1800 ∨ (s.cfg.unifiedCache = true ∧ a = 0x2000) → s.cfg.dcp = true → s.cfg.dc.ccri = true →
        t.dccr = w &&& 0xFF ∧ t = { s.seqOf t with dccr := t.dccr }) ∧
      (s.cfg.unifiedCache = false ∧ a = 0x2000 → s.cfg.icp = true → s.cfg.ic.ccri = true →
        t.iccr = w &&& 0xFF ∧ t = { s.seqOf t with iccr := t.iccr }) ∧
      (a = 0x1802 ∨ a = 0x1804 ∨ a = 0x2002 → BlockWrites s t a v ∧ t = { s.seqOf t with stale := t.stale }) ∧
      (a = 0x1801 ∨ a = 0x1803 ∨ a = 0x1805 ∨ a = 0x2001 ∨ a = 0x2003 → t = s.seqOf t) ∧
      (a ≤ 0x000A ∨ a = 0x0012 ∨ (0x0015 ≤ a ∧ a ≤ 0x001C) ∨ a = 0x0080 ∨ a = 0x0081 → t = s.seqOf t) ∧
      (∀ j : BitVec 9, a = 0x0400 + j.setWidth 16 → j.toNat / 32 ≤ s.cfg.nsgf.toNat →
        s.cfg.ngpr16 = false ∨ j.getLsbD 4 = false →
        t.gprAt j = (if s.cfg.r0Hardwired && j.extractLsb' 0 5 == 0 then 0 else v) ∧
        (∀ i, i ≠ j → t.gprAt i = s.gprAt i) ∧ t = { s.seqOf t with gprs := t.gprs })

/-- In supervisor mode a special-purpose register that is not implemented reads as zero, and a write to it has no effect (10_state.md
R52). THE MODEL'S READING of which are not, beside each register's own presence rule: with 16 general registers the addresses of r16 to
r31 of each set (DESIGN CHOICE, entry 17), the configuration registers of absent units or with VR[CFG] of 50 or more (DEDUCED, entry
27), EEAR1-15 and ESR1-15 without fast context switching (DEDUCED, entry 44), and in a unified cache the merged control register at 0x1800
and 0x2000 where DCCFGR[CCRI] = 0, also with ICCFGR[CCRI] = 1 (DESIGN CHOICE, entry 45). -/
def Obligations.UnimplementedSpr : Prop :=
  ∀ (s : State) (r ra : Reg) (k : BitVec 16), s.sr.getLsbD 0 = true → s.regMissing r = false →
    (∀ x, sprAt s.cfg ((s.gpr ra ||| k.setWidth 64).setWidth 16) = some x → x.present s.cfg = false) →
    (Ready (.lMfspr r ra k) s → ∃ t, exec (.lMfspr r ra k) s = .next t ∧ WritesOnly s t r 0) ∧
    (Ready (.lMtspr ra r k) s →
      ∃ t, exec (.lMtspr ra r k) s = .next t ∧ Completes s t ∧ t = s.seqOf t ∧ MemSame s t)

/-- A write of SR in supervisor mode: bits 31:28, 16 and 14:0 are replaced, FO stays 1, bits 27:17 stay 0 and LEE
stays 0 where it is not supported; nothing else changes (10_state.md R61, 92_eei_decisions.md D6). -/
def Obligations.SrWrite : Prop :=
  ∀ (s : State) (ra rb : Reg) (k : BitVec 16), Ready (.lMtspr ra rb k) s → s.sr.getLsbD 0 = true →
    s.regMissing rb = false → ((s.gpr ra ||| k.setWidth 64).setWidth 16 : BitVec 16) = 0x0011 →
    ∃ t, exec (.lMtspr ra rb k) s = .next t ∧ Completes s t ∧ t = { s.seqOf t with sr := t.sr } ∧ MemSame s t ∧
      t.sr.extractLsb' 28 4 = (s.gpr rb).extractLsb' 28 4 ∧ t.sr.extractLsb' 17 11 = 0 ∧
      t.sr.getLsbD 16 = (s.gpr rb).getLsbD 16 ∧ t.sr.getLsbD 15 = true ∧
      t.sr.extractLsb' 8 7 = (s.gpr rb).extractLsb' 8 7 ∧
      t.sr.getLsbD 7 = (s.cfg.leeSupported && (s.gpr rb).getLsbD 7) ∧
      t.sr.extractLsb' 0 7 = (s.gpr rb).extractLsb' 0 7

/-- Special-register moves in user mode (10_state.md R51, R52, R54; 60_exceptions.md R891; 92_eei_decisions.md D4, D5): both moves raise
Illegal Instruction at every address that is not open to the user (`userOpen`), which are every register without a user right, those with
one whose presence bit is 0 or that SR[SUMRA] closes, and every address with no register; of the open ones MACLO and MACHI may
be read and written; FPCSR, PCCR and TTCR may be read exactly while SR[SUMRA] = 1; the cache block registers but DCBIR may be written, and
read as zero.
THE MODEL'S CHOICE, not the spec's: that a user write to FPCSR, PCCR or TTCR with SR[SUMRA] = 1 does nothing and raises nothing (DEDUCED,
entry 37), and what a write to a cache block register changes in the model's record of replaced instruction words (`BlockWrites`, DESIGN
CHOICE, entry 38). -/
def Obligations.UserSprAccess : Prop :=
  ∀ (s : State) (r ra : Reg) (k : BitVec 16), s.sr.getLsbD 0 = false → s.regMissing r = false →
    s.redirects .illegal = false →
    let a := ((s.gpr ra ||| k.setWidth 64).setWidth 16 : BitVec 16)
    let traps := fun (i : Instr) => ∃ t, exec i s = .next t ∧ Enters s t .illegal s.pc
    let reads := fun (p : Word → Prop) => ∃ (t : State) (v : Word), exec (.lMfspr r ra k) s = .next t ∧ p v ∧
      WritesReg s t r v ∧ Completes s t ∧ t = { s.seqOf t with gprs := t.gprs, freeCtr := t.freeCtr } ∧ MemSame s t
    let whileSumra := fun (p : Word → Prop) =>
      (s.sr.getLsbD 16 = true →
        (Ready (.lMfspr r ra k) s → reads p) ∧
        (Ready (.lMtspr ra r k) s →
          ∃ t, exec (.lMtspr ra r k) s = .next t ∧ Completes s t ∧ t = s.seqOf t ∧ MemSame s t)) ∧
      (s.sr.getLsbD 16 = false →
        (Ready (.lMfspr r ra k) s → traps (.lMfspr r ra k)) ∧ (Ready (.lMtspr ra r k) s → traps (.lMtspr ra r k)))
    (userOpen s a = false →
      (Ready (.lMfspr r ra k) s → traps (.lMfspr r ra k)) ∧ (Ready (.lMtspr ra r k) s → traps (.lMtspr ra r k))) ∧
    (a = 0x2801 → s.cfg.mp = true →
      (Ready (.lMfspr r ra k) s → ∃ t, exec (.lMfspr r ra k) s = .next t ∧ WritesOnly s t r (zext32 s.maclo)) ∧
      (Ready (.lMtspr ra r k) s → ∃ t, exec (.lMtspr ra r k) s = .next t ∧ Completes s t ∧
        t.maclo = (s.gpr r).setWidth 32 ∧ t = { s.seqOf t with maclo := t.maclo } ∧ MemSame s t)) ∧
    (a = 0x2802 → s.cfg.mp = true →
      (Ready (.lMfspr r ra k) s → ∃ t, exec (.lMfspr r ra k) s = .next t ∧ WritesOnly s t r (zext32 s.machi)) ∧
      (Ready (.lMtspr ra r k) s → ∃ t, exec (.lMtspr ra r k) s = .next t ∧ Completes s t ∧
        t.machi = (s.gpr r).setWidth 32 ∧ t = { s.seqOf t with machi := t.machi } ∧ MemSame s t)) ∧
    (a = 0x5001 → s.cfg.ttp = true → whileSumra (· = zext32 s.ttcr)) ∧
    (a = 0x0014 → s.cfg.orfpx32 = true ∨ s.cfg.orfpx64 = true → whileSumra (· = zext32 s.fpcsr)) ∧
    (∀ j : BitVec 3, a = 0x3800 + j.setWidth 16 → s.cfg.pcup = true → j.toNat ≤ s.cfg.npc.toNat →
      whileSumra (fun v => (s.pcmr.at j).extractLsb' 4 22 = 0 → v = zext32 (s.pccr.at j))) ∧
    ((s.cfg.dcp = true ∧ ((a = 0x1801 ∧ s.cfg.dc.cbpri = true) ∨ (a = 0x1802 ∧ s.cfg.dc.cbfri = true) ∨
        (a = 0x1804 ∧ s.cfg.dc.cbwbri = true) ∨ (a = 0x1805 ∧ s.cfg.dc.cblri = true))) ∨
      (s.cfg.icp = true ∧ ((a = 0x2001 ∧ s.cfg.ic.cbpri = true) ∨ (a = 0x2002 ∧ s.cfg.ic.cbiri = true) ∨
        (a = 0x2003 ∧ s.cfg.ic.cblri = true))) →
      (Ready (.lMfspr r ra k) s → ∃ t, exec (.lMfspr r ra k) s = .next t ∧ WritesOnly s t r 0) ∧
      (Ready (.lMtspr ra r k) s → ∃ t, exec (.lMtspr ra r k) s = .next t ∧ Completes s t ∧
        BlockWrites s t a (s.gpr r) ∧ t = { s.seqOf t with stale := t.stale } ∧ MemSame s t))

/-- No instruction executed in user mode changes what only the supervisor may change, or enters supervisor mode,
except by the entry of an exception from a state that differs from it in nothing else (10_state.md R51, R54;
60_exceptions.md R840, R890, R891). An instruction that is no load or store leaves memory, the OMPIC and the data translation
registers alone; a load or store sets at most the page history that the translation of its own effective address gives, and a
store changes only the bytes at that address, translated; of the general registers those of its own context; AESR, DRR and
the interrupt latches only as their own rules say (`UserSame`). -/
def Obligations.UserModeProtected : Prop :=
  ∀ (i : Instr) (s t : State), s.sr.getLsbD 0 = false → exec i s = .next t →
    UserSame i s t ∨ ∃ (u : State) (x : Exc) (ea : Word), UserSame i s u ∧ u.redirects x = false ∧ t = u.enter x ea

/-- The encodings of the custom space raise Illegal Instruction (30_encoding.md R332, 44_orbis_control_system.md R571,
92_eei_decisions.md D18). -/
def Obligations.CustomSpaceTraps : Prop :=
  ∀ (s : State) (rd ra rb : Reg) (l : BitVec 6) (k : BitVec 5) (i : Instr),
    (i = .lCust1 ∨ i = .lCust2 ∨ i = .lCust3 ∨ i = .lCust4 ∨ i = .lCust5 rd ra rb l k ∨ i = .lCust6 ∨ i = .lCust7 ∨
      i = .lCust8 ∨ i = .lvCust1 ∨ i = .lvCust2 ∨ i = .lvCust3 ∨ i = .lvCust4 ∨ i = .lfCust1S ra rb ∨
      i = .lfCust1D ra rb) →
    Ready i s → s.redirects .illegal = false → ∃ t, exec i s = .next t ∧ Enters s t .illegal s.pc

/-! ## Floating point -/

/-- Arithmetic and conversions with FPCSR[FPEE] = 0: rD and the accumulated flags of the operation on the data in the
registers, and nothing else (45_orfpx.md R601-R603, R606, R610-R614, R616, R617, R625-R629, R631, R632). The rounding mode is
FPCSR[2:1]: 0 nearest, 1 toward zero, 2 up, 3 down (`fpEnvironment`, 10_state.md R75); each flag stands at its own bit of FPCSR
(`fpcsrFlags`). What the operations give is the statement `FpValueRules`.
THE MODEL'S CHOICE, not the spec's: that ZF follows the integer of an `lf.ftoi` whose value the sources leave open (`signalled`; DESIGN
CHOICE, entry 19), which R603 says of any integer 0, where 95_test_vectors.md T40 prints FPCSR = 0x200 beside "any value". -/
def Obligations.FpArithResults : Prop :=
  ∀ (s : State) (rd ra rb : Reg), s.fpcsr.getLsbD 0 = false →
    let e := fpEnvironment s
    let does := fun (i : Instr) (f : Fmt) (r : FRes) => Ready i s →
      ∃ (t : State) (v : Word), exec i s = .next t ∧ FpWrites s t f rd r v
    let x := singleOperand s ra
    let y := singleOperand s rb
    let u := doubleOperand s ra
    let v := doubleOperand s rb
    does (.lfAddS rd ra rb) .single (fpAdd .single e x y) ∧ does (.lfSubS rd ra rb) .single (fpSub .single e x y) ∧
    does (.lfMulS rd ra rb) .single (fpMul .single e x y) ∧ does (.lfDivS rd ra rb) .single (fpDiv .single e x y) ∧
    does (.lfRemS rd ra rb) .single (fpRem .single e s.cfg.fpRem x y) ∧
    does (.lfItofS rd ra) .single (fpOfInt .single e ((s.gpr ra).setWidth 32).toInt) ∧
    does (.lfFtoiS rd ra) .single (fpToInt .single e x) ∧
    does (.lfAddD rd ra rb) .double (fpAdd .double e u v) ∧ does (.lfSubD rd ra rb) .double (fpSub .double e u v) ∧
    does (.lfMulD rd ra rb) .double (fpMul .double e u v) ∧ does (.lfDivD rd ra rb) .double (fpDiv .double e u v) ∧
    does (.lfRemD rd ra rb) .double (fpRem .double e s.cfg.fpRem u v) ∧
    does (.lfItofD rd ra) .double (fpOfInt .double e (s.gpr ra).toInt) ∧
    does (.lfFtoiD rd ra) .double (fpToInt .double e u)

/-- What the operations give (45_orfpx.md R601-R603, R606, R610-R617; 10_state.md R75; 93_implementation_defined.md U12-U14): NaN and
infinite operands, invalid operations (QNF and IVF, no other flag), division by zero; on numbers, `roundResult` of the exact result, which
is the nearest number of the format in the rounding mode (the binade, the error of each mode, the flags, overflow, and a denormal result
where those are not supported); the integer of `lf.ftoi`; what a bit pattern stands for. A remainder is the exact value and never inexact,
so it signals neither IXF nor UNF, flushed or not (R606).
THE MODEL'S CHOICE, not the spec's, are these clauses: that another result flushed to zero signals UNF, IXF and ZF, a flushed remainder ZF
without UNF, and a flushed operand nothing (DESIGN CHOICE, entry 19); that a NaN is quiet where its top fraction bit is one (PRESUMED, entry
19); that a zero remainder has the sign of the dividend and an infinite divisor leaves the dividend (PRESUMED, entry 20). -/
def Obligations.FpValueRules : Prop :=
  (∀ (f : Fmt) (e : FEnv) (k : RemKind) (a b : FVal), a.isNan = true ∨ b.isNan = true →
    ∀ r ∈ [fpAdd f e a b, fpSub f e a b, fpMul f e a b, fpDiv f e a b, fpRem f e k a b],
      r = { out := .quietNan, flags := { qnf := true, ivf := decide (a = .nan true ∨ b = .nan true) } }) ∧
  (∀ (f : Fmt) (e : FEnv) (k : RemKind) (n m : Bool) (x : Nat) (p : Int),
    ∀ r ∈ [fpAdd f e (.inf n) (.inf !n), fpSub f e (.inf n) (.inf n), fpMul f e (.num n 0 p) (.inf m),
        fpMul f e (.inf m) (.num n 0 p), fpDiv f e (.num n 0 p) (.num m 0 p), fpDiv f e (.inf n) (.inf m),
        fpRem f e k (.inf n) (.num m x p), fpRem f e k (.num n x p) (.num m 0 p)],
      r = { out := .quietNan, flags := { qnf := true, ivf := true } }) ∧
  (∀ (f : Fmt) (e : FEnv) (n m : Bool) (x : Nat) (p : Int),
    let inf := fun (neg : Bool) => ({ out := .bits (pack f neg f.emax 0), flags := { inf := true } } : FRes)
    fpAdd f e (.inf n) (.num m x p) = inf n ∧ fpAdd f e (.num m x p) (.inf n) = inf n ∧
    fpAdd f e (.inf n) (.inf n) = inf n ∧ fpSub f e (.inf n) (.num m x p) = inf n ∧
    fpSub f e (.num m x p) (.inf n) = inf (!n) ∧ fpSub f e (.inf n) (.inf !n) = inf n ∧
    fpMul f e (.inf n) (.inf m) = inf (n != m) ∧
    (x ≠ 0 → fpMul f e (.inf n) (.num m x p) = inf (n != m) ∧ fpMul f e (.num m x p) (.inf n) = inf (n != m)) ∧
    fpDiv f e (.inf n) (.num m x p) = inf (n != m) ∧
    fpDiv f e (.num m x p) (.inf n) = { out := .bits (pack f (n != m) 0 0), flags := { zf := true } }) ∧
  (∀ (f : Fmt) (e : FEnv) (n m : Bool) (x : Nat) (p q : Int), x ≠ 0 →
    fpDiv f e (.num n x p) (.num m 0 q) =
      { out := .bits (pack f (n != m) f.emax 0), flags := { inf := true, dzf := true } }) ∧
  (∀ (f : Fmt) (e : FEnv) (n m : Bool) (x y : Nat) (p q : Int),
    let a : FVal := .num n x p
    let b : FVal := .num m y q
    RoundsTo f e (if n = m then n else e.mode == .down) (a.exact + b.exact) (fpAdd f e a b) ∧
    RoundsTo f e (if n = !m then n else e.mode == .down) (a.exact - b.exact) (fpSub f e a b) ∧
    RoundsTo f e (n != m) (a.exact * b.exact) (fpMul f e a b) ∧
    (y ≠ 0 → RoundsTo f e (n != m) (a.exact / b.exact) (fpDiv f e a b) ∧
      ∀ k, ∃ z : Int, let r := a.exact - z * b.exact
        NeverInexact (RoundsTo f e n r) (fpRem f e k a b) ∧
        (k = .trunc → |r| < |b.exact| ∧ 0 ≤ r * a.exact) ∧
        (k = .ieee → 2 * |r| ≤ |b.exact| ∧ (2 * |r| = |b.exact| → Even z))) ∧
    (∀ k, NeverInexact (RoundsTo f e n a.exact) (fpRem f e k a (.inf m))) ∧
    (∀ z : Int, RoundsTo f e false (z : ℚ) (fpOfInt f e z))) ∧
  (∀ (p q : Nat) (e : Int), 0 < p → 0 < q →
    scaledDen q e (binade p q e) ≤ scaledNum p e (binade p q e) ∧
    scaledNum p e (binade p q e) < 2 * scaledDen q e (binade p q e)) ∧
  (∀ (mode : RMode) (neg : Bool) (p q : Nat) (e t : Int), 0 < q →
    let n := scaledNum p e t
    let d := scaledDen q e t
    let r := roundAt mode neg p q e t
    (n : ℚ) / d = (p : ℚ) / q * 2 ^ (e - t) ∧
    (r.2 = true ↔ n = r.1 * d) ∧ n < r.1 * d + d ∧ r.1 * d < n + d ∧
    (mode = .zero → r.1 * d ≤ n) ∧ (mode = .up → if neg then r.1 * d ≤ n else n ≤ r.1 * d) ∧
    (mode = .down → if neg then n ≤ r.1 * d else r.1 * d ≤ n) ∧
    (mode = .nearest → 2 * (r.1 * d) ≤ 2 * n + d ∧ 2 * n ≤ 2 * (r.1 * d) + d ∧
      (2 * (r.1 * d) = 2 * n + d ∨ 2 * n = 2 * (r.1 * d) + d → r.1 % 2 = 0))) ∧
  (∀ (f : Fmt) (env : FEnv) (neg : Bool) (p q : Nat) (e : Int), f = .single ∨ f = .double → 0 < p → 0 < q →
    let k := binade p q e
    let t := max k f.emin - f.fbits
    let m := (roundAt env.mode neg p q e t).1
    let inexact := !(roundAt env.mode neg p q e t).2
    let tiny := decide (k < f.emin) &&
      !(env.tinyAfter && decide ((2 : ℚ) ^ f.emin ≤ (roundAt env.mode neg p q e (k - f.fbits)).1 * 2 ^ (k - f.fbits)))
    let r := roundResult f env neg p q e
    ((2 : ℚ) ^ (f.bias + 1) ≤ m * 2 ^ t →
      let toInf := env.mode = .nearest ∨ env.mode = (if neg then .down else .up)
      r = { out := .bits (if toInf then pack f neg f.emax 0 else pack f neg (f.emax - 1) (2 ^ f.fbits - 1))
            flags := { ovf := true, ixf := true, inf := decide toInf } }) ∧
    ((m : ℚ) * 2 ^ t < 2 ^ (f.bias + 1) → env.denormals = true ∨ m = 0 ∨ 2 ^ f.fbits ≤ m →
      (∃ n, r.out = .bits n ∧ n < 2 ^ f.width ∧
        ∃ (m' : Nat) (e' : Int), unpack f env n = .num neg m' e' ∧ (m' : ℚ) * 2 ^ e' = m * 2 ^ t) ∧
      r.flags = { unf := tiny && inexact, ixf := inexact, zf := decide (m = 0) }) ∧
    (env.denormals = false → 0 < m → m < 2 ^ f.fbits →
      r = { out := .bits (pack f neg 0 0), flags := { unf := true, ixf := true, zf := true } })) ∧
  (∀ (f : Fmt) (env : FEnv) (n : Bool) (x : Nat) (p : Int), f = .single ∨ f = .double →
    let r := roundAt env.mode n x 1 p 0
    let z := signedMan n r.1
    (-(2 ^ (f.width - 1)) ≤ z ∧ z < 2 ^ (f.width - 1) → fpToInt f env (.num n x p) =
      { out := .bits (BitVec.ofInt f.width z).toNat, flags := { zf := decide (z = 0), ixf := !r.2 } }) ∧
    (¬ (-(2 ^ (f.width - 1)) ≤ z ∧ z < 2 ^ (f.width - 1)) →
      fpToInt f env (.num n x p) = { out := .anyInt, flags := { ivf := true } }) ∧
    (∀ a : FVal, a.isNan = true ∨ a = .inf n → fpToInt f env a = { out := .anyInt, flags := { ivf := true } })) ∧
  (∀ (f : Fmt) (env : FEnv) (neg : Bool) (be m : Nat), f = .single ∨ f = .double → be ≤ f.emax → m < 2 ^ f.fbits →
    unpack f env (pack f neg be m) =
      if be = f.emax then (if m = 0 then .inf neg else .nan (decide (m < 2 ^ (f.fbits - 1))))
      else if be = 0 then .num neg (if env.denormals then m else 0) (f.emin - f.fbits)
      else .num neg (2 ^ f.fbits + m) (be - f.bias - f.fbits))

/-- Floating-point compares write SR[F] and nothing else: with a NaN only `ne` holds; infinities stand beyond every
number, numbers compare by value, so -0 equals +0 (45_orfpx.md R605, R618-R623, R633-R638). -/
def Obligations.FpCompares : Prop :=
  (∀ (s : State) (ra rb : Reg),
    let does := fun (i : Instr) (b : Bool) => Ready i s → ∃ t, exec i s = .next t ∧ WritesFlag s t b
    let x := singleOperand s ra
    let y := singleOperand s rb
    let u := doubleOperand s ra
    let v := doubleOperand s rb
    let num := fun (a b : FVal) => !a.isNan && !b.isNan
    does (.lfSfeqS ra rb) (num x y && !fpLess x y && !fpLess y x) ∧
    does (.lfSfneS ra rb) (!num x y || fpLess x y || fpLess y x) ∧
    does (.lfSfgtS ra rb) (num x y && fpLess y x) ∧ does (.lfSfgeS ra rb) (num x y && !fpLess x y) ∧
    does (.lfSfltS ra rb) (num x y && fpLess x y) ∧ does (.lfSfleS ra rb) (num x y && !fpLess y x) ∧
    does (.lfSfeqD ra rb) (num u v && !fpLess u v && !fpLess v u) ∧
    does (.lfSfneD ra rb) (!num u v || fpLess u v || fpLess v u) ∧
    does (.lfSfgtD ra rb) (num u v && fpLess v u) ∧ does (.lfSfgeD ra rb) (num u v && !fpLess u v) ∧
    does (.lfSfltD ra rb) (num u v && fpLess u v) ∧ does (.lfSfleD ra rb) (num u v && !fpLess v u)) ∧
  (∀ (m n : Bool) (x y : Nat) (p q e : Int),
    (e ≤ p → e ≤ q → fpLess (.num m x p) (.num n y q) =
      decide (signedMan m (x * 2 ^ (p - e).toNat) < signedMan n (y * 2 ^ (q - e).toNat))) ∧
    fpLess (.inf m) (.num n y q) = m ∧ fpLess (.num n y q) (.inf m) = !m ∧ fpLess (.inf m) (.inf n) = (m && !n))

/-- With FPCSR[FPEE] = 1 the fourteen arithmetic instructions and conversions write rD and the flags as always; then, where the
operation produced a flag of FP_TRAP_MASK, Floating Point is taken, with EPCR the next instruction, or the jump in a delay
slot; where it produced none, the instruction completes (45_orfpx.md R603, R604; 60_exceptions.md R856, R861). The rounding mode is
FPCSR[2:1] and each flag stands at its own bit, as in `FpArithResults` (10_state.md R75, 45_orfpx.md R602).
THE MODEL'S CHOICE, not the spec's: that ZF, which may trap, follows the integer of an `lf.ftoi` whose value the sources leave open
(DESIGN CHOICE, entry 19), where 95_test_vectors.md T40 prints FPCSR = 0x200 beside "any value". -/
def Obligations.FpTrap : Prop :=
  ∀ (s : State) (rd ra rb : Reg), s.fpcsr.getLsbD 0 = true →
    let e := fpEnvironment s
    let traps := fun (i : Instr) (f : Fmt) (r : FRes) => Ready i s →
      ∃ (v : Word) (t : State), FpGives f r v ∧ exec i s = .next t ∧
        ((fpcsrFlags (signalled r v)).extractLsb' 3 9 &&& s.cfg.fpTrapMask = 0 → FpWrites s t f rd r v) ∧
        ((fpcsrFlags (signalled r v)).extractLsb' 3 9 &&& s.cfg.fpTrapMask ≠ 0 → s.redirects .floatingPoint = false →
          ∃ u, FpResult s u f rd r v ∧ u = { s with gprs := u.gprs, fpcsr := u.fpcsr, freeCtr := u.freeCtr } ∧
            Enters u t .floatingPoint 0 ∧
            t.epcr.at s.entryCtx = trunc s.cfg.xlen (if s.dsPending then s.pc - 4 else s.pc + 4))
    let x := singleOperand s ra
    let y := singleOperand s rb
    let u := doubleOperand s ra
    let v := doubleOperand s rb
    traps (.lfAddS rd ra rb) .single (fpAdd .single e x y) ∧ traps (.lfSubS rd ra rb) .single (fpSub .single e x y) ∧
    traps (.lfMulS rd ra rb) .single (fpMul .single e x y) ∧ traps (.lfDivS rd ra rb) .single (fpDiv .single e x y) ∧
    traps (.lfRemS rd ra rb) .single (fpRem .single e s.cfg.fpRem x y) ∧
    traps (.lfItofS rd ra) .single (fpOfInt .single e ((s.gpr ra).setWidth 32).toInt) ∧
    traps (.lfFtoiS rd ra) .single (fpToInt .single e x) ∧
    traps (.lfAddD rd ra rb) .double (fpAdd .double e u v) ∧ traps (.lfSubD rd ra rb) .double (fpSub .double e u v) ∧
    traps (.lfMulD rd ra rb) .double (fpMul .double e u v) ∧ traps (.lfDivD rd ra rb) .double (fpDiv .double e u v) ∧
    traps (.lfRemD rd ra rb) .double (fpRem .double e s.cfg.fpRem u v) ∧
    traps (.lfItofD rd ra) .double (fpOfInt .double e (s.gpr ra).toInt) ∧
    traps (.lfFtoiD rd ra) .double (fpToInt .double e u)

/-- The instructions whose accumulator the sources define nowhere are decoded and refused (45_orfpx.md R607, R615,
R630; 47_orvdx_b.md R760, R761, R768; 93_implementation_defined.md U16, U17). -/
def Obligations.AccumulatorStops : Prop :=
  ∀ (s : State) (rd ra rb : Reg),
    (Ready (.lfMaddS rd ra rb) s → exec (.lfMaddS rd ra rb) s = .refused .fpMaddUndefined) ∧
    (Ready (.lfMaddD rd ra rb) s → exec (.lfMaddD rd ra rb) s = .refused .fpMaddUndefined) ∧
    (Ready (.lvMaddsH rd ra rb) s → exec (.lvMaddsH rd ra rb) s = .refused .vmacUndefined) ∧
    (Ready (.lvMsubsH rd ra rb) s → exec (.lvMsubsH rd ra rb) s = .refused .vmacUndefined)

/-! ## Vectors -/

/-- Sums, differences, averages, extrema, merges and products of elements, plain and saturated: the elements of rD and
nothing else; averages and extrema are signed exactly where LV_ORDER_SIGNED says so (46_orvdx_a.md R681-R685,
R690-R697, R725, R726; 47_orvdx_b.md R762-R767, R769, R790-R797; 00_scope.md R15). -/
def Obligations.VectorArith : Prop :=
  ∀ (s : State) (rd ra rb : Reg),
    let a := s.gpr ra
    let b := s.gpr rb
    let does := fun (j : Instr) (w : Nat) (p : Nat → BitVec w → Prop) =>
      Ready j s → ∃ t, exec j s = .next t ∧ WritesLanes w s t rd p
    let val8 := fun (x : BitVec 8) => if s.cfg.lvOrderSigned then x.toInt else (x.toNat : Int)
    let val16 := fun (x : BitVec 16) => if s.cfg.lvOrderSigned then x.toInt else (x.toNat : Int)
    does (.lvAddB rd ra rb) 8 (fun i x => x = lane 8 a i + lane 8 b i) ∧
    does (.lvAdduB rd ra rb) 8 (fun i x => x = lane 8 a i + lane 8 b i) ∧
    does (.lvSubB rd ra rb) 8 (fun i x => x = lane 8 a i - lane 8 b i) ∧
    does (.lvSubuB rd ra rb) 8 (fun i x => x = lane 8 a i - lane 8 b i) ∧
    does (.lvAddsB rd ra rb) 8 (fun i x => x.toInt = max (-128) (min 127 ((lane 8 a i).toInt + (lane 8 b i).toInt))) ∧
    does (.lvSubsB rd ra rb) 8 (fun i x => x.toInt = max (-128) (min 127 ((lane 8 a i).toInt - (lane 8 b i).toInt))) ∧
    does (.lvAddusB rd ra rb) 8 (fun i x => x.toNat = min 255 ((lane 8 a i).toNat + (lane 8 b i).toNat)) ∧
    does (.lvSubusB rd ra rb) 8 (fun i x => x.toNat = (lane 8 a i).toNat - (lane 8 b i).toNat) ∧
    does (.lvAvgB rd ra rb) 8 (fun i x => val8 x = (val8 (lane 8 a i) + val8 (lane 8 b i)) / 2) ∧
    does (.lvMaxB rd ra rb) 8 (fun i x => val8 x = max (val8 (lane 8 a i)) (val8 (lane 8 b i))) ∧
    does (.lvMinB rd ra rb) 8 (fun i x => val8 x = min (val8 (lane 8 a i)) (val8 (lane 8 b i))) ∧
    does (.lvMergeB rd ra rb) 8 (fun i x => x = if i % 2 = 0 then lane 8 b i else lane 8 a i) ∧
    does (.lvAddH rd ra rb) 16 (fun i x => x = lane 16 a i + lane 16 b i) ∧
    does (.lvAdduH rd ra rb) 16 (fun i x => x = lane 16 a i + lane 16 b i) ∧
    does (.lvSubH rd ra rb) 16 (fun i x => x = lane 16 a i - lane 16 b i) ∧
    does (.lvSubuH rd ra rb) 16 (fun i x => x = lane 16 a i - lane 16 b i) ∧
    does (.lvAddsH rd ra rb) 16
      (fun i x => x.toInt = max (-32768) (min 32767 ((lane 16 a i).toInt + (lane 16 b i).toInt))) ∧
    does (.lvSubsH rd ra rb) 16
      (fun i x => x.toInt = max (-32768) (min 32767 ((lane 16 a i).toInt - (lane 16 b i).toInt))) ∧
    does (.lvAddusH rd ra rb) 16 (fun i x => x.toNat = min 65535 ((lane 16 a i).toNat + (lane 16 b i).toNat)) ∧
    does (.lvSubusH rd ra rb) 16 (fun i x => x.toNat = (lane 16 a i).toNat - (lane 16 b i).toNat) ∧
    does (.lvAvgH rd ra rb) 16 (fun i x => val16 x = (val16 (lane 16 a i) + val16 (lane 16 b i)) / 2) ∧
    does (.lvMaxH rd ra rb) 16 (fun i x => val16 x = max (val16 (lane 16 a i)) (val16 (lane 16 b i))) ∧
    does (.lvMinH rd ra rb) 16 (fun i x => val16 x = min (val16 (lane 16 a i)) (val16 (lane 16 b i))) ∧
    does (.lvMergeH rd ra rb) 16 (fun i x => x = if i % 2 = 0 then lane 16 b i else lane 16 a i) ∧
    does (.lvMulsH rd ra rb) 16
      (fun i x => x.toInt = max (-32768) (min 32767 ((lane 16 a i).toInt * (lane 16 b i).toInt)))

/-- Logic and shifts: whole registers for the logical ones and `lv.sll`, `lv.srl` (by rB[2:0]); element by element,
bit by bit, for the others (46_orvdx_a.md R724; 47_orvdx_b.md R770-R772, R780-R789, R800). -/
def Obligations.VectorLogicShift : Prop :=
  ∀ (s : State) (rd ra rb : Reg),
    let a := s.gpr ra
    let b := s.gpr rb
    let whole := fun (j : Instr) (v : Word) => Ready j s → ∃ t, exec j s = .next t ∧ WritesOnly s t rd v
    let does := fun (j : Instr) (w : Nat) (p : Nat → BitVec w → Prop) =>
      Ready j s → ∃ t, exec j s = .next t ∧ WritesLanes w s t rd p
    whole (.lvAnd rd ra rb) (s.gpr ra &&& s.gpr rb) ∧
    whole (.lvOr rd ra rb) (s.gpr ra ||| s.gpr rb) ∧
    whole (.lvXor rd ra rb) (s.gpr ra ^^^ s.gpr rb) ∧
    whole (.lvNand rd ra rb) (~~~(s.gpr ra &&& s.gpr rb)) ∧
    whole (.lvNor rd ra rb) (~~~(s.gpr ra ||| s.gpr rb)) ∧
    whole (.lvSll rd ra rb) (s.gpr ra <<< ((s.gpr rb).toNat % 8)) ∧
    whole (.lvSrl rd ra rb) (s.gpr ra >>> ((s.gpr rb).toNat % 8)) ∧
    does (.lvSllB rd ra rb) 8
      (fun i x => ∀ k < 8, x.getLsbD k =
          (decide ((lane 8 b i).toNat % 8 ≤ k) && (lane 8 a i).getLsbD (k - ((lane 8 b i).toNat % 8)))) ∧
    does (.lvSrlB rd ra rb) 8
      (fun i x => ∀ k < 8, x.getLsbD k =
          (decide (k + (lane 8 b i).toNat % 8 < 8) && (lane 8 a i).getLsbD (k + ((lane 8 b i).toNat % 8)))) ∧
    does (.lvSraB rd ra rb) 8
      (fun i x => ∀ k < 8, x.getLsbD k = (lane 8 a i).getLsbD (min (k + ((lane 8 b i).toNat % 8)) 7)) ∧
    does (.lvRlB rd ra rb) 8
      (fun i x => ∀ k < 8, x.getLsbD ((k + ((lane 8 b i).toNat % 8)) % 8) = (lane 8 a i).getLsbD k) ∧
    does (.lvSllH rd ra rb) 16
      (fun i x => ∀ k < 16, x.getLsbD k =
          (decide ((lane 16 b i).toNat % 16 ≤ k) && (lane 16 a i).getLsbD (k - ((lane 16 b i).toNat % 16)))) ∧
    does (.lvSrlH rd ra rb) 16
      (fun i x => ∀ k < 16, x.getLsbD k =
          (decide (k + (lane 16 b i).toNat % 16 < 16) && (lane 16 a i).getLsbD (k + ((lane 16 b i).toNat % 16)))) ∧
    does (.lvSraH rd ra rb) 16
      (fun i x => ∀ k < 16, x.getLsbD k = (lane 16 a i).getLsbD (min (k + ((lane 16 b i).toNat % 16)) 15)) ∧
    does (.lvRlH rd ra rb) 16
      (fun i x => ∀ k < 16, x.getLsbD ((k + ((lane 16 b i).toNat % 16)) % 16) = (lane 16 a i).getLsbD k)

/-- Compares of elements: `all` and `any` write SR[F] and copy it to every bit of rD, `cmp` makes each element all
ones or zero; signed exactly where LV_ORDER_SIGNED says so; nothing else changes (46_orvdx_a.md R681-R684, R700-R723,
R730-R741). -/
def Obligations.VectorCompare : Prop :=
  ∀ (s : State) (rd ra rb : Reg),
    let a := s.gpr ra
    let b := s.gpr rb
    let val8 := fun (x : BitVec 8) => if s.cfg.lvOrderSigned then x.toInt else (x.toNat : Int)
    let val16 := fun (x : BitVec 16) => if s.cfg.lvOrderSigned then x.toInt else (x.toNat : Int)
    let flag := fun (j : Instr) (p : Prop) =>
      Ready j s → ∃ (t : State) (c : Bool), exec j s = .next t ∧ WritesVecFlag s t rd c ∧ (c = true ↔ p)
    let mask := fun (j : Instr) (w : Nat) (p : Nat → Prop) =>
      Ready j s → ∃ t, exec j s = .next t ∧
        WritesLanes w s t rd (fun i x => (p i → x = BitVec.allOnes w) ∧ (¬ p i → x = 0))
    flag (.lvAllEqB rd ra rb) (∀ i < 8, val8 (lane 8 a i) = val8 (lane 8 b i)) ∧
    flag (.lvAnyEqB rd ra rb) (∃ i < 8, val8 (lane 8 a i) = val8 (lane 8 b i)) ∧
    mask (.lvCmpEqB rd ra rb) 8 (fun i => val8 (lane 8 a i) = val8 (lane 8 b i)) ∧
    flag (.lvAllEqH rd ra rb) (∀ i < 4, val16 (lane 16 a i) = val16 (lane 16 b i)) ∧
    flag (.lvAnyEqH rd ra rb) (∃ i < 4, val16 (lane 16 a i) = val16 (lane 16 b i)) ∧
    mask (.lvCmpEqH rd ra rb) 16 (fun i => val16 (lane 16 a i) = val16 (lane 16 b i)) ∧
    flag (.lvAllGeB rd ra rb) (∀ i < 8, val8 (lane 8 b i) ≤ val8 (lane 8 a i)) ∧
    flag (.lvAnyGeB rd ra rb) (∃ i < 8, val8 (lane 8 b i) ≤ val8 (lane 8 a i)) ∧
    mask (.lvCmpGeB rd ra rb) 8 (fun i => val8 (lane 8 b i) ≤ val8 (lane 8 a i)) ∧
    flag (.lvAllGeH rd ra rb) (∀ i < 4, val16 (lane 16 b i) ≤ val16 (lane 16 a i)) ∧
    flag (.lvAnyGeH rd ra rb) (∃ i < 4, val16 (lane 16 b i) ≤ val16 (lane 16 a i)) ∧
    mask (.lvCmpGeH rd ra rb) 16 (fun i => val16 (lane 16 b i) ≤ val16 (lane 16 a i)) ∧
    flag (.lvAllGtB rd ra rb) (∀ i < 8, val8 (lane 8 b i) < val8 (lane 8 a i)) ∧
    flag (.lvAnyGtB rd ra rb) (∃ i < 8, val8 (lane 8 b i) < val8 (lane 8 a i)) ∧
    mask (.lvCmpGtB rd ra rb) 8 (fun i => val8 (lane 8 b i) < val8 (lane 8 a i)) ∧
    flag (.lvAllGtH rd ra rb) (∀ i < 4, val16 (lane 16 b i) < val16 (lane 16 a i)) ∧
    flag (.lvAnyGtH rd ra rb) (∃ i < 4, val16 (lane 16 b i) < val16 (lane 16 a i)) ∧
    mask (.lvCmpGtH rd ra rb) 16 (fun i => val16 (lane 16 b i) < val16 (lane 16 a i)) ∧
    flag (.lvAllLeB rd ra rb) (∀ i < 8, val8 (lane 8 a i) ≤ val8 (lane 8 b i)) ∧
    flag (.lvAnyLeB rd ra rb) (∃ i < 8, val8 (lane 8 a i) ≤ val8 (lane 8 b i)) ∧
    mask (.lvCmpLeB rd ra rb) 8 (fun i => val8 (lane 8 a i) ≤ val8 (lane 8 b i)) ∧
    flag (.lvAllLeH rd ra rb) (∀ i < 4, val16 (lane 16 a i) ≤ val16 (lane 16 b i)) ∧
    flag (.lvAnyLeH rd ra rb) (∃ i < 4, val16 (lane 16 a i) ≤ val16 (lane 16 b i)) ∧
    mask (.lvCmpLeH rd ra rb) 16 (fun i => val16 (lane 16 a i) ≤ val16 (lane 16 b i)) ∧
    flag (.lvAllLtB rd ra rb) (∀ i < 8, val8 (lane 8 a i) < val8 (lane 8 b i)) ∧
    flag (.lvAnyLtB rd ra rb) (∃ i < 8, val8 (lane 8 a i) < val8 (lane 8 b i)) ∧
    mask (.lvCmpLtB rd ra rb) 8 (fun i => val8 (lane 8 a i) < val8 (lane 8 b i)) ∧
    flag (.lvAllLtH rd ra rb) (∀ i < 4, val16 (lane 16 a i) < val16 (lane 16 b i)) ∧
    flag (.lvAnyLtH rd ra rb) (∃ i < 4, val16 (lane 16 a i) < val16 (lane 16 b i)) ∧
    mask (.lvCmpLtH rd ra rb) 16 (fun i => val16 (lane 16 a i) < val16 (lane 16 b i)) ∧
    flag (.lvAllNeB rd ra rb) (∀ i < 8, val8 (lane 8 a i) ≠ val8 (lane 8 b i)) ∧
    flag (.lvAnyNeB rd ra rb) (∃ i < 8, val8 (lane 8 a i) ≠ val8 (lane 8 b i)) ∧
    mask (.lvCmpNeB rd ra rb) 8 (fun i => val8 (lane 8 a i) ≠ val8 (lane 8 b i)) ∧
    flag (.lvAllNeH rd ra rb) (∀ i < 4, val16 (lane 16 a i) ≠ val16 (lane 16 b i)) ∧
    flag (.lvAnyNeH rd ra rb) (∃ i < 4, val16 (lane 16 a i) ≠ val16 (lane 16 b i)) ∧
    mask (.lvCmpNeH rd ra rb) 16 (fun i => val16 (lane 16 a i) ≠ val16 (lane 16 b i))

/-- Packs, unpacks and the nibble permutation, element by element: the lower half of a packed result comes from rB,
the upper from rA; an unpacked element is sign-extended (47_orvdx_b.md R773-R779, R798, R799). -/
def Obligations.VectorPack : Prop :=
  ∀ (s : State) (rd ra rb : Reg),
    let a := s.gpr ra
    let b := s.gpr rb
    let does := fun (j : Instr) (w : Nat) (p : Nat → BitVec w → Prop) =>
      Ready j s → ∃ t, exec j s = .next t ∧ WritesLanes w s t rd p
    does (.lvPackB rd ra rb) 4 (fun i x => x.toNat = (if i < 8 then lane 8 b i else lane 8 a (i - 8)).toNat % 16) ∧
    does (.lvPacksB rd ra rb) 4
      (fun i x => x.toInt = max (-8) (min 7 (if i < 8 then lane 8 b i else lane 8 a (i - 8)).toInt)) ∧
    does (.lvPackusB rd ra rb) 4 (fun i x => x.toNat = min 15 (if i < 8 then lane 8 b i else lane 8 a (i - 8)).toNat) ∧
    does (.lvUnpackB rd ra rb) 8 (fun i x => x.toInt = (lane 4 a i).toInt) ∧
    does (.lvPackH rd ra rb) 8 (fun i x => x.toNat = (if i < 4 then lane 16 b i else lane 16 a (i - 4)).toNat % 256) ∧
    does (.lvPacksH rd ra rb) 8
      (fun i x => x.toInt = max (-128) (min 127 (if i < 4 then lane 16 b i else lane 16 a (i - 4)).toInt)) ∧
    does (.lvPackusH rd ra rb) 8
      (fun i x => x.toNat = min 255 (if i < 4 then lane 16 b i else lane 16 a (i - 4)).toNat) ∧
    does (.lvUnpackH rd ra rb) 16 (fun i x => x.toInt = (lane 8 a i).toInt) ∧
    does (.lvPermN rd ra rb) 4 (fun i x => x = lane 4 a (lane 4 b i).toNat)
end

