-- ==== Sys2Proof/Laws/Decode.lean ====
section
/-! SUPPORT. Laws of the decoder: each field is read back from where it is put, no two rows of the opcode table
overlap, and a word that fits a row decodes by that row. -/

namespace Sys2Proof.Laws

theorem fieldD_or (x y : Word32) : fieldD (x ||| y) = fieldD x ||| fieldD y := by simp [fieldD, BitVec.extractLsb'_or]
theorem fieldA_or (x y : Word32) : fieldA (x ||| y) = fieldA x ||| fieldA y := by simp [fieldA, BitVec.extractLsb'_or]
theorem fieldB_or (x y : Word32) : fieldB (x ||| y) = fieldB x ||| fieldB y := by simp [fieldB, BitVec.extractLsb'_or]
theorem fieldI_or (x y : Word32) : fieldI (x ||| y) = fieldI x ||| fieldI y := by simp [fieldI, BitVec.extractLsb'_or]
theorem fieldN_or (x y : Word32) : fieldN (x ||| y) = fieldN x ||| fieldN y := by simp [fieldN, BitVec.extractLsb'_or]
theorem fieldL_or (x y : Word32) : fieldL (x ||| y) = fieldL x ||| fieldL y := by simp [fieldL, BitVec.extractLsb'_or]
theorem fieldCL_or (x y : Word32) : fieldCL (x ||| y) = fieldCL x ||| fieldCL y := by
  simp [fieldCL, BitVec.extractLsb'_or]
theorem fieldCK_or (x y : Word32) : fieldCK (x ||| y) = fieldCK x ||| fieldCK y := by
  simp [fieldCK, BitVec.extractLsb'_or]
theorem fieldS_or (x y : Word32) : fieldS (x ||| y) = fieldS x ||| fieldS y := by
  apply BitVec.eq_of_getLsbD_eq
  intro k hk
  simp only [fieldS, BitVec.getLsbD_append, BitVec.getLsbD_or, BitVec.extractLsb'_or]
  split <;> rfl

theorem fieldD_bitsD (d : Reg) : fieldD (bitsD d) = d := by revert d; decide
theorem fieldD_bitsA (d : Reg) : fieldD (bitsA d) = 0 := by revert d; decide
theorem fieldD_bitsB (d : Reg) : fieldD (bitsB d) = 0 := by revert d; decide
theorem fieldA_bitsD (d : Reg) : fieldA (bitsD d) = 0 := by revert d; decide
theorem fieldA_bitsA (d : Reg) : fieldA (bitsA d) = d := by revert d; decide
theorem fieldA_bitsB (d : Reg) : fieldA (bitsB d) = 0 := by revert d; decide
theorem fieldB_bitsD (d : Reg) : fieldB (bitsD d) = 0 := by revert d; decide
theorem fieldB_bitsA (d : Reg) : fieldB (bitsA d) = 0 := by revert d; decide
theorem fieldB_bitsB (d : Reg) : fieldB (bitsB d) = d := by revert d; decide
theorem fieldI_bitsD (d : Reg) : fieldI (bitsD d) = 0 := by revert d; decide
theorem fieldI_bitsA (d : Reg) : fieldI (bitsA d) = 0 := by revert d; decide
theorem fieldS_bitsA (d : Reg) : fieldS (bitsA d) = 0 := by revert d; decide
theorem fieldS_bitsB (d : Reg) : fieldS (bitsB d) = 0 := by revert d; decide
theorem fieldL_bitsD (d : Reg) : fieldL (bitsD d) = 0 := by revert d; decide
theorem fieldL_bitsA (d : Reg) : fieldL (bitsA d) = 0 := by revert d; decide
theorem fieldD_bitsL (l : BitVec 6) : fieldD (bitsL l) = 0 := by revert l; decide
theorem fieldA_bitsL (l : BitVec 6) : fieldA (bitsL l) = 0 := by revert l; decide
theorem fieldL_bitsL (l : BitVec 6) : fieldL (bitsL l) = l := by revert l; decide
theorem fieldD_bitsCL (l : BitVec 6) : fieldD (bitsCL l) = 0 := by revert l; decide
theorem fieldA_bitsCL (l : BitVec 6) : fieldA (bitsCL l) = 0 := by revert l; decide
theorem fieldB_bitsCL (l : BitVec 6) : fieldB (bitsCL l) = 0 := by revert l; decide
theorem fieldCL_bitsCL (l : BitVec 6) : fieldCL (bitsCL l) = l := by revert l; decide
theorem fieldCK_bitsCL (l : BitVec 6) : fieldCK (bitsCL l) = 0 := by revert l; decide
theorem fieldD_bitsCK (k : BitVec 5) : fieldD (bitsCK k) = 0 := by revert k; decide
theorem fieldA_bitsCK (k : BitVec 5) : fieldA (bitsCK k) = 0 := by revert k; decide
theorem fieldB_bitsCK (k : BitVec 5) : fieldB (bitsCK k) = 0 := by revert k; decide
theorem fieldCL_bitsCK (k : BitVec 5) : fieldCL (bitsCK k) = 0 := by revert k; decide
theorem fieldCK_bitsCK (k : BitVec 5) : fieldCK (bitsCK k) = k := by revert k; decide
theorem fieldCL_bitsD (d : Reg) : fieldCL (bitsD d) = 0 := by revert d; decide
theorem fieldCL_bitsA (d : Reg) : fieldCL (bitsA d) = 0 := by revert d; decide
theorem fieldCL_bitsB (d : Reg) : fieldCL (bitsB d) = 0 := by revert d; decide
theorem fieldCK_bitsD (d : Reg) : fieldCK (bitsD d) = 0 := by revert d; decide
theorem fieldCK_bitsA (d : Reg) : fieldCK (bitsA d) = 0 := by revert d; decide
theorem fieldCK_bitsB (d : Reg) : fieldCK (bitsB d) = 0 := by revert d; decide

theorem fieldD_bitsI (i : BitVec 16) : fieldD (bitsI i) = 0 := by
  ext k hk; simp [fieldD, bitsI]; intro _; exact BitVec.getLsbD_of_ge i _ (by omega)
theorem fieldA_bitsI (i : BitVec 16) : fieldA (bitsI i) = 0 := by
  ext k hk; simp [fieldA, bitsI]
theorem fieldI_bitsI (i : BitVec 16) : fieldI (bitsI i) = i := by
  ext k hk; simp [fieldI, bitsI, BitVec.getLsbD_eq_getElem hk]; omega
theorem fieldN_bitsN (n : BitVec 26) : fieldN (bitsN n) = n := by
  ext k hk; simp [fieldN, bitsN, BitVec.getLsbD_eq_getElem hk]; omega
theorem fieldS_bitsS (i : BitVec 16) : fieldS (bitsS i) = i := by
  apply BitVec.eq_of_getLsbD_eq
  intro k hk
  simp only [fieldS, bitsS, BitVec.getLsbD_append, BitVec.getLsbD_extractLsb', BitVec.getLsbD_or,
    BitVec.getLsbD_shiftLeft, BitVec.getLsbD_setWidth]
  by_cases h : k < 11
  · simp [h, show k < 21 by omega, show k < 32 by omega]
  · simp [h, show k - 11 < 5 by omega, show ¬ 21 + (k - 11) < 11 by omega, show 21 + (k - 11) < 32 by omega, show k - 11 < 32 by omega,
      show 11 + (k - 11) = k by omega]
theorem fieldA_bitsS (i : BitVec 16) : fieldA (bitsS i) = 0 := by
  ext k hk; simp [fieldA, bitsS]; omega
theorem fieldB_bitsS (i : BitVec 16) : fieldB (bitsS i) = 0 := by
  ext k hk; simp [fieldB, bitsS]; omega

/-! ## Masks -/

theorem and_zero_of (x m mask : Word32) (hx : x &&& m = x) (h : m &&& mask = 0) : x &&& mask = 0 := by
  rw [← hx, BitVec.and_assoc, h]; simp

theorem bitsD_and (d : Reg) : bitsD d &&& 0x03E00000 = bitsD d := by revert d; decide
theorem bitsA_and (d : Reg) : bitsA d &&& 0x001F0000 = bitsA d := by revert d; decide
theorem bitsB_and (d : Reg) : bitsB d &&& 0x0000F800 = bitsB d := by revert d; decide
theorem bitsL_and (l : BitVec 6) : bitsL l &&& 0x0000003F = bitsL l := by revert l; decide
theorem bitsCL_and (l : BitVec 6) : bitsCL l &&& 0x000007E0 = bitsCL l := by revert l; decide
theorem bitsCK_and (k : BitVec 5) : bitsCK k &&& 0x0000001F = bitsCK k := by revert k; decide
theorem and_low {n : Nat} (x : BitVec n) :
    x.setWidth 32 &&& (BitVec.allOnes n).setWidth 32 = x.setWidth 32 := by
  apply BitVec.eq_of_getLsbD_eq
  intro k hk
  simp only [BitVec.getLsbD_and, BitVec.getLsbD_setWidth, BitVec.getLsbD_allOnes]
  by_cases h : k < n
  · simp [h, hk]
  · simp [BitVec.getLsbD_of_ge x k (by omega)]
theorem bitsI_and (i : BitVec 16) : bitsI i &&& 0x0000FFFF = bitsI i := and_low i
theorem bitsN_and (n : BitVec 26) : bitsN n &&& 0x03FFFFFF = bitsN n := and_low n
theorem bitsS_and (i : BitVec 16) : bitsS i &&& 0x03E007FF = bitsS i := by
  have h1 : ∀ x : BitVec 5, (x.setWidth 32 <<< 21) &&& 0x03E007FF#32 = x.setWidth 32 <<< 21 := by decide
  have h2 : ∀ x : BitVec 11, x.setWidth 32 &&& 0x03E007FF#32 = x.setWidth 32 := by
    intro x
    have e : (0x03E007FF#32 : Word32) = (BitVec.allOnes 11).setWidth 32 ||| 0x03E00000#32 := by decide
    rw [e, BitVec.and_or_distrib_left, and_low x,
      and_zero_of (x.setWidth 32) ((BitVec.allOnes 11).setWidth 32) _ (and_low x) (by decide)]
    simp
  have e : ∀ x y m : Word32, (x ||| y) &&& m = (x &&& m) ||| (y &&& m) := fun x y m => by
    rw [BitVec.and_comm, BitVec.and_or_distrib_left, BitVec.and_comm m x, BitVec.and_comm m y]
  exact (e _ _ _).trans (congrArg₂ (· ||| ·) (h1 _) (h2 _))

theorem bitsD_mask (d : Reg) {m : Word32} (h : 0x03E00000#32 &&& m = 0) : bitsD d &&& m = 0 :=
  and_zero_of _ _ m (bitsD_and d) h
theorem bitsA_mask (d : Reg) {m : Word32} (h : 0x001F0000#32 &&& m = 0) : bitsA d &&& m = 0 :=
  and_zero_of _ _ m (bitsA_and d) h
theorem bitsB_mask (d : Reg) {m : Word32} (h : 0x0000F800#32 &&& m = 0) : bitsB d &&& m = 0 :=
  and_zero_of _ _ m (bitsB_and d) h
theorem bitsL_mask (l : BitVec 6) {m : Word32} (h : 0x0000003F#32 &&& m = 0) : bitsL l &&& m = 0 :=
  and_zero_of _ _ m (bitsL_and l) h
theorem bitsCL_mask (l : BitVec 6) {m : Word32} (h : 0x000007E0#32 &&& m = 0) : bitsCL l &&& m = 0 :=
  and_zero_of _ _ m (bitsCL_and l) h
theorem bitsCK_mask (k : BitVec 5) {m : Word32} (h : 0x0000001F#32 &&& m = 0) : bitsCK k &&& m = 0 :=
  and_zero_of _ _ m (bitsCK_and k) h
theorem bitsI_mask (i : BitVec 16) {m : Word32} (h : 0x0000FFFF#32 &&& m = 0) : bitsI i &&& m = 0 :=
  and_zero_of _ _ m (bitsI_and i) h
theorem bitsN_mask (n : BitVec 26) {m : Word32} (h : 0x03FFFFFF#32 &&& m = 0) : bitsN n &&& m = 0 :=
  and_zero_of _ _ m (bitsN_and n) h
theorem bitsS_mask (i : BitVec 16) {m : Word32} (h : 0x03E007FF#32 &&& m = 0) : bitsS i &&& m = 0 :=
  and_zero_of _ _ m (bitsS_and i) h

/-! ## The table -/

/-- Two rows that differ in a bit that both masks cover match no common word. -/
def rowsDisjoint (r t : OpRow) : Bool := (r.pattern &&& t.mask) != (t.pattern &&& r.mask)

theorem hits_unique {r t : OpRow} (h : rowsDisjoint r t = true) {w : Word32} (hr : r.hits w = true) :
    t.hits w = false := by
  by_contra ht
  simp only [Bool.not_eq_false, OpRow.hits, beq_iff_eq] at hr ht
  rw [rowsDisjoint, ← hr, ← ht, BitVec.and_assoc, BitVec.and_assoc, BitVec.and_comm t.mask r.mask] at h
  simp at h

/-- No two rows of the opcode table match one word (30_encoding.md R317, spec/opcode_table.json). -/
theorem opcodeTable_disjoint : opcodeTable.Pairwise (fun r t => rowsDisjoint r t = true) := by decide +kernel

theorem find_of_pairwise {l : List OpRow} (hp : l.Pairwise (fun r t => rowsDisjoint r t = true)) {k : Nat}
    {r : OpRow} (hk : l[k]? = some r) {w : Word32} (hw : r.hits w = true) :
    l.find? (fun r => r.hits w) = some r := by
  induction l generalizing k with
  | nil => simp at hk
  | cons x xs ih =>
    cases k with
    | zero => simp at hk; subst hk; simp [List.find?, hw]
    | succ k =>
      simp only [List.getElem?_cons_succ] at hk
      have hx : rowsDisjoint x r = true := (List.pairwise_cons.mp hp).1 r (List.mem_of_getElem? hk)
      have : x.hits w = false := by
        cases hh : x.hits w with
        | false => rfl
        | true => rw [hits_unique hx hh] at hw; cases hw
      simp [List.find?, this, ih (List.pairwise_cons.mp hp).2 hk]

/-- A word that fits row `k` decodes by row `k`. -/
theorem decodeWord_of_row (k : Nat) {r : OpRow} (hk : opcodeTable[k]? = some r) {w : Word32}
    (hw : w &&& r.mask = r.pattern) : decodeWord w = some (r.build w) := by
  have : r.hits w = true := by simp [OpRow.hits, hw]
  simp [decodeWord, find_of_pairwise opcodeTable_disjoint hk this]

end Sys2Proof.Laws
end

