-- ==== Sys2Proof/Laws/Memory.lean ====
section
/-! SUPPORT. Laws of memory: every operation keeps the canonical form, and reading after writing. -/

namespace Sys2Proof.Machine

/-! ## The canonical form -/

/-- The tail of a canonical memory is canonical, its head is not what an unlisted address reads as. -/
theorem Memory.wf_cons {c : Host.Cell} {m : Memory} (h : Memory.wf (c :: m) = true) :
    c.2 ≠ Memory.unlisted ∧ Memory.wf m = true := by
  cases m with
  | nil => simpa [Memory.wf] using h
  | cons d m => simp [Memory.wf] at h; exact ⟨h.1.1, h.2⟩

/-- The addresses after the head of a canonical memory are greater. -/
theorem Memory.wf_lt {c : Host.Cell} {m : Memory} (h : Memory.wf (c :: m) = true) : ∀ d ∈ m, c.1 < d.1 := by
  induction m generalizing c with
  | nil => simp
  | cons e m ih =>
    have h' := h
    simp only [Memory.wf, Bool.and_eq_true, decide_eq_true_eq] at h
    intro d hd
    rcases List.mem_cons.mp hd with rfl | hd
    · exact h.1.2
    · exact Nat.lt_trans h.1.2 (ih h.2 d hd)

/-- Putting a cell before a canonical memory of greater addresses. -/
theorem Memory.wf_of_cons {c : Host.Cell} {m : Memory} (hv : c.2 ≠ Memory.unlisted) (hm : Memory.wf m = true)
    (hl : ∀ d ∈ m, c.1 < d.1) : Memory.wf (c :: m) = true := by
  cases m with
  | nil => simpa [Memory.wf] using hv
  | cons d m => simp [Memory.wf, hv, hm, hl d]

/-- The addresses of a memory after a write are the old ones and the written one. -/
theorem Memory.mem_write {m : Memory} {a : Nat} {v : Byte} {c : Host.Cell} (h : c ∈ m.write a v) :
    c ∈ m ∨ c = (a, v) := by
  induction m with
  | nil =>
    simp only [Memory.write] at h
    split at h
    · cases h
    · exact .inr (by simpa using h)
  | cons d m ih =>
    simp only [Memory.write] at h
    split at h
    · split at h
      · exact .inl h
      · rcases List.mem_cons.mp h with h | h
        · exact .inr h
        · exact .inl h
    · split at h
      · split at h
        · exact .inl (List.mem_cons_of_mem _ h)
        · rcases List.mem_cons.mp h with h | h
          · exact .inr h
          · exact .inl (List.mem_cons_of_mem _ h)
      · rcases List.mem_cons.mp h with h | h
        · exact .inl (h ▸ List.mem_cons_self)
        · rcases ih h with h | h
          · exact .inl (List.mem_cons_of_mem _ h)
          · exact .inr h

/-- A write keeps the canonical form. -/
theorem Memory.wf_write {m : Memory} (h : m.wf = true) (a : Nat) (v : Byte) : (m.write a v).wf = true := by
  induction m with
  | nil =>
    simp only [Memory.write]
    split
    · rfl
    · simpa [Memory.wf] using ‹_›
  | cons d m ih =>
    obtain ⟨hd, hm⟩ := Memory.wf_cons h
    have hl := Memory.wf_lt h
    simp only [Memory.write]
    split
    · rename_i ha
      split
      · exact h
      · exact Memory.wf_of_cons ‹_› h fun e he => by
          rcases List.mem_cons.mp he with rfl | he
          · exact ha
          · exact Nat.lt_trans ha (hl e he)
    · split
      · rename_i ha
        split
        · exact hm
        · exact Memory.wf_of_cons ‹_› hm fun e he => ha ▸ hl e he
      · rename_i h1 h2
        refine Memory.wf_of_cons hd (ih hm) fun e he => ?_
        rcases Memory.mem_write he with he | rfl
        · exact hl e he
        · exact Nat.lt_of_le_of_ne (Nat.le_of_not_lt h1) (Ne.symm h2)

/-- Writes keep the canonical form. -/
theorem Memory.wf_writeAll {m : Memory} (h : m.wf = true) (cs : List Host.Cell) : (m.writeAll cs).wf = true := by
  induction cs generalizing m with
  | nil => exact h
  | cons c cs ih => exact ih (Memory.wf_write h c.1 c.2)

/-! ## Reading after writing -/

/-- An address below every listed one is not listed. -/
theorem Memory.read_of_lt {m : Memory} {a : Nat} (h : ∀ d ∈ m, a < d.1) : m.read a = Memory.unlisted := by
  induction m with
  | nil => rfl
  | cons d m ih =>
    have hd := h d List.mem_cons_self
    simp [Memory.read, show ¬ a = d.1 by omega, ih fun e he => h e (List.mem_cons_of_mem _ he)]

/-- A read after a write gives the value written there, and everywhere else what it gave before. -/
theorem Memory.read_write {m : Memory} (h : m.wf = true) (a : Nat) (v : Byte) (b : Nat) :
    (m.write a v).read b = if b = a then v else m.read b := by
  induction m with
  | nil =>
    simp only [Memory.write]
    split
    · rename_i hv; simp [Memory.read, hv]
    · simp [Memory.read]
  | cons d m ih =>
    obtain ⟨hd, hm⟩ := Memory.wf_cons h
    have hl := Memory.wf_lt h
    simp only [Memory.write]
    split
    · rename_i ha
      split
      · rename_i hv
        by_cases hb : b = a
        · subst hb
          rw [if_pos rfl, hv]
          exact Memory.read_of_lt fun e he => by
            rcases List.mem_cons.mp he with rfl | he
            · exact ha
            · exact Nat.lt_trans ha (hl e he)
        · rw [if_neg hb]
      · simp [Memory.read]
    · split
      · rename_i h1 h2
        subst h2
        split
        · rename_i hv
          by_cases hb : b = d.1
          · subst hb; rw [if_pos rfl, hv]; exact Memory.read_of_lt hl
          · simp [Memory.read, hb]
        · simp only [Memory.read]
          by_cases hb : b = d.1 <;> simp [hb]
      · rename_i h1 h2
        simp only [Memory.read, ih hm]
        by_cases hb : b = d.1
        · subst hb; simp [Ne.symm h2]
        · simp [hb]

/-- Writes elsewhere leave a byte alone. -/
theorem Memory.read_writeAll_outside {m : Memory} (h : m.wf = true) (cs : List Host.Cell) {b : Nat}
    (hb : ∀ c ∈ cs, c.1 ≠ b) : (m.writeAll cs).read b = m.read b := by
  induction cs generalizing m with
  | nil => rfl
  | cons c cs ih =>
    show ((m.write c.1 c.2).writeAll cs).read b = m.read b
    rw [ih (Memory.wf_write h _ _) fun d hd => hb d (List.mem_cons_of_mem _ hd), Memory.read_write h,
      if_neg (Ne.symm (hb c List.mem_cons_self))]

/-- Writing a list of bytes at distinct addresses and reading it back. -/
theorem Memory.read_writeAll_zip {m : Memory} (h : m.wf = true) {as : List Nat} {bs : List Byte} (hn : as.Nodup)
    (hl : as.length = bs.length) : as.map (m.writeAll (as.zip bs)).read = bs := by
  induction as generalizing m bs with
  | nil => cases bs with
    | nil => rfl
    | cons b bs => cases hl
  | cons a as ih =>
    cases bs with
    | nil => cases hl
    | cons b bs =>
      obtain ⟨ha, hn⟩ := List.nodup_cons.mp hn
      show ((m.write a b).writeAll (as.zip bs)).read a :: as.map ((m.write a b).writeAll (as.zip bs)).read = b :: bs
      rw [ih (Memory.wf_write h a b) hn (by simpa using hl), Memory.read_writeAll_outside (b := a) (Memory.wf_write h a b) _
        (fun c hc e => ha (e ▸ (List.of_mem_zip (a := c.1) (b := c.2) hc).1)), Memory.read_write h, if_pos rfl]

/-- The memory of the reset state is in canonical form. -/
theorem State.resetFor_mem_wf (c : Config) : (State.resetFor c).mem.wf = true := rfl

end Sys2Proof.Machine
end

