-- ==== Sys2Proof/Laws/State.lean ====
section
/-! SUPPORT. What each update of the state leaves: one lemma for each field it does not write, and one for each it
writes, so that no later proof unfolds a record update. -/

namespace Sys2Proof.Machine

@[simp] theorem State.setFlag_cfg (s : State) (b : Bool) : (s.setFlag b).cfg = s.cfg := rfl
@[simp] theorem State.setFlag_gprs (s : State) (b : Bool) : (s.setFlag b).gprs = s.gprs := rfl
@[simp] theorem State.setFlag_pc (s : State) (b : Bool) : (s.setFlag b).pc = s.pc := rfl
@[simp] theorem State.setFlag_dsPending (s : State) (b : Bool) : (s.setFlag b).dsPending = s.dsPending := rfl
@[simp] theorem State.setFlag_dsTarget (s : State) (b : Bool) : (s.setFlag b).dsTarget = s.dsTarget := rfl
@[simp] theorem State.setFlag_ppc (s : State) (b : Bool) : (s.setFlag b).ppc = s.ppc := rfl
@[simp] theorem State.setFlag_hist (s : State) (b : Bool) : (s.setFlag b).hist = s.hist := rfl
@[simp] theorem State.setFlag_epcr (s : State) (b : Bool) : (s.setFlag b).epcr = s.epcr := rfl
@[simp] theorem State.setFlag_eear (s : State) (b : Bool) : (s.setFlag b).eear = s.eear := rfl
@[simp] theorem State.setFlag_esr (s : State) (b : Bool) : (s.setFlag b).esr = s.esr := rfl
@[simp] theorem State.setFlag_evbar (s : State) (b : Bool) : (s.setFlag b).evbar = s.evbar := rfl
@[simp] theorem State.setFlag_aecr (s : State) (b : Bool) : (s.setFlag b).aecr = s.aecr := rfl
@[simp] theorem State.setFlag_aesr (s : State) (b : Bool) : (s.setFlag b).aesr = s.aesr := rfl
@[simp] theorem State.setFlag_fpcsr (s : State) (b : Bool) : (s.setFlag b).fpcsr = s.fpcsr := rfl
@[simp] theorem State.setFlag_machi (s : State) (b : Bool) : (s.setFlag b).machi = s.machi := rfl
@[simp] theorem State.setFlag_maclo (s : State) (b : Bool) : (s.setFlag b).maclo = s.maclo := rfl
@[simp] theorem State.setFlag_dmmucr (s : State) (b : Bool) : (s.setFlag b).dmmucr = s.dmmucr := rfl
@[simp] theorem State.setFlag_dmmupr (s : State) (b : Bool) : (s.setFlag b).dmmupr = s.dmmupr := rfl
@[simp] theorem State.setFlag_immucr (s : State) (b : Bool) : (s.setFlag b).immucr = s.immucr := rfl
@[simp] theorem State.setFlag_immupr (s : State) (b : Bool) : (s.setFlag b).immupr = s.immupr := rfl
@[simp] theorem State.setFlag_dtlbmr (s : State) (b : Bool) : (s.setFlag b).dtlbmr = s.dtlbmr := rfl
@[simp] theorem State.setFlag_dtlbtr (s : State) (b : Bool) : (s.setFlag b).dtlbtr = s.dtlbtr := rfl
@[simp] theorem State.setFlag_itlbmr (s : State) (b : Bool) : (s.setFlag b).itlbmr = s.itlbmr := rfl
@[simp] theorem State.setFlag_itlbtr (s : State) (b : Bool) : (s.setFlag b).itlbtr = s.itlbtr := rfl
@[simp] theorem State.setFlag_datbmr (s : State) (b : Bool) : (s.setFlag b).datbmr = s.datbmr := rfl
@[simp] theorem State.setFlag_datbtr (s : State) (b : Bool) : (s.setFlag b).datbtr = s.datbtr := rfl
@[simp] theorem State.setFlag_iatbmr (s : State) (b : Bool) : (s.setFlag b).iatbmr = s.iatbmr := rfl
@[simp] theorem State.setFlag_iatbtr (s : State) (b : Bool) : (s.setFlag b).iatbtr = s.iatbtr := rfl
@[simp] theorem State.setFlag_dccr (s : State) (b : Bool) : (s.setFlag b).dccr = s.dccr := rfl
@[simp] theorem State.setFlag_iccr (s : State) (b : Bool) : (s.setFlag b).iccr = s.iccr := rfl
@[simp] theorem State.setFlag_dvr (s : State) (b : Bool) : (s.setFlag b).dvr = s.dvr := rfl
@[simp] theorem State.setFlag_dcr (s : State) (b : Bool) : (s.setFlag b).dcr = s.dcr := rfl
@[simp] theorem State.setFlag_dmr1 (s : State) (b : Bool) : (s.setFlag b).dmr1 = s.dmr1 := rfl
@[simp] theorem State.setFlag_dmr2 (s : State) (b : Bool) : (s.setFlag b).dmr2 = s.dmr2 := rfl
@[simp] theorem State.setFlag_dwcr (s : State) (b : Bool) : (s.setFlag b).dwcr = s.dwcr := rfl
@[simp] theorem State.setFlag_dsr (s : State) (b : Bool) : (s.setFlag b).dsr = s.dsr := rfl
@[simp] theorem State.setFlag_drr (s : State) (b : Bool) : (s.setFlag b).drr = s.drr := rfl
@[simp] theorem State.setFlag_debugStopped (s : State) (b : Bool) : (s.setFlag b).debugStopped = s.debugStopped := rfl
@[simp] theorem State.setFlag_pccr (s : State) (b : Bool) : (s.setFlag b).pccr = s.pccr := rfl
@[simp] theorem State.setFlag_pcmr (s : State) (b : Bool) : (s.setFlag b).pcmr = s.pcmr := rfl
@[simp] theorem State.setFlag_pmr (s : State) (b : Bool) : (s.setFlag b).pmr = s.pmr := rfl
@[simp] theorem State.setFlag_picmr (s : State) (b : Bool) : (s.setFlag b).picmr = s.picmr := rfl
@[simp] theorem State.setFlag_picLatch (s : State) (b : Bool) : (s.setFlag b).picLatch = s.picLatch := rfl
@[simp] theorem State.setFlag_irqIn (s : State) (b : Bool) : (s.setFlag b).irqIn = s.irqIn := rfl
@[simp] theorem State.setFlag_ttmr (s : State) (b : Bool) : (s.setFlag b).ttmr = s.ttmr := rfl
@[simp] theorem State.setFlag_ttcr (s : State) (b : Bool) : (s.setFlag b).ttcr = s.ttcr := rfl
@[simp] theorem State.setFlag_resv (s : State) (b : Bool) : (s.setFlag b).resv = s.resv := rfl
@[simp] theorem State.setFlag_ompic (s : State) (b : Bool) : (s.setFlag b).ompic = s.ompic := rfl
@[simp] theorem State.setFlag_mem (s : State) (b : Bool) : (s.setFlag b).mem = s.mem := rfl
@[simp] theorem State.setFlag_stale (s : State) (b : Bool) : (s.setFlag b).stale = s.stale := rfl
@[simp] theorem State.setFlag_inputs (s : State) (b : Bool) : (s.setFlag b).inputs = s.inputs := rfl
@[simp] theorem State.setFlag_tickWait (s : State) (b : Bool) : (s.setFlag b).tickWait = s.tickWait := rfl
@[simp] theorem State.setFlag_freeCtr (s : State) (b : Bool) : (s.setFlag b).freeCtr = s.freeCtr := rfl

@[simp] theorem State.setCarry_cfg (s : State) (b : Bool) : (s.setCarry b).cfg = s.cfg := rfl
@[simp] theorem State.setCarry_gprs (s : State) (b : Bool) : (s.setCarry b).gprs = s.gprs := rfl
@[simp] theorem State.setCarry_pc (s : State) (b : Bool) : (s.setCarry b).pc = s.pc := rfl
@[simp] theorem State.setCarry_dsPending (s : State) (b : Bool) : (s.setCarry b).dsPending = s.dsPending := rfl
@[simp] theorem State.setCarry_dsTarget (s : State) (b : Bool) : (s.setCarry b).dsTarget = s.dsTarget := rfl
@[simp] theorem State.setCarry_ppc (s : State) (b : Bool) : (s.setCarry b).ppc = s.ppc := rfl
@[simp] theorem State.setCarry_hist (s : State) (b : Bool) : (s.setCarry b).hist = s.hist := rfl
@[simp] theorem State.setCarry_epcr (s : State) (b : Bool) : (s.setCarry b).epcr = s.epcr := rfl
@[simp] theorem State.setCarry_eear (s : State) (b : Bool) : (s.setCarry b).eear = s.eear := rfl
@[simp] theorem State.setCarry_esr (s : State) (b : Bool) : (s.setCarry b).esr = s.esr := rfl
@[simp] theorem State.setCarry_evbar (s : State) (b : Bool) : (s.setCarry b).evbar = s.evbar := rfl
@[simp] theorem State.setCarry_aecr (s : State) (b : Bool) : (s.setCarry b).aecr = s.aecr := rfl
@[simp] theorem State.setCarry_aesr (s : State) (b : Bool) : (s.setCarry b).aesr = s.aesr := rfl
@[simp] theorem State.setCarry_fpcsr (s : State) (b : Bool) : (s.setCarry b).fpcsr = s.fpcsr := rfl
@[simp] theorem State.setCarry_machi (s : State) (b : Bool) : (s.setCarry b).machi = s.machi := rfl
@[simp] theorem State.setCarry_maclo (s : State) (b : Bool) : (s.setCarry b).maclo = s.maclo := rfl
@[simp] theorem State.setCarry_dmmucr (s : State) (b : Bool) : (s.setCarry b).dmmucr = s.dmmucr := rfl
@[simp] theorem State.setCarry_dmmupr (s : State) (b : Bool) : (s.setCarry b).dmmupr = s.dmmupr := rfl
@[simp] theorem State.setCarry_immucr (s : State) (b : Bool) : (s.setCarry b).immucr = s.immucr := rfl
@[simp] theorem State.setCarry_immupr (s : State) (b : Bool) : (s.setCarry b).immupr = s.immupr := rfl
@[simp] theorem State.setCarry_dtlbmr (s : State) (b : Bool) : (s.setCarry b).dtlbmr = s.dtlbmr := rfl
@[simp] theorem State.setCarry_dtlbtr (s : State) (b : Bool) : (s.setCarry b).dtlbtr = s.dtlbtr := rfl
@[simp] theorem State.setCarry_itlbmr (s : State) (b : Bool) : (s.setCarry b).itlbmr = s.itlbmr := rfl
@[simp] theorem State.setCarry_itlbtr (s : State) (b : Bool) : (s.setCarry b).itlbtr = s.itlbtr := rfl
@[simp] theorem State.setCarry_datbmr (s : State) (b : Bool) : (s.setCarry b).datbmr = s.datbmr := rfl
@[simp] theorem State.setCarry_datbtr (s : State) (b : Bool) : (s.setCarry b).datbtr = s.datbtr := rfl
@[simp] theorem State.setCarry_iatbmr (s : State) (b : Bool) : (s.setCarry b).iatbmr = s.iatbmr := rfl
@[simp] theorem State.setCarry_iatbtr (s : State) (b : Bool) : (s.setCarry b).iatbtr = s.iatbtr := rfl
@[simp] theorem State.setCarry_dccr (s : State) (b : Bool) : (s.setCarry b).dccr = s.dccr := rfl
@[simp] theorem State.setCarry_iccr (s : State) (b : Bool) : (s.setCarry b).iccr = s.iccr := rfl
@[simp] theorem State.setCarry_dvr (s : State) (b : Bool) : (s.setCarry b).dvr = s.dvr := rfl
@[simp] theorem State.setCarry_dcr (s : State) (b : Bool) : (s.setCarry b).dcr = s.dcr := rfl
@[simp] theorem State.setCarry_dmr1 (s : State) (b : Bool) : (s.setCarry b).dmr1 = s.dmr1 := rfl
@[simp] theorem State.setCarry_dmr2 (s : State) (b : Bool) : (s.setCarry b).dmr2 = s.dmr2 := rfl
@[simp] theorem State.setCarry_dwcr (s : State) (b : Bool) : (s.setCarry b).dwcr = s.dwcr := rfl
@[simp] theorem State.setCarry_dsr (s : State) (b : Bool) : (s.setCarry b).dsr = s.dsr := rfl
@[simp] theorem State.setCarry_drr (s : State) (b : Bool) : (s.setCarry b).drr = s.drr := rfl
@[simp] theorem State.setCarry_debugStopped (s : State) (b : Bool) : (s.setCarry b).debugStopped = s.debugStopped :=
  rfl
@[simp] theorem State.setCarry_pccr (s : State) (b : Bool) : (s.setCarry b).pccr = s.pccr := rfl
@[simp] theorem State.setCarry_pcmr (s : State) (b : Bool) : (s.setCarry b).pcmr = s.pcmr := rfl
@[simp] theorem State.setCarry_pmr (s : State) (b : Bool) : (s.setCarry b).pmr = s.pmr := rfl
@[simp] theorem State.setCarry_picmr (s : State) (b : Bool) : (s.setCarry b).picmr = s.picmr := rfl
@[simp] theorem State.setCarry_picLatch (s : State) (b : Bool) : (s.setCarry b).picLatch = s.picLatch := rfl
@[simp] theorem State.setCarry_irqIn (s : State) (b : Bool) : (s.setCarry b).irqIn = s.irqIn := rfl
@[simp] theorem State.setCarry_ttmr (s : State) (b : Bool) : (s.setCarry b).ttmr = s.ttmr := rfl
@[simp] theorem State.setCarry_ttcr (s : State) (b : Bool) : (s.setCarry b).ttcr = s.ttcr := rfl
@[simp] theorem State.setCarry_resv (s : State) (b : Bool) : (s.setCarry b).resv = s.resv := rfl
@[simp] theorem State.setCarry_ompic (s : State) (b : Bool) : (s.setCarry b).ompic = s.ompic := rfl
@[simp] theorem State.setCarry_mem (s : State) (b : Bool) : (s.setCarry b).mem = s.mem := rfl
@[simp] theorem State.setCarry_stale (s : State) (b : Bool) : (s.setCarry b).stale = s.stale := rfl
@[simp] theorem State.setCarry_inputs (s : State) (b : Bool) : (s.setCarry b).inputs = s.inputs := rfl
@[simp] theorem State.setCarry_tickWait (s : State) (b : Bool) : (s.setCarry b).tickWait = s.tickWait := rfl
@[simp] theorem State.setCarry_freeCtr (s : State) (b : Bool) : (s.setCarry b).freeCtr = s.freeCtr := rfl

@[simp] theorem State.setOverflow_cfg (s : State) (b : Bool) : (s.setOverflow b).cfg = s.cfg := rfl
@[simp] theorem State.setOverflow_gprs (s : State) (b : Bool) : (s.setOverflow b).gprs = s.gprs := rfl
@[simp] theorem State.setOverflow_pc (s : State) (b : Bool) : (s.setOverflow b).pc = s.pc := rfl
@[simp] theorem State.setOverflow_dsPending (s : State) (b : Bool) : (s.setOverflow b).dsPending = s.dsPending := rfl
@[simp] theorem State.setOverflow_dsTarget (s : State) (b : Bool) : (s.setOverflow b).dsTarget = s.dsTarget := rfl
@[simp] theorem State.setOverflow_ppc (s : State) (b : Bool) : (s.setOverflow b).ppc = s.ppc := rfl
@[simp] theorem State.setOverflow_hist (s : State) (b : Bool) : (s.setOverflow b).hist = s.hist := rfl
@[simp] theorem State.setOverflow_epcr (s : State) (b : Bool) : (s.setOverflow b).epcr = s.epcr := rfl
@[simp] theorem State.setOverflow_eear (s : State) (b : Bool) : (s.setOverflow b).eear = s.eear := rfl
@[simp] theorem State.setOverflow_esr (s : State) (b : Bool) : (s.setOverflow b).esr = s.esr := rfl
@[simp] theorem State.setOverflow_evbar (s : State) (b : Bool) : (s.setOverflow b).evbar = s.evbar := rfl
@[simp] theorem State.setOverflow_aecr (s : State) (b : Bool) : (s.setOverflow b).aecr = s.aecr := rfl
@[simp] theorem State.setOverflow_aesr (s : State) (b : Bool) : (s.setOverflow b).aesr = s.aesr := rfl
@[simp] theorem State.setOverflow_fpcsr (s : State) (b : Bool) : (s.setOverflow b).fpcsr = s.fpcsr := rfl
@[simp] theorem State.setOverflow_machi (s : State) (b : Bool) : (s.setOverflow b).machi = s.machi := rfl
@[simp] theorem State.setOverflow_maclo (s : State) (b : Bool) : (s.setOverflow b).maclo = s.maclo := rfl
@[simp] theorem State.setOverflow_dmmucr (s : State) (b : Bool) : (s.setOverflow b).dmmucr = s.dmmucr := rfl
@[simp] theorem State.setOverflow_dmmupr (s : State) (b : Bool) : (s.setOverflow b).dmmupr = s.dmmupr := rfl
@[simp] theorem State.setOverflow_immucr (s : State) (b : Bool) : (s.setOverflow b).immucr = s.immucr := rfl
@[simp] theorem State.setOverflow_immupr (s : State) (b : Bool) : (s.setOverflow b).immupr = s.immupr := rfl
@[simp] theorem State.setOverflow_dtlbmr (s : State) (b : Bool) : (s.setOverflow b).dtlbmr = s.dtlbmr := rfl
@[simp] theorem State.setOverflow_dtlbtr (s : State) (b : Bool) : (s.setOverflow b).dtlbtr = s.dtlbtr := rfl
@[simp] theorem State.setOverflow_itlbmr (s : State) (b : Bool) : (s.setOverflow b).itlbmr = s.itlbmr := rfl
@[simp] theorem State.setOverflow_itlbtr (s : State) (b : Bool) : (s.setOverflow b).itlbtr = s.itlbtr := rfl
@[simp] theorem State.setOverflow_datbmr (s : State) (b : Bool) : (s.setOverflow b).datbmr = s.datbmr := rfl
@[simp] theorem State.setOverflow_datbtr (s : State) (b : Bool) : (s.setOverflow b).datbtr = s.datbtr := rfl
@[simp] theorem State.setOverflow_iatbmr (s : State) (b : Bool) : (s.setOverflow b).iatbmr = s.iatbmr := rfl
@[simp] theorem State.setOverflow_iatbtr (s : State) (b : Bool) : (s.setOverflow b).iatbtr = s.iatbtr := rfl
@[simp] theorem State.setOverflow_dccr (s : State) (b : Bool) : (s.setOverflow b).dccr = s.dccr := rfl
@[simp] theorem State.setOverflow_iccr (s : State) (b : Bool) : (s.setOverflow b).iccr = s.iccr := rfl
@[simp] theorem State.setOverflow_dvr (s : State) (b : Bool) : (s.setOverflow b).dvr = s.dvr := rfl
@[simp] theorem State.setOverflow_dcr (s : State) (b : Bool) : (s.setOverflow b).dcr = s.dcr := rfl
@[simp] theorem State.setOverflow_dmr1 (s : State) (b : Bool) : (s.setOverflow b).dmr1 = s.dmr1 := rfl
@[simp] theorem State.setOverflow_dmr2 (s : State) (b : Bool) : (s.setOverflow b).dmr2 = s.dmr2 := rfl
@[simp] theorem State.setOverflow_dwcr (s : State) (b : Bool) : (s.setOverflow b).dwcr = s.dwcr := rfl
@[simp] theorem State.setOverflow_dsr (s : State) (b : Bool) : (s.setOverflow b).dsr = s.dsr := rfl
@[simp] theorem State.setOverflow_drr (s : State) (b : Bool) : (s.setOverflow b).drr = s.drr := rfl
@[simp] theorem State.setOverflow_debugStopped (s : State) (b : Bool) : (s.setOverflow b).debugStopped = s.debugStopped :=
  rfl
@[simp] theorem State.setOverflow_pccr (s : State) (b : Bool) : (s.setOverflow b).pccr = s.pccr := rfl
@[simp] theorem State.setOverflow_pcmr (s : State) (b : Bool) : (s.setOverflow b).pcmr = s.pcmr := rfl
@[simp] theorem State.setOverflow_pmr (s : State) (b : Bool) : (s.setOverflow b).pmr = s.pmr := rfl
@[simp] theorem State.setOverflow_picmr (s : State) (b : Bool) : (s.setOverflow b).picmr = s.picmr := rfl
@[simp] theorem State.setOverflow_picLatch (s : State) (b : Bool) : (s.setOverflow b).picLatch = s.picLatch := rfl
@[simp] theorem State.setOverflow_irqIn (s : State) (b : Bool) : (s.setOverflow b).irqIn = s.irqIn := rfl
@[simp] theorem State.setOverflow_ttmr (s : State) (b : Bool) : (s.setOverflow b).ttmr = s.ttmr := rfl
@[simp] theorem State.setOverflow_ttcr (s : State) (b : Bool) : (s.setOverflow b).ttcr = s.ttcr := rfl
@[simp] theorem State.setOverflow_resv (s : State) (b : Bool) : (s.setOverflow b).resv = s.resv := rfl
@[simp] theorem State.setOverflow_ompic (s : State) (b : Bool) : (s.setOverflow b).ompic = s.ompic := rfl
@[simp] theorem State.setOverflow_mem (s : State) (b : Bool) : (s.setOverflow b).mem = s.mem := rfl
@[simp] theorem State.setOverflow_stale (s : State) (b : Bool) : (s.setOverflow b).stale = s.stale := rfl
@[simp] theorem State.setOverflow_inputs (s : State) (b : Bool) : (s.setOverflow b).inputs = s.inputs := rfl
@[simp] theorem State.setOverflow_tickWait (s : State) (b : Bool) : (s.setOverflow b).tickWait = s.tickWait := rfl
@[simp] theorem State.setOverflow_freeCtr (s : State) (b : Bool) : (s.setOverflow b).freeCtr = s.freeCtr := rfl

@[simp] theorem State.setAcc_cfg (s : State) (v : Word) : (s.setAcc v).cfg = s.cfg := rfl
@[simp] theorem State.setAcc_gprs (s : State) (v : Word) : (s.setAcc v).gprs = s.gprs := rfl
@[simp] theorem State.setAcc_pc (s : State) (v : Word) : (s.setAcc v).pc = s.pc := rfl
@[simp] theorem State.setAcc_dsPending (s : State) (v : Word) : (s.setAcc v).dsPending = s.dsPending := rfl
@[simp] theorem State.setAcc_dsTarget (s : State) (v : Word) : (s.setAcc v).dsTarget = s.dsTarget := rfl
@[simp] theorem State.setAcc_ppc (s : State) (v : Word) : (s.setAcc v).ppc = s.ppc := rfl
@[simp] theorem State.setAcc_hist (s : State) (v : Word) : (s.setAcc v).hist = s.hist := rfl
@[simp] theorem State.setAcc_sr (s : State) (v : Word) : (s.setAcc v).sr = s.sr := rfl
@[simp] theorem State.setAcc_epcr (s : State) (v : Word) : (s.setAcc v).epcr = s.epcr := rfl
@[simp] theorem State.setAcc_eear (s : State) (v : Word) : (s.setAcc v).eear = s.eear := rfl
@[simp] theorem State.setAcc_esr (s : State) (v : Word) : (s.setAcc v).esr = s.esr := rfl
@[simp] theorem State.setAcc_evbar (s : State) (v : Word) : (s.setAcc v).evbar = s.evbar := rfl
@[simp] theorem State.setAcc_aecr (s : State) (v : Word) : (s.setAcc v).aecr = s.aecr := rfl
@[simp] theorem State.setAcc_aesr (s : State) (v : Word) : (s.setAcc v).aesr = s.aesr := rfl
@[simp] theorem State.setAcc_fpcsr (s : State) (v : Word) : (s.setAcc v).fpcsr = s.fpcsr := rfl
@[simp] theorem State.setAcc_dmmucr (s : State) (v : Word) : (s.setAcc v).dmmucr = s.dmmucr := rfl
@[simp] theorem State.setAcc_dmmupr (s : State) (v : Word) : (s.setAcc v).dmmupr = s.dmmupr := rfl
@[simp] theorem State.setAcc_immucr (s : State) (v : Word) : (s.setAcc v).immucr = s.immucr := rfl
@[simp] theorem State.setAcc_immupr (s : State) (v : Word) : (s.setAcc v).immupr = s.immupr := rfl
@[simp] theorem State.setAcc_dtlbmr (s : State) (v : Word) : (s.setAcc v).dtlbmr = s.dtlbmr := rfl
@[simp] theorem State.setAcc_dtlbtr (s : State) (v : Word) : (s.setAcc v).dtlbtr = s.dtlbtr := rfl
@[simp] theorem State.setAcc_itlbmr (s : State) (v : Word) : (s.setAcc v).itlbmr = s.itlbmr := rfl
@[simp] theorem State.setAcc_itlbtr (s : State) (v : Word) : (s.setAcc v).itlbtr = s.itlbtr := rfl
@[simp] theorem State.setAcc_datbmr (s : State) (v : Word) : (s.setAcc v).datbmr = s.datbmr := rfl
@[simp] theorem State.setAcc_datbtr (s : State) (v : Word) : (s.setAcc v).datbtr = s.datbtr := rfl
@[simp] theorem State.setAcc_iatbmr (s : State) (v : Word) : (s.setAcc v).iatbmr = s.iatbmr := rfl
@[simp] theorem State.setAcc_iatbtr (s : State) (v : Word) : (s.setAcc v).iatbtr = s.iatbtr := rfl
@[simp] theorem State.setAcc_dccr (s : State) (v : Word) : (s.setAcc v).dccr = s.dccr := rfl
@[simp] theorem State.setAcc_iccr (s : State) (v : Word) : (s.setAcc v).iccr = s.iccr := rfl
@[simp] theorem State.setAcc_dvr (s : State) (v : Word) : (s.setAcc v).dvr = s.dvr := rfl
@[simp] theorem State.setAcc_dcr (s : State) (v : Word) : (s.setAcc v).dcr = s.dcr := rfl
@[simp] theorem State.setAcc_dmr1 (s : State) (v : Word) : (s.setAcc v).dmr1 = s.dmr1 := rfl
@[simp] theorem State.setAcc_dmr2 (s : State) (v : Word) : (s.setAcc v).dmr2 = s.dmr2 := rfl
@[simp] theorem State.setAcc_dwcr (s : State) (v : Word) : (s.setAcc v).dwcr = s.dwcr := rfl
@[simp] theorem State.setAcc_dsr (s : State) (v : Word) : (s.setAcc v).dsr = s.dsr := rfl
@[simp] theorem State.setAcc_drr (s : State) (v : Word) : (s.setAcc v).drr = s.drr := rfl
@[simp] theorem State.setAcc_debugStopped (s : State) (v : Word) : (s.setAcc v).debugStopped = s.debugStopped := rfl
@[simp] theorem State.setAcc_pccr (s : State) (v : Word) : (s.setAcc v).pccr = s.pccr := rfl
@[simp] theorem State.setAcc_pcmr (s : State) (v : Word) : (s.setAcc v).pcmr = s.pcmr := rfl
@[simp] theorem State.setAcc_pmr (s : State) (v : Word) : (s.setAcc v).pmr = s.pmr := rfl
@[simp] theorem State.setAcc_picmr (s : State) (v : Word) : (s.setAcc v).picmr = s.picmr := rfl
@[simp] theorem State.setAcc_picLatch (s : State) (v : Word) : (s.setAcc v).picLatch = s.picLatch := rfl
@[simp] theorem State.setAcc_irqIn (s : State) (v : Word) : (s.setAcc v).irqIn = s.irqIn := rfl
@[simp] theorem State.setAcc_ttmr (s : State) (v : Word) : (s.setAcc v).ttmr = s.ttmr := rfl
@[simp] theorem State.setAcc_ttcr (s : State) (v : Word) : (s.setAcc v).ttcr = s.ttcr := rfl
@[simp] theorem State.setAcc_resv (s : State) (v : Word) : (s.setAcc v).resv = s.resv := rfl
@[simp] theorem State.setAcc_ompic (s : State) (v : Word) : (s.setAcc v).ompic = s.ompic := rfl
@[simp] theorem State.setAcc_mem (s : State) (v : Word) : (s.setAcc v).mem = s.mem := rfl
@[simp] theorem State.setAcc_stale (s : State) (v : Word) : (s.setAcc v).stale = s.stale := rfl
@[simp] theorem State.setAcc_inputs (s : State) (v : Word) : (s.setAcc v).inputs = s.inputs := rfl
@[simp] theorem State.setAcc_tickWait (s : State) (v : Word) : (s.setAcc v).tickWait = s.tickWait := rfl
@[simp] theorem State.setAcc_freeCtr (s : State) (v : Word) : (s.setAcc v).freeCtr = s.freeCtr := rfl

@[simp] theorem State.draw_cfg (s : State) : (s.draw.2).cfg = s.cfg := rfl
@[simp] theorem State.draw_gprs (s : State) : (s.draw.2).gprs = s.gprs := rfl
@[simp] theorem State.draw_pc (s : State) : (s.draw.2).pc = s.pc := rfl
@[simp] theorem State.draw_dsPending (s : State) : (s.draw.2).dsPending = s.dsPending := rfl
@[simp] theorem State.draw_dsTarget (s : State) : (s.draw.2).dsTarget = s.dsTarget := rfl
@[simp] theorem State.draw_ppc (s : State) : (s.draw.2).ppc = s.ppc := rfl
@[simp] theorem State.draw_hist (s : State) : (s.draw.2).hist = s.hist := rfl
@[simp] theorem State.draw_sr (s : State) : (s.draw.2).sr = s.sr := rfl
@[simp] theorem State.draw_epcr (s : State) : (s.draw.2).epcr = s.epcr := rfl
@[simp] theorem State.draw_eear (s : State) : (s.draw.2).eear = s.eear := rfl
@[simp] theorem State.draw_esr (s : State) : (s.draw.2).esr = s.esr := rfl
@[simp] theorem State.draw_evbar (s : State) : (s.draw.2).evbar = s.evbar := rfl
@[simp] theorem State.draw_aecr (s : State) : (s.draw.2).aecr = s.aecr := rfl
@[simp] theorem State.draw_aesr (s : State) : (s.draw.2).aesr = s.aesr := rfl
@[simp] theorem State.draw_fpcsr (s : State) : (s.draw.2).fpcsr = s.fpcsr := rfl
@[simp] theorem State.draw_machi (s : State) : (s.draw.2).machi = s.machi := rfl
@[simp] theorem State.draw_maclo (s : State) : (s.draw.2).maclo = s.maclo := rfl
@[simp] theorem State.draw_dmmucr (s : State) : (s.draw.2).dmmucr = s.dmmucr := rfl
@[simp] theorem State.draw_dmmupr (s : State) : (s.draw.2).dmmupr = s.dmmupr := rfl
@[simp] theorem State.draw_immucr (s : State) : (s.draw.2).immucr = s.immucr := rfl
@[simp] theorem State.draw_immupr (s : State) : (s.draw.2).immupr = s.immupr := rfl
@[simp] theorem State.draw_dtlbmr (s : State) : (s.draw.2).dtlbmr = s.dtlbmr := rfl
@[simp] theorem State.draw_dtlbtr (s : State) : (s.draw.2).dtlbtr = s.dtlbtr := rfl
@[simp] theorem State.draw_itlbmr (s : State) : (s.draw.2).itlbmr = s.itlbmr := rfl
@[simp] theorem State.draw_itlbtr (s : State) : (s.draw.2).itlbtr = s.itlbtr := rfl
@[simp] theorem State.draw_datbmr (s : State) : (s.draw.2).datbmr = s.datbmr := rfl
@[simp] theorem State.draw_datbtr (s : State) : (s.draw.2).datbtr = s.datbtr := rfl
@[simp] theorem State.draw_iatbmr (s : State) : (s.draw.2).iatbmr = s.iatbmr := rfl
@[simp] theorem State.draw_iatbtr (s : State) : (s.draw.2).iatbtr = s.iatbtr := rfl
@[simp] theorem State.draw_dccr (s : State) : (s.draw.2).dccr = s.dccr := rfl
@[simp] theorem State.draw_iccr (s : State) : (s.draw.2).iccr = s.iccr := rfl
@[simp] theorem State.draw_dvr (s : State) : (s.draw.2).dvr = s.dvr := rfl
@[simp] theorem State.draw_dcr (s : State) : (s.draw.2).dcr = s.dcr := rfl
@[simp] theorem State.draw_dmr1 (s : State) : (s.draw.2).dmr1 = s.dmr1 := rfl
@[simp] theorem State.draw_dmr2 (s : State) : (s.draw.2).dmr2 = s.dmr2 := rfl
@[simp] theorem State.draw_dwcr (s : State) : (s.draw.2).dwcr = s.dwcr := rfl
@[simp] theorem State.draw_dsr (s : State) : (s.draw.2).dsr = s.dsr := rfl
@[simp] theorem State.draw_drr (s : State) : (s.draw.2).drr = s.drr := rfl
@[simp] theorem State.draw_debugStopped (s : State) : (s.draw.2).debugStopped = s.debugStopped := rfl
@[simp] theorem State.draw_pccr (s : State) : (s.draw.2).pccr = s.pccr := rfl
@[simp] theorem State.draw_pcmr (s : State) : (s.draw.2).pcmr = s.pcmr := rfl
@[simp] theorem State.draw_pmr (s : State) : (s.draw.2).pmr = s.pmr := rfl
@[simp] theorem State.draw_picmr (s : State) : (s.draw.2).picmr = s.picmr := rfl
@[simp] theorem State.draw_picLatch (s : State) : (s.draw.2).picLatch = s.picLatch := rfl
@[simp] theorem State.draw_irqIn (s : State) : (s.draw.2).irqIn = s.irqIn := rfl
@[simp] theorem State.draw_ttmr (s : State) : (s.draw.2).ttmr = s.ttmr := rfl
@[simp] theorem State.draw_ttcr (s : State) : (s.draw.2).ttcr = s.ttcr := rfl
@[simp] theorem State.draw_resv (s : State) : (s.draw.2).resv = s.resv := rfl
@[simp] theorem State.draw_ompic (s : State) : (s.draw.2).ompic = s.ompic := rfl
@[simp] theorem State.draw_mem (s : State) : (s.draw.2).mem = s.mem := rfl
@[simp] theorem State.draw_stale (s : State) : (s.draw.2).stale = s.stale := rfl
@[simp] theorem State.draw_inputs (s : State) : (s.draw.2).inputs = s.inputs := rfl
@[simp] theorem State.draw_tickWait (s : State) : (s.draw.2).tickWait = s.tickWait := rfl

@[simp] theorem State.orFlags_cfg (s : State) (fl : FFlags) : (s.orFlags fl).cfg = s.cfg := rfl
@[simp] theorem State.orFlags_gprs (s : State) (fl : FFlags) : (s.orFlags fl).gprs = s.gprs := rfl
@[simp] theorem State.orFlags_pc (s : State) (fl : FFlags) : (s.orFlags fl).pc = s.pc := rfl
@[simp] theorem State.orFlags_dsPending (s : State) (fl : FFlags) : (s.orFlags fl).dsPending = s.dsPending := rfl
@[simp] theorem State.orFlags_dsTarget (s : State) (fl : FFlags) : (s.orFlags fl).dsTarget = s.dsTarget := rfl
@[simp] theorem State.orFlags_ppc (s : State) (fl : FFlags) : (s.orFlags fl).ppc = s.ppc := rfl
@[simp] theorem State.orFlags_hist (s : State) (fl : FFlags) : (s.orFlags fl).hist = s.hist := rfl
@[simp] theorem State.orFlags_sr (s : State) (fl : FFlags) : (s.orFlags fl).sr = s.sr := rfl
@[simp] theorem State.orFlags_epcr (s : State) (fl : FFlags) : (s.orFlags fl).epcr = s.epcr := rfl
@[simp] theorem State.orFlags_eear (s : State) (fl : FFlags) : (s.orFlags fl).eear = s.eear := rfl
@[simp] theorem State.orFlags_esr (s : State) (fl : FFlags) : (s.orFlags fl).esr = s.esr := rfl
@[simp] theorem State.orFlags_evbar (s : State) (fl : FFlags) : (s.orFlags fl).evbar = s.evbar := rfl
@[simp] theorem State.orFlags_aecr (s : State) (fl : FFlags) : (s.orFlags fl).aecr = s.aecr := rfl
@[simp] theorem State.orFlags_aesr (s : State) (fl : FFlags) : (s.orFlags fl).aesr = s.aesr := rfl
@[simp] theorem State.orFlags_machi (s : State) (fl : FFlags) : (s.orFlags fl).machi = s.machi := rfl
@[simp] theorem State.orFlags_maclo (s : State) (fl : FFlags) : (s.orFlags fl).maclo = s.maclo := rfl
@[simp] theorem State.orFlags_dmmucr (s : State) (fl : FFlags) : (s.orFlags fl).dmmucr = s.dmmucr := rfl
@[simp] theorem State.orFlags_dmmupr (s : State) (fl : FFlags) : (s.orFlags fl).dmmupr = s.dmmupr := rfl
@[simp] theorem State.orFlags_immucr (s : State) (fl : FFlags) : (s.orFlags fl).immucr = s.immucr := rfl
@[simp] theorem State.orFlags_immupr (s : State) (fl : FFlags) : (s.orFlags fl).immupr = s.immupr := rfl
@[simp] theorem State.orFlags_dtlbmr (s : State) (fl : FFlags) : (s.orFlags fl).dtlbmr = s.dtlbmr := rfl
@[simp] theorem State.orFlags_dtlbtr (s : State) (fl : FFlags) : (s.orFlags fl).dtlbtr = s.dtlbtr := rfl
@[simp] theorem State.orFlags_itlbmr (s : State) (fl : FFlags) : (s.orFlags fl).itlbmr = s.itlbmr := rfl
@[simp] theorem State.orFlags_itlbtr (s : State) (fl : FFlags) : (s.orFlags fl).itlbtr = s.itlbtr := rfl
@[simp] theorem State.orFlags_datbmr (s : State) (fl : FFlags) : (s.orFlags fl).datbmr = s.datbmr := rfl
@[simp] theorem State.orFlags_datbtr (s : State) (fl : FFlags) : (s.orFlags fl).datbtr = s.datbtr := rfl
@[simp] theorem State.orFlags_iatbmr (s : State) (fl : FFlags) : (s.orFlags fl).iatbmr = s.iatbmr := rfl
@[simp] theorem State.orFlags_iatbtr (s : State) (fl : FFlags) : (s.orFlags fl).iatbtr = s.iatbtr := rfl
@[simp] theorem State.orFlags_dccr (s : State) (fl : FFlags) : (s.orFlags fl).dccr = s.dccr := rfl
@[simp] theorem State.orFlags_iccr (s : State) (fl : FFlags) : (s.orFlags fl).iccr = s.iccr := rfl
@[simp] theorem State.orFlags_dvr (s : State) (fl : FFlags) : (s.orFlags fl).dvr = s.dvr := rfl
@[simp] theorem State.orFlags_dcr (s : State) (fl : FFlags) : (s.orFlags fl).dcr = s.dcr := rfl
@[simp] theorem State.orFlags_dmr1 (s : State) (fl : FFlags) : (s.orFlags fl).dmr1 = s.dmr1 := rfl
@[simp] theorem State.orFlags_dmr2 (s : State) (fl : FFlags) : (s.orFlags fl).dmr2 = s.dmr2 := rfl
@[simp] theorem State.orFlags_dwcr (s : State) (fl : FFlags) : (s.orFlags fl).dwcr = s.dwcr := rfl
@[simp] theorem State.orFlags_dsr (s : State) (fl : FFlags) : (s.orFlags fl).dsr = s.dsr := rfl
@[simp] theorem State.orFlags_drr (s : State) (fl : FFlags) : (s.orFlags fl).drr = s.drr := rfl
@[simp] theorem State.orFlags_debugStopped (s : State) (fl : FFlags) : (s.orFlags fl).debugStopped = s.debugStopped :=
  rfl
@[simp] theorem State.orFlags_pccr (s : State) (fl : FFlags) : (s.orFlags fl).pccr = s.pccr := rfl
@[simp] theorem State.orFlags_pcmr (s : State) (fl : FFlags) : (s.orFlags fl).pcmr = s.pcmr := rfl
@[simp] theorem State.orFlags_pmr (s : State) (fl : FFlags) : (s.orFlags fl).pmr = s.pmr := rfl
@[simp] theorem State.orFlags_picmr (s : State) (fl : FFlags) : (s.orFlags fl).picmr = s.picmr := rfl
@[simp] theorem State.orFlags_picLatch (s : State) (fl : FFlags) : (s.orFlags fl).picLatch = s.picLatch := rfl
@[simp] theorem State.orFlags_irqIn (s : State) (fl : FFlags) : (s.orFlags fl).irqIn = s.irqIn := rfl
@[simp] theorem State.orFlags_ttmr (s : State) (fl : FFlags) : (s.orFlags fl).ttmr = s.ttmr := rfl
@[simp] theorem State.orFlags_ttcr (s : State) (fl : FFlags) : (s.orFlags fl).ttcr = s.ttcr := rfl
@[simp] theorem State.orFlags_resv (s : State) (fl : FFlags) : (s.orFlags fl).resv = s.resv := rfl
@[simp] theorem State.orFlags_ompic (s : State) (fl : FFlags) : (s.orFlags fl).ompic = s.ompic := rfl
@[simp] theorem State.orFlags_mem (s : State) (fl : FFlags) : (s.orFlags fl).mem = s.mem := rfl
@[simp] theorem State.orFlags_stale (s : State) (fl : FFlags) : (s.orFlags fl).stale = s.stale := rfl
@[simp] theorem State.orFlags_inputs (s : State) (fl : FFlags) : (s.orFlags fl).inputs = s.inputs := rfl
@[simp] theorem State.orFlags_tickWait (s : State) (fl : FFlags) : (s.orFlags fl).tickWait = s.tickWait := rfl
@[simp] theorem State.orFlags_freeCtr (s : State) (fl : FFlags) : (s.orFlags fl).freeCtr = s.freeCtr := rfl

@[simp] theorem State.leave_cfg (s : State) : (s.leave).cfg = s.cfg := rfl
@[simp] theorem State.leave_gprs (s : State) : (s.leave).gprs = s.gprs := rfl
@[simp] theorem State.leave_epcr (s : State) : (s.leave).epcr = s.epcr := rfl
@[simp] theorem State.leave_eear (s : State) : (s.leave).eear = s.eear := rfl
@[simp] theorem State.leave_esr (s : State) : (s.leave).esr = s.esr := rfl
@[simp] theorem State.leave_evbar (s : State) : (s.leave).evbar = s.evbar := rfl
@[simp] theorem State.leave_aecr (s : State) : (s.leave).aecr = s.aecr := rfl
@[simp] theorem State.leave_aesr (s : State) : (s.leave).aesr = s.aesr := rfl
@[simp] theorem State.leave_fpcsr (s : State) : (s.leave).fpcsr = s.fpcsr := rfl
@[simp] theorem State.leave_machi (s : State) : (s.leave).machi = s.machi := rfl
@[simp] theorem State.leave_maclo (s : State) : (s.leave).maclo = s.maclo := rfl
@[simp] theorem State.leave_dmmucr (s : State) : (s.leave).dmmucr = s.dmmucr := rfl
@[simp] theorem State.leave_dmmupr (s : State) : (s.leave).dmmupr = s.dmmupr := rfl
@[simp] theorem State.leave_immucr (s : State) : (s.leave).immucr = s.immucr := rfl
@[simp] theorem State.leave_immupr (s : State) : (s.leave).immupr = s.immupr := rfl
@[simp] theorem State.leave_dtlbmr (s : State) : (s.leave).dtlbmr = s.dtlbmr := rfl
@[simp] theorem State.leave_dtlbtr (s : State) : (s.leave).dtlbtr = s.dtlbtr := rfl
@[simp] theorem State.leave_itlbmr (s : State) : (s.leave).itlbmr = s.itlbmr := rfl
@[simp] theorem State.leave_itlbtr (s : State) : (s.leave).itlbtr = s.itlbtr := rfl
@[simp] theorem State.leave_datbmr (s : State) : (s.leave).datbmr = s.datbmr := rfl
@[simp] theorem State.leave_datbtr (s : State) : (s.leave).datbtr = s.datbtr := rfl
@[simp] theorem State.leave_iatbmr (s : State) : (s.leave).iatbmr = s.iatbmr := rfl
@[simp] theorem State.leave_iatbtr (s : State) : (s.leave).iatbtr = s.iatbtr := rfl
@[simp] theorem State.leave_dccr (s : State) : (s.leave).dccr = s.dccr := rfl
@[simp] theorem State.leave_iccr (s : State) : (s.leave).iccr = s.iccr := rfl
@[simp] theorem State.leave_dvr (s : State) : (s.leave).dvr = s.dvr := rfl
@[simp] theorem State.leave_dcr (s : State) : (s.leave).dcr = s.dcr := rfl
@[simp] theorem State.leave_dmr1 (s : State) : (s.leave).dmr1 = s.dmr1 := rfl
@[simp] theorem State.leave_dmr2 (s : State) : (s.leave).dmr2 = s.dmr2 := rfl
@[simp] theorem State.leave_dwcr (s : State) : (s.leave).dwcr = s.dwcr := rfl
@[simp] theorem State.leave_dsr (s : State) : (s.leave).dsr = s.dsr := rfl
@[simp] theorem State.leave_drr (s : State) : (s.leave).drr = s.drr := rfl
@[simp] theorem State.leave_debugStopped (s : State) : (s.leave).debugStopped = s.debugStopped := rfl
@[simp] theorem State.leave_pccr (s : State) : (s.leave).pccr = s.pccr := rfl
@[simp] theorem State.leave_pcmr (s : State) : (s.leave).pcmr = s.pcmr := rfl
@[simp] theorem State.leave_pmr (s : State) : (s.leave).pmr = s.pmr := rfl
@[simp] theorem State.leave_picmr (s : State) : (s.leave).picmr = s.picmr := rfl
@[simp] theorem State.leave_picLatch (s : State) : (s.leave).picLatch = s.picLatch := rfl
@[simp] theorem State.leave_irqIn (s : State) : (s.leave).irqIn = s.irqIn := rfl
@[simp] theorem State.leave_ttmr (s : State) : (s.leave).ttmr = s.ttmr := rfl
@[simp] theorem State.leave_ttcr (s : State) : (s.leave).ttcr = s.ttcr := rfl
@[simp] theorem State.leave_resv (s : State) : (s.leave).resv = s.resv := rfl
@[simp] theorem State.leave_ompic (s : State) : (s.leave).ompic = s.ompic := rfl
@[simp] theorem State.leave_mem (s : State) : (s.leave).mem = s.mem := rfl
@[simp] theorem State.leave_stale (s : State) : (s.leave).stale = s.stale := rfl
@[simp] theorem State.leave_inputs (s : State) : (s.leave).inputs = s.inputs := rfl
@[simp] theorem State.leave_tickWait (s : State) : (s.leave).tickWait = s.tickWait := rfl
@[simp] theorem State.leave_freeCtr (s : State) : (s.leave).freeCtr = s.freeCtr := rfl

@[simp] theorem State.setNpc_cfg (s : State) (v : Word) : (s.setNpc v).cfg = s.cfg := rfl
@[simp] theorem State.setNpc_gprs (s : State) (v : Word) : (s.setNpc v).gprs = s.gprs := rfl
@[simp] theorem State.setNpc_dsTarget (s : State) (v : Word) : (s.setNpc v).dsTarget = s.dsTarget := rfl
@[simp] theorem State.setNpc_sr (s : State) (v : Word) : (s.setNpc v).sr = s.sr := rfl
@[simp] theorem State.setNpc_epcr (s : State) (v : Word) : (s.setNpc v).epcr = s.epcr := rfl
@[simp] theorem State.setNpc_eear (s : State) (v : Word) : (s.setNpc v).eear = s.eear := rfl
@[simp] theorem State.setNpc_esr (s : State) (v : Word) : (s.setNpc v).esr = s.esr := rfl
@[simp] theorem State.setNpc_evbar (s : State) (v : Word) : (s.setNpc v).evbar = s.evbar := rfl
@[simp] theorem State.setNpc_aecr (s : State) (v : Word) : (s.setNpc v).aecr = s.aecr := rfl
@[simp] theorem State.setNpc_aesr (s : State) (v : Word) : (s.setNpc v).aesr = s.aesr := rfl
@[simp] theorem State.setNpc_fpcsr (s : State) (v : Word) : (s.setNpc v).fpcsr = s.fpcsr := rfl
@[simp] theorem State.setNpc_machi (s : State) (v : Word) : (s.setNpc v).machi = s.machi := rfl
@[simp] theorem State.setNpc_maclo (s : State) (v : Word) : (s.setNpc v).maclo = s.maclo := rfl
@[simp] theorem State.setNpc_dmmucr (s : State) (v : Word) : (s.setNpc v).dmmucr = s.dmmucr := rfl
@[simp] theorem State.setNpc_dmmupr (s : State) (v : Word) : (s.setNpc v).dmmupr = s.dmmupr := rfl
@[simp] theorem State.setNpc_immucr (s : State) (v : Word) : (s.setNpc v).immucr = s.immucr := rfl
@[simp] theorem State.setNpc_immupr (s : State) (v : Word) : (s.setNpc v).immupr = s.immupr := rfl
@[simp] theorem State.setNpc_dtlbmr (s : State) (v : Word) : (s.setNpc v).dtlbmr = s.dtlbmr := rfl
@[simp] theorem State.setNpc_dtlbtr (s : State) (v : Word) : (s.setNpc v).dtlbtr = s.dtlbtr := rfl
@[simp] theorem State.setNpc_itlbmr (s : State) (v : Word) : (s.setNpc v).itlbmr = s.itlbmr := rfl
@[simp] theorem State.setNpc_itlbtr (s : State) (v : Word) : (s.setNpc v).itlbtr = s.itlbtr := rfl
@[simp] theorem State.setNpc_datbmr (s : State) (v : Word) : (s.setNpc v).datbmr = s.datbmr := rfl
@[simp] theorem State.setNpc_datbtr (s : State) (v : Word) : (s.setNpc v).datbtr = s.datbtr := rfl
@[simp] theorem State.setNpc_iatbmr (s : State) (v : Word) : (s.setNpc v).iatbmr = s.iatbmr := rfl
@[simp] theorem State.setNpc_iatbtr (s : State) (v : Word) : (s.setNpc v).iatbtr = s.iatbtr := rfl
@[simp] theorem State.setNpc_dccr (s : State) (v : Word) : (s.setNpc v).dccr = s.dccr := rfl
@[simp] theorem State.setNpc_iccr (s : State) (v : Word) : (s.setNpc v).iccr = s.iccr := rfl
@[simp] theorem State.setNpc_dvr (s : State) (v : Word) : (s.setNpc v).dvr = s.dvr := rfl
@[simp] theorem State.setNpc_dcr (s : State) (v : Word) : (s.setNpc v).dcr = s.dcr := rfl
@[simp] theorem State.setNpc_dmr1 (s : State) (v : Word) : (s.setNpc v).dmr1 = s.dmr1 := rfl
@[simp] theorem State.setNpc_dmr2 (s : State) (v : Word) : (s.setNpc v).dmr2 = s.dmr2 := rfl
@[simp] theorem State.setNpc_dwcr (s : State) (v : Word) : (s.setNpc v).dwcr = s.dwcr := rfl
@[simp] theorem State.setNpc_dsr (s : State) (v : Word) : (s.setNpc v).dsr = s.dsr := rfl
@[simp] theorem State.setNpc_drr (s : State) (v : Word) : (s.setNpc v).drr = s.drr := rfl
@[simp] theorem State.setNpc_debugStopped (s : State) (v : Word) : (s.setNpc v).debugStopped = s.debugStopped := rfl
@[simp] theorem State.setNpc_pccr (s : State) (v : Word) : (s.setNpc v).pccr = s.pccr := rfl
@[simp] theorem State.setNpc_pcmr (s : State) (v : Word) : (s.setNpc v).pcmr = s.pcmr := rfl
@[simp] theorem State.setNpc_pmr (s : State) (v : Word) : (s.setNpc v).pmr = s.pmr := rfl
@[simp] theorem State.setNpc_picmr (s : State) (v : Word) : (s.setNpc v).picmr = s.picmr := rfl
@[simp] theorem State.setNpc_picLatch (s : State) (v : Word) : (s.setNpc v).picLatch = s.picLatch := rfl
@[simp] theorem State.setNpc_irqIn (s : State) (v : Word) : (s.setNpc v).irqIn = s.irqIn := rfl
@[simp] theorem State.setNpc_ttmr (s : State) (v : Word) : (s.setNpc v).ttmr = s.ttmr := rfl
@[simp] theorem State.setNpc_ttcr (s : State) (v : Word) : (s.setNpc v).ttcr = s.ttcr := rfl
@[simp] theorem State.setNpc_resv (s : State) (v : Word) : (s.setNpc v).resv = s.resv := rfl
@[simp] theorem State.setNpc_ompic (s : State) (v : Word) : (s.setNpc v).ompic = s.ompic := rfl
@[simp] theorem State.setNpc_mem (s : State) (v : Word) : (s.setNpc v).mem = s.mem := rfl
@[simp] theorem State.setNpc_stale (s : State) (v : Word) : (s.setNpc v).stale = s.stale := rfl
@[simp] theorem State.setNpc_inputs (s : State) (v : Word) : (s.setNpc v).inputs = s.inputs := rfl
@[simp] theorem State.setNpc_tickWait (s : State) (v : Word) : (s.setNpc v).tickWait = s.tickWait := rfl
@[simp] theorem State.setNpc_freeCtr (s : State) (v : Word) : (s.setNpc v).freeCtr = s.freeCtr := rfl

@[simp] theorem State.latchEdges_cfg (s : State) (w : Word32) : (s.latchEdges w).cfg = s.cfg := rfl
@[simp] theorem State.latchEdges_gprs (s : State) (w : Word32) : (s.latchEdges w).gprs = s.gprs := rfl
@[simp] theorem State.latchEdges_pc (s : State) (w : Word32) : (s.latchEdges w).pc = s.pc := rfl
@[simp] theorem State.latchEdges_dsPending (s : State) (w : Word32) : (s.latchEdges w).dsPending = s.dsPending := rfl
@[simp] theorem State.latchEdges_dsTarget (s : State) (w : Word32) : (s.latchEdges w).dsTarget = s.dsTarget := rfl
@[simp] theorem State.latchEdges_ppc (s : State) (w : Word32) : (s.latchEdges w).ppc = s.ppc := rfl
@[simp] theorem State.latchEdges_hist (s : State) (w : Word32) : (s.latchEdges w).hist = s.hist := rfl
@[simp] theorem State.latchEdges_sr (s : State) (w : Word32) : (s.latchEdges w).sr = s.sr := rfl
@[simp] theorem State.latchEdges_epcr (s : State) (w : Word32) : (s.latchEdges w).epcr = s.epcr := rfl
@[simp] theorem State.latchEdges_eear (s : State) (w : Word32) : (s.latchEdges w).eear = s.eear := rfl
@[simp] theorem State.latchEdges_esr (s : State) (w : Word32) : (s.latchEdges w).esr = s.esr := rfl
@[simp] theorem State.latchEdges_evbar (s : State) (w : Word32) : (s.latchEdges w).evbar = s.evbar := rfl
@[simp] theorem State.latchEdges_aecr (s : State) (w : Word32) : (s.latchEdges w).aecr = s.aecr := rfl
@[simp] theorem State.latchEdges_aesr (s : State) (w : Word32) : (s.latchEdges w).aesr = s.aesr := rfl
@[simp] theorem State.latchEdges_fpcsr (s : State) (w : Word32) : (s.latchEdges w).fpcsr = s.fpcsr := rfl
@[simp] theorem State.latchEdges_machi (s : State) (w : Word32) : (s.latchEdges w).machi = s.machi := rfl
@[simp] theorem State.latchEdges_maclo (s : State) (w : Word32) : (s.latchEdges w).maclo = s.maclo := rfl
@[simp] theorem State.latchEdges_dmmucr (s : State) (w : Word32) : (s.latchEdges w).dmmucr = s.dmmucr := rfl
@[simp] theorem State.latchEdges_dmmupr (s : State) (w : Word32) : (s.latchEdges w).dmmupr = s.dmmupr := rfl
@[simp] theorem State.latchEdges_immucr (s : State) (w : Word32) : (s.latchEdges w).immucr = s.immucr := rfl
@[simp] theorem State.latchEdges_immupr (s : State) (w : Word32) : (s.latchEdges w).immupr = s.immupr := rfl
@[simp] theorem State.latchEdges_dtlbmr (s : State) (w : Word32) : (s.latchEdges w).dtlbmr = s.dtlbmr := rfl
@[simp] theorem State.latchEdges_dtlbtr (s : State) (w : Word32) : (s.latchEdges w).dtlbtr = s.dtlbtr := rfl
@[simp] theorem State.latchEdges_itlbmr (s : State) (w : Word32) : (s.latchEdges w).itlbmr = s.itlbmr := rfl
@[simp] theorem State.latchEdges_itlbtr (s : State) (w : Word32) : (s.latchEdges w).itlbtr = s.itlbtr := rfl
@[simp] theorem State.latchEdges_datbmr (s : State) (w : Word32) : (s.latchEdges w).datbmr = s.datbmr := rfl
@[simp] theorem State.latchEdges_datbtr (s : State) (w : Word32) : (s.latchEdges w).datbtr = s.datbtr := rfl
@[simp] theorem State.latchEdges_iatbmr (s : State) (w : Word32) : (s.latchEdges w).iatbmr = s.iatbmr := rfl
@[simp] theorem State.latchEdges_iatbtr (s : State) (w : Word32) : (s.latchEdges w).iatbtr = s.iatbtr := rfl
@[simp] theorem State.latchEdges_dccr (s : State) (w : Word32) : (s.latchEdges w).dccr = s.dccr := rfl
@[simp] theorem State.latchEdges_iccr (s : State) (w : Word32) : (s.latchEdges w).iccr = s.iccr := rfl
@[simp] theorem State.latchEdges_dvr (s : State) (w : Word32) : (s.latchEdges w).dvr = s.dvr := rfl
@[simp] theorem State.latchEdges_dcr (s : State) (w : Word32) : (s.latchEdges w).dcr = s.dcr := rfl
@[simp] theorem State.latchEdges_dmr1 (s : State) (w : Word32) : (s.latchEdges w).dmr1 = s.dmr1 := rfl
@[simp] theorem State.latchEdges_dmr2 (s : State) (w : Word32) : (s.latchEdges w).dmr2 = s.dmr2 := rfl
@[simp] theorem State.latchEdges_dwcr (s : State) (w : Word32) : (s.latchEdges w).dwcr = s.dwcr := rfl
@[simp] theorem State.latchEdges_dsr (s : State) (w : Word32) : (s.latchEdges w).dsr = s.dsr := rfl
@[simp] theorem State.latchEdges_drr (s : State) (w : Word32) : (s.latchEdges w).drr = s.drr := rfl
@[simp] theorem State.latchEdges_debugStopped (s : State) (w : Word32) : (s.latchEdges w).debugStopped = s.debugStopped :=
  rfl
@[simp] theorem State.latchEdges_pccr (s : State) (w : Word32) : (s.latchEdges w).pccr = s.pccr := rfl
@[simp] theorem State.latchEdges_pcmr (s : State) (w : Word32) : (s.latchEdges w).pcmr = s.pcmr := rfl
@[simp] theorem State.latchEdges_pmr (s : State) (w : Word32) : (s.latchEdges w).pmr = s.pmr := rfl
@[simp] theorem State.latchEdges_picmr (s : State) (w : Word32) : (s.latchEdges w).picmr = s.picmr := rfl
@[simp] theorem State.latchEdges_irqIn (s : State) (w : Word32) : (s.latchEdges w).irqIn = s.irqIn := rfl
@[simp] theorem State.latchEdges_ttmr (s : State) (w : Word32) : (s.latchEdges w).ttmr = s.ttmr := rfl
@[simp] theorem State.latchEdges_ttcr (s : State) (w : Word32) : (s.latchEdges w).ttcr = s.ttcr := rfl
@[simp] theorem State.latchEdges_resv (s : State) (w : Word32) : (s.latchEdges w).resv = s.resv := rfl
@[simp] theorem State.latchEdges_ompic (s : State) (w : Word32) : (s.latchEdges w).ompic = s.ompic := rfl
@[simp] theorem State.latchEdges_mem (s : State) (w : Word32) : (s.latchEdges w).mem = s.mem := rfl
@[simp] theorem State.latchEdges_stale (s : State) (w : Word32) : (s.latchEdges w).stale = s.stale := rfl
@[simp] theorem State.latchEdges_inputs (s : State) (w : Word32) : (s.latchEdges w).inputs = s.inputs := rfl
@[simp] theorem State.latchEdges_tickWait (s : State) (w : Word32) : (s.latchEdges w).tickWait = s.tickWait := rfl
@[simp] theorem State.latchEdges_freeCtr (s : State) (w : Word32) : (s.latchEdges w).freeCtr = s.freeCtr := rfl

@[simp] theorem State.setGprAt_cfg (s : State) (i : BitVec 9) (v : Word) : (s.setGprAt i v).cfg = s.cfg :=
  by unfold State.setGprAt; split <;> rfl
@[simp] theorem State.setGprAt_pc (s : State) (i : BitVec 9) (v : Word) : (s.setGprAt i v).pc = s.pc :=
  by unfold State.setGprAt; split <;> rfl
@[simp] theorem State.setGprAt_dsPending (s : State) (i : BitVec 9) (v : Word) : (s.setGprAt i v).dsPending = s.dsPending :=
  by unfold State.setGprAt; split <;> rfl
@[simp] theorem State.setGprAt_dsTarget (s : State) (i : BitVec 9) (v : Word) : (s.setGprAt i v).dsTarget = s.dsTarget :=
  by unfold State.setGprAt; split <;> rfl
@[simp] theorem State.setGprAt_ppc (s : State) (i : BitVec 9) (v : Word) : (s.setGprAt i v).ppc = s.ppc :=
  by unfold State.setGprAt; split <;> rfl
@[simp] theorem State.setGprAt_hist (s : State) (i : BitVec 9) (v : Word) : (s.setGprAt i v).hist = s.hist :=
  by unfold State.setGprAt; split <;> rfl
@[simp] theorem State.setGprAt_sr (s : State) (i : BitVec 9) (v : Word) : (s.setGprAt i v).sr = s.sr :=
  by unfold State.setGprAt; split <;> rfl
@[simp] theorem State.setGprAt_epcr (s : State) (i : BitVec 9) (v : Word) : (s.setGprAt i v).epcr = s.epcr :=
  by unfold State.setGprAt; split <;> rfl
@[simp] theorem State.setGprAt_eear (s : State) (i : BitVec 9) (v : Word) : (s.setGprAt i v).eear = s.eear :=
  by unfold State.setGprAt; split <;> rfl
@[simp] theorem State.setGprAt_esr (s : State) (i : BitVec 9) (v : Word) : (s.setGprAt i v).esr = s.esr :=
  by unfold State.setGprAt; split <;> rfl
@[simp] theorem State.setGprAt_evbar (s : State) (i : BitVec 9) (v : Word) : (s.setGprAt i v).evbar = s.evbar :=
  by unfold State.setGprAt; split <;> rfl
@[simp] theorem State.setGprAt_aecr (s : State) (i : BitVec 9) (v : Word) : (s.setGprAt i v).aecr = s.aecr :=
  by unfold State.setGprAt; split <;> rfl
@[simp] theorem State.setGprAt_aesr (s : State) (i : BitVec 9) (v : Word) : (s.setGprAt i v).aesr = s.aesr :=
  by unfold State.setGprAt; split <;> rfl
@[simp] theorem State.setGprAt_fpcsr (s : State) (i : BitVec 9) (v : Word) : (s.setGprAt i v).fpcsr = s.fpcsr :=
  by unfold State.setGprAt; split <;> rfl
@[simp] theorem State.setGprAt_machi (s : State) (i : BitVec 9) (v : Word) : (s.setGprAt i v).machi = s.machi :=
  by unfold State.setGprAt; split <;> rfl
@[simp] theorem State.setGprAt_maclo (s : State) (i : BitVec 9) (v : Word) : (s.setGprAt i v).maclo = s.maclo :=
  by unfold State.setGprAt; split <;> rfl
@[simp] theorem State.setGprAt_dmmucr (s : State) (i : BitVec 9) (v : Word) : (s.setGprAt i v).dmmucr = s.dmmucr :=
  by unfold State.setGprAt; split <;> rfl
@[simp] theorem State.setGprAt_dmmupr (s : State) (i : BitVec 9) (v : Word) : (s.setGprAt i v).dmmupr = s.dmmupr :=
  by unfold State.setGprAt; split <;> rfl
@[simp] theorem State.setGprAt_immucr (s : State) (i : BitVec 9) (v : Word) : (s.setGprAt i v).immucr = s.immucr :=
  by unfold State.setGprAt; split <;> rfl
@[simp] theorem State.setGprAt_immupr (s : State) (i : BitVec 9) (v : Word) : (s.setGprAt i v).immupr = s.immupr :=
  by unfold State.setGprAt; split <;> rfl
@[simp] theorem State.setGprAt_dtlbmr (s : State) (i : BitVec 9) (v : Word) : (s.setGprAt i v).dtlbmr = s.dtlbmr :=
  by unfold State.setGprAt; split <;> rfl
@[simp] theorem State.setGprAt_dtlbtr (s : State) (i : BitVec 9) (v : Word) : (s.setGprAt i v).dtlbtr = s.dtlbtr :=
  by unfold State.setGprAt; split <;> rfl
@[simp] theorem State.setGprAt_itlbmr (s : State) (i : BitVec 9) (v : Word) : (s.setGprAt i v).itlbmr = s.itlbmr :=
  by unfold State.setGprAt; split <;> rfl
@[simp] theorem State.setGprAt_itlbtr (s : State) (i : BitVec 9) (v : Word) : (s.setGprAt i v).itlbtr = s.itlbtr :=
  by unfold State.setGprAt; split <;> rfl
@[simp] theorem State.setGprAt_datbmr (s : State) (i : BitVec 9) (v : Word) : (s.setGprAt i v).datbmr = s.datbmr :=
  by unfold State.setGprAt; split <;> rfl
@[simp] theorem State.setGprAt_datbtr (s : State) (i : BitVec 9) (v : Word) : (s.setGprAt i v).datbtr = s.datbtr :=
  by unfold State.setGprAt; split <;> rfl
@[simp] theorem State.setGprAt_iatbmr (s : State) (i : BitVec 9) (v : Word) : (s.setGprAt i v).iatbmr = s.iatbmr :=
  by unfold State.setGprAt; split <;> rfl
@[simp] theorem State.setGprAt_iatbtr (s : State) (i : BitVec 9) (v : Word) : (s.setGprAt i v).iatbtr = s.iatbtr :=
  by unfold State.setGprAt; split <;> rfl
@[simp] theorem State.setGprAt_dccr (s : State) (i : BitVec 9) (v : Word) : (s.setGprAt i v).dccr = s.dccr :=
  by unfold State.setGprAt; split <;> rfl
@[simp] theorem State.setGprAt_iccr (s : State) (i : BitVec 9) (v : Word) : (s.setGprAt i v).iccr = s.iccr :=
  by unfold State.setGprAt; split <;> rfl
@[simp] theorem State.setGprAt_dvr (s : State) (i : BitVec 9) (v : Word) : (s.setGprAt i v).dvr = s.dvr :=
  by unfold State.setGprAt; split <;> rfl
@[simp] theorem State.setGprAt_dcr (s : State) (i : BitVec 9) (v : Word) : (s.setGprAt i v).dcr = s.dcr :=
  by unfold State.setGprAt; split <;> rfl
@[simp] theorem State.setGprAt_dmr1 (s : State) (i : BitVec 9) (v : Word) : (s.setGprAt i v).dmr1 = s.dmr1 :=
  by unfold State.setGprAt; split <;> rfl
@[simp] theorem State.setGprAt_dmr2 (s : State) (i : BitVec 9) (v : Word) : (s.setGprAt i v).dmr2 = s.dmr2 :=
  by unfold State.setGprAt; split <;> rfl
@[simp] theorem State.setGprAt_dwcr (s : State) (i : BitVec 9) (v : Word) : (s.setGprAt i v).dwcr = s.dwcr :=
  by unfold State.setGprAt; split <;> rfl
@[simp] theorem State.setGprAt_dsr (s : State) (i : BitVec 9) (v : Word) : (s.setGprAt i v).dsr = s.dsr :=
  by unfold State.setGprAt; split <;> rfl
@[simp] theorem State.setGprAt_drr (s : State) (i : BitVec 9) (v : Word) : (s.setGprAt i v).drr = s.drr :=
  by unfold State.setGprAt; split <;> rfl
@[simp] theorem State.setGprAt_debugStopped (s : State) (i : BitVec 9) (v : Word) : (s.setGprAt i v).debugStopped = s.debugStopped :=
  by unfold State.setGprAt; split <;> rfl
@[simp] theorem State.setGprAt_pccr (s : State) (i : BitVec 9) (v : Word) : (s.setGprAt i v).pccr = s.pccr :=
  by unfold State.setGprAt; split <;> rfl
@[simp] theorem State.setGprAt_pcmr (s : State) (i : BitVec 9) (v : Word) : (s.setGprAt i v).pcmr = s.pcmr :=
  by unfold State.setGprAt; split <;> rfl
@[simp] theorem State.setGprAt_pmr (s : State) (i : BitVec 9) (v : Word) : (s.setGprAt i v).pmr = s.pmr :=
  by unfold State.setGprAt; split <;> rfl
@[simp] theorem State.setGprAt_picmr (s : State) (i : BitVec 9) (v : Word) : (s.setGprAt i v).picmr = s.picmr :=
  by unfold State.setGprAt; split <;> rfl
@[simp] theorem State.setGprAt_picLatch (s : State) (i : BitVec 9) (v : Word) : (s.setGprAt i v).picLatch = s.picLatch :=
  by unfold State.setGprAt; split <;> rfl
@[simp] theorem State.setGprAt_irqIn (s : State) (i : BitVec 9) (v : Word) : (s.setGprAt i v).irqIn = s.irqIn :=
  by unfold State.setGprAt; split <;> rfl
@[simp] theorem State.setGprAt_ttmr (s : State) (i : BitVec 9) (v : Word) : (s.setGprAt i v).ttmr = s.ttmr :=
  by unfold State.setGprAt; split <;> rfl
@[simp] theorem State.setGprAt_ttcr (s : State) (i : BitVec 9) (v : Word) : (s.setGprAt i v).ttcr = s.ttcr :=
  by unfold State.setGprAt; split <;> rfl
@[simp] theorem State.setGprAt_resv (s : State) (i : BitVec 9) (v : Word) : (s.setGprAt i v).resv = s.resv :=
  by unfold State.setGprAt; split <;> rfl
@[simp] theorem State.setGprAt_ompic (s : State) (i : BitVec 9) (v : Word) : (s.setGprAt i v).ompic = s.ompic :=
  by unfold State.setGprAt; split <;> rfl
@[simp] theorem State.setGprAt_mem (s : State) (i : BitVec 9) (v : Word) : (s.setGprAt i v).mem = s.mem :=
  by unfold State.setGprAt; split <;> rfl
@[simp] theorem State.setGprAt_stale (s : State) (i : BitVec 9) (v : Word) : (s.setGprAt i v).stale = s.stale :=
  by unfold State.setGprAt; split <;> rfl
@[simp] theorem State.setGprAt_inputs (s : State) (i : BitVec 9) (v : Word) : (s.setGprAt i v).inputs = s.inputs :=
  by unfold State.setGprAt; split <;> rfl
@[simp] theorem State.setGprAt_tickWait (s : State) (i : BitVec 9) (v : Word) : (s.setGprAt i v).tickWait = s.tickWait :=
  by unfold State.setGprAt; split <;> rfl
@[simp] theorem State.setGprAt_freeCtr (s : State) (i : BitVec 9) (v : Word) : (s.setGprAt i v).freeCtr = s.freeCtr :=
  by unfold State.setGprAt; split <;> rfl

@[simp] theorem State.setGpr_cfg (s : State) (r : Reg) (v : Word) : (s.setGpr r v).cfg = s.cfg :=
  by simp [State.setGpr]
@[simp] theorem State.setGpr_pc (s : State) (r : Reg) (v : Word) : (s.setGpr r v).pc = s.pc := by simp [State.setGpr]
@[simp] theorem State.setGpr_dsPending (s : State) (r : Reg) (v : Word) : (s.setGpr r v).dsPending = s.dsPending :=
  by simp [State.setGpr]
@[simp] theorem State.setGpr_dsTarget (s : State) (r : Reg) (v : Word) : (s.setGpr r v).dsTarget = s.dsTarget :=
  by simp [State.setGpr]
@[simp] theorem State.setGpr_ppc (s : State) (r : Reg) (v : Word) : (s.setGpr r v).ppc = s.ppc :=
  by simp [State.setGpr]
@[simp] theorem State.setGpr_hist (s : State) (r : Reg) (v : Word) : (s.setGpr r v).hist = s.hist :=
  by simp [State.setGpr]
@[simp] theorem State.setGpr_sr (s : State) (r : Reg) (v : Word) : (s.setGpr r v).sr = s.sr := by simp [State.setGpr]
@[simp] theorem State.setGpr_epcr (s : State) (r : Reg) (v : Word) : (s.setGpr r v).epcr = s.epcr :=
  by simp [State.setGpr]
@[simp] theorem State.setGpr_eear (s : State) (r : Reg) (v : Word) : (s.setGpr r v).eear = s.eear :=
  by simp [State.setGpr]
@[simp] theorem State.setGpr_esr (s : State) (r : Reg) (v : Word) : (s.setGpr r v).esr = s.esr :=
  by simp [State.setGpr]
@[simp] theorem State.setGpr_evbar (s : State) (r : Reg) (v : Word) : (s.setGpr r v).evbar = s.evbar :=
  by simp [State.setGpr]
@[simp] theorem State.setGpr_aecr (s : State) (r : Reg) (v : Word) : (s.setGpr r v).aecr = s.aecr :=
  by simp [State.setGpr]
@[simp] theorem State.setGpr_aesr (s : State) (r : Reg) (v : Word) : (s.setGpr r v).aesr = s.aesr :=
  by simp [State.setGpr]
@[simp] theorem State.setGpr_fpcsr (s : State) (r : Reg) (v : Word) : (s.setGpr r v).fpcsr = s.fpcsr :=
  by simp [State.setGpr]
@[simp] theorem State.setGpr_machi (s : State) (r : Reg) (v : Word) : (s.setGpr r v).machi = s.machi :=
  by simp [State.setGpr]
@[simp] theorem State.setGpr_maclo (s : State) (r : Reg) (v : Word) : (s.setGpr r v).maclo = s.maclo :=
  by simp [State.setGpr]
@[simp] theorem State.setGpr_dmmucr (s : State) (r : Reg) (v : Word) : (s.setGpr r v).dmmucr = s.dmmucr :=
  by simp [State.setGpr]
@[simp] theorem State.setGpr_dmmupr (s : State) (r : Reg) (v : Word) : (s.setGpr r v).dmmupr = s.dmmupr :=
  by simp [State.setGpr]
@[simp] theorem State.setGpr_immucr (s : State) (r : Reg) (v : Word) : (s.setGpr r v).immucr = s.immucr :=
  by simp [State.setGpr]
@[simp] theorem State.setGpr_immupr (s : State) (r : Reg) (v : Word) : (s.setGpr r v).immupr = s.immupr :=
  by simp [State.setGpr]
@[simp] theorem State.setGpr_dtlbmr (s : State) (r : Reg) (v : Word) : (s.setGpr r v).dtlbmr = s.dtlbmr :=
  by simp [State.setGpr]
@[simp] theorem State.setGpr_dtlbtr (s : State) (r : Reg) (v : Word) : (s.setGpr r v).dtlbtr = s.dtlbtr :=
  by simp [State.setGpr]
@[simp] theorem State.setGpr_itlbmr (s : State) (r : Reg) (v : Word) : (s.setGpr r v).itlbmr = s.itlbmr :=
  by simp [State.setGpr]
@[simp] theorem State.setGpr_itlbtr (s : State) (r : Reg) (v : Word) : (s.setGpr r v).itlbtr = s.itlbtr :=
  by simp [State.setGpr]
@[simp] theorem State.setGpr_datbmr (s : State) (r : Reg) (v : Word) : (s.setGpr r v).datbmr = s.datbmr :=
  by simp [State.setGpr]
@[simp] theorem State.setGpr_datbtr (s : State) (r : Reg) (v : Word) : (s.setGpr r v).datbtr = s.datbtr :=
  by simp [State.setGpr]
@[simp] theorem State.setGpr_iatbmr (s : State) (r : Reg) (v : Word) : (s.setGpr r v).iatbmr = s.iatbmr :=
  by simp [State.setGpr]
@[simp] theorem State.setGpr_iatbtr (s : State) (r : Reg) (v : Word) : (s.setGpr r v).iatbtr = s.iatbtr :=
  by simp [State.setGpr]
@[simp] theorem State.setGpr_dccr (s : State) (r : Reg) (v : Word) : (s.setGpr r v).dccr = s.dccr :=
  by simp [State.setGpr]
@[simp] theorem State.setGpr_iccr (s : State) (r : Reg) (v : Word) : (s.setGpr r v).iccr = s.iccr :=
  by simp [State.setGpr]
@[simp] theorem State.setGpr_dvr (s : State) (r : Reg) (v : Word) : (s.setGpr r v).dvr = s.dvr :=
  by simp [State.setGpr]
@[simp] theorem State.setGpr_dcr (s : State) (r : Reg) (v : Word) : (s.setGpr r v).dcr = s.dcr :=
  by simp [State.setGpr]
@[simp] theorem State.setGpr_dmr1 (s : State) (r : Reg) (v : Word) : (s.setGpr r v).dmr1 = s.dmr1 :=
  by simp [State.setGpr]
@[simp] theorem State.setGpr_dmr2 (s : State) (r : Reg) (v : Word) : (s.setGpr r v).dmr2 = s.dmr2 :=
  by simp [State.setGpr]
@[simp] theorem State.setGpr_dwcr (s : State) (r : Reg) (v : Word) : (s.setGpr r v).dwcr = s.dwcr :=
  by simp [State.setGpr]
@[simp] theorem State.setGpr_dsr (s : State) (r : Reg) (v : Word) : (s.setGpr r v).dsr = s.dsr :=
  by simp [State.setGpr]
@[simp] theorem State.setGpr_drr (s : State) (r : Reg) (v : Word) : (s.setGpr r v).drr = s.drr :=
  by simp [State.setGpr]
@[simp] theorem State.setGpr_debugStopped (s : State) (r : Reg) (v : Word) : (s.setGpr r v).debugStopped = s.debugStopped :=
  by simp [State.setGpr]
@[simp] theorem State.setGpr_pccr (s : State) (r : Reg) (v : Word) : (s.setGpr r v).pccr = s.pccr :=
  by simp [State.setGpr]
@[simp] theorem State.setGpr_pcmr (s : State) (r : Reg) (v : Word) : (s.setGpr r v).pcmr = s.pcmr :=
  by simp [State.setGpr]
@[simp] theorem State.setGpr_pmr (s : State) (r : Reg) (v : Word) : (s.setGpr r v).pmr = s.pmr :=
  by simp [State.setGpr]
@[simp] theorem State.setGpr_picmr (s : State) (r : Reg) (v : Word) : (s.setGpr r v).picmr = s.picmr :=
  by simp [State.setGpr]
@[simp] theorem State.setGpr_picLatch (s : State) (r : Reg) (v : Word) : (s.setGpr r v).picLatch = s.picLatch :=
  by simp [State.setGpr]
@[simp] theorem State.setGpr_irqIn (s : State) (r : Reg) (v : Word) : (s.setGpr r v).irqIn = s.irqIn :=
  by simp [State.setGpr]
@[simp] theorem State.setGpr_ttmr (s : State) (r : Reg) (v : Word) : (s.setGpr r v).ttmr = s.ttmr :=
  by simp [State.setGpr]
@[simp] theorem State.setGpr_ttcr (s : State) (r : Reg) (v : Word) : (s.setGpr r v).ttcr = s.ttcr :=
  by simp [State.setGpr]
@[simp] theorem State.setGpr_resv (s : State) (r : Reg) (v : Word) : (s.setGpr r v).resv = s.resv :=
  by simp [State.setGpr]
@[simp] theorem State.setGpr_ompic (s : State) (r : Reg) (v : Word) : (s.setGpr r v).ompic = s.ompic :=
  by simp [State.setGpr]
@[simp] theorem State.setGpr_mem (s : State) (r : Reg) (v : Word) : (s.setGpr r v).mem = s.mem :=
  by simp [State.setGpr]
@[simp] theorem State.setGpr_stale (s : State) (r : Reg) (v : Word) : (s.setGpr r v).stale = s.stale :=
  by simp [State.setGpr]
@[simp] theorem State.setGpr_inputs (s : State) (r : Reg) (v : Word) : (s.setGpr r v).inputs = s.inputs :=
  by simp [State.setGpr]
@[simp] theorem State.setGpr_tickWait (s : State) (r : Reg) (v : Word) : (s.setGpr r v).tickWait = s.tickWait :=
  by simp [State.setGpr]
@[simp] theorem State.setGpr_freeCtr (s : State) (r : Reg) (v : Word) : (s.setGpr r v).freeCtr = s.freeCtr :=
  by simp [State.setGpr]

@[simp] theorem State.advance_cfg (s : State) : (s.advance).cfg = s.cfg := by unfold State.advance; split <;> rfl
@[simp] theorem State.advance_gprs (s : State) : (s.advance).gprs = s.gprs := by unfold State.advance; split <;> rfl
@[simp] theorem State.advance_dsTarget (s : State) : (s.advance).dsTarget = s.dsTarget :=
  by unfold State.advance; split <;> rfl
@[simp] theorem State.advance_sr (s : State) : (s.advance).sr = s.sr := by unfold State.advance; split <;> rfl
@[simp] theorem State.advance_epcr (s : State) : (s.advance).epcr = s.epcr := by unfold State.advance; split <;> rfl
@[simp] theorem State.advance_eear (s : State) : (s.advance).eear = s.eear := by unfold State.advance; split <;> rfl
@[simp] theorem State.advance_esr (s : State) : (s.advance).esr = s.esr := by unfold State.advance; split <;> rfl
@[simp] theorem State.advance_evbar (s : State) : (s.advance).evbar = s.evbar :=
  by unfold State.advance; split <;> rfl
@[simp] theorem State.advance_aecr (s : State) : (s.advance).aecr = s.aecr := by unfold State.advance; split <;> rfl
@[simp] theorem State.advance_aesr (s : State) : (s.advance).aesr = s.aesr := by unfold State.advance; split <;> rfl
@[simp] theorem State.advance_fpcsr (s : State) : (s.advance).fpcsr = s.fpcsr :=
  by unfold State.advance; split <;> rfl
@[simp] theorem State.advance_machi (s : State) : (s.advance).machi = s.machi :=
  by unfold State.advance; split <;> rfl
@[simp] theorem State.advance_maclo (s : State) : (s.advance).maclo = s.maclo :=
  by unfold State.advance; split <;> rfl
@[simp] theorem State.advance_dmmucr (s : State) : (s.advance).dmmucr = s.dmmucr :=
  by unfold State.advance; split <;> rfl
@[simp] theorem State.advance_dmmupr (s : State) : (s.advance).dmmupr = s.dmmupr :=
  by unfold State.advance; split <;> rfl
@[simp] theorem State.advance_immucr (s : State) : (s.advance).immucr = s.immucr :=
  by unfold State.advance; split <;> rfl
@[simp] theorem State.advance_immupr (s : State) : (s.advance).immupr = s.immupr :=
  by unfold State.advance; split <;> rfl
@[simp] theorem State.advance_dtlbmr (s : State) : (s.advance).dtlbmr = s.dtlbmr :=
  by unfold State.advance; split <;> rfl
@[simp] theorem State.advance_dtlbtr (s : State) : (s.advance).dtlbtr = s.dtlbtr :=
  by unfold State.advance; split <;> rfl
@[simp] theorem State.advance_itlbmr (s : State) : (s.advance).itlbmr = s.itlbmr :=
  by unfold State.advance; split <;> rfl
@[simp] theorem State.advance_itlbtr (s : State) : (s.advance).itlbtr = s.itlbtr :=
  by unfold State.advance; split <;> rfl
@[simp] theorem State.advance_datbmr (s : State) : (s.advance).datbmr = s.datbmr :=
  by unfold State.advance; split <;> rfl
@[simp] theorem State.advance_datbtr (s : State) : (s.advance).datbtr = s.datbtr :=
  by unfold State.advance; split <;> rfl
@[simp] theorem State.advance_iatbmr (s : State) : (s.advance).iatbmr = s.iatbmr :=
  by unfold State.advance; split <;> rfl
@[simp] theorem State.advance_iatbtr (s : State) : (s.advance).iatbtr = s.iatbtr :=
  by unfold State.advance; split <;> rfl
@[simp] theorem State.advance_dccr (s : State) : (s.advance).dccr = s.dccr := by unfold State.advance; split <;> rfl
@[simp] theorem State.advance_iccr (s : State) : (s.advance).iccr = s.iccr := by unfold State.advance; split <;> rfl
@[simp] theorem State.advance_dvr (s : State) : (s.advance).dvr = s.dvr := by unfold State.advance; split <;> rfl
@[simp] theorem State.advance_dcr (s : State) : (s.advance).dcr = s.dcr := by unfold State.advance; split <;> rfl
@[simp] theorem State.advance_dmr1 (s : State) : (s.advance).dmr1 = s.dmr1 := by unfold State.advance; split <;> rfl
@[simp] theorem State.advance_dmr2 (s : State) : (s.advance).dmr2 = s.dmr2 := by unfold State.advance; split <;> rfl
@[simp] theorem State.advance_dwcr (s : State) : (s.advance).dwcr = s.dwcr := by unfold State.advance; split <;> rfl
@[simp] theorem State.advance_dsr (s : State) : (s.advance).dsr = s.dsr := by unfold State.advance; split <;> rfl
@[simp] theorem State.advance_drr (s : State) : (s.advance).drr = s.drr := by unfold State.advance; split <;> rfl
@[simp] theorem State.advance_debugStopped (s : State) : (s.advance).debugStopped = s.debugStopped :=
  by unfold State.advance; split <;> rfl
@[simp] theorem State.advance_pccr (s : State) : (s.advance).pccr = s.pccr := by unfold State.advance; split <;> rfl
@[simp] theorem State.advance_pcmr (s : State) : (s.advance).pcmr = s.pcmr := by unfold State.advance; split <;> rfl
@[simp] theorem State.advance_pmr (s : State) : (s.advance).pmr = s.pmr := by unfold State.advance; split <;> rfl
@[simp] theorem State.advance_picmr (s : State) : (s.advance).picmr = s.picmr :=
  by unfold State.advance; split <;> rfl
@[simp] theorem State.advance_picLatch (s : State) : (s.advance).picLatch = s.picLatch :=
  by unfold State.advance; split <;> rfl
@[simp] theorem State.advance_irqIn (s : State) : (s.advance).irqIn = s.irqIn :=
  by unfold State.advance; split <;> rfl
@[simp] theorem State.advance_ttmr (s : State) : (s.advance).ttmr = s.ttmr := by unfold State.advance; split <;> rfl
@[simp] theorem State.advance_ttcr (s : State) : (s.advance).ttcr = s.ttcr := by unfold State.advance; split <;> rfl
@[simp] theorem State.advance_resv (s : State) : (s.advance).resv = s.resv := by unfold State.advance; split <;> rfl
@[simp] theorem State.advance_ompic (s : State) : (s.advance).ompic = s.ompic :=
  by unfold State.advance; split <;> rfl
@[simp] theorem State.advance_mem (s : State) : (s.advance).mem = s.mem := by unfold State.advance; split <;> rfl
@[simp] theorem State.advance_stale (s : State) : (s.advance).stale = s.stale :=
  by unfold State.advance; split <;> rfl
@[simp] theorem State.advance_inputs (s : State) : (s.advance).inputs = s.inputs :=
  by unfold State.advance; split <;> rfl
@[simp] theorem State.advance_tickWait (s : State) : (s.advance).tickWait = s.tickWait :=
  by unfold State.advance; split <;> rfl
@[simp] theorem State.advance_freeCtr (s : State) : (s.advance).freeCtr = s.freeCtr :=
  by unfold State.advance; split <;> rfl

@[simp] theorem State.recordAe_cfg (s : State) (cs : List AeCond) : (s.recordAe cs).cfg = s.cfg :=
  by unfold State.recordAe; split <;> rfl
@[simp] theorem State.recordAe_gprs (s : State) (cs : List AeCond) : (s.recordAe cs).gprs = s.gprs :=
  by unfold State.recordAe; split <;> rfl
@[simp] theorem State.recordAe_pc (s : State) (cs : List AeCond) : (s.recordAe cs).pc = s.pc :=
  by unfold State.recordAe; split <;> rfl
@[simp] theorem State.recordAe_dsPending (s : State) (cs : List AeCond) : (s.recordAe cs).dsPending = s.dsPending :=
  by unfold State.recordAe; split <;> rfl
@[simp] theorem State.recordAe_dsTarget (s : State) (cs : List AeCond) : (s.recordAe cs).dsTarget = s.dsTarget :=
  by unfold State.recordAe; split <;> rfl
@[simp] theorem State.recordAe_ppc (s : State) (cs : List AeCond) : (s.recordAe cs).ppc = s.ppc :=
  by unfold State.recordAe; split <;> rfl
@[simp] theorem State.recordAe_hist (s : State) (cs : List AeCond) : (s.recordAe cs).hist = s.hist :=
  by unfold State.recordAe; split <;> rfl
@[simp] theorem State.recordAe_sr (s : State) (cs : List AeCond) : (s.recordAe cs).sr = s.sr :=
  by unfold State.recordAe; split <;> rfl
@[simp] theorem State.recordAe_epcr (s : State) (cs : List AeCond) : (s.recordAe cs).epcr = s.epcr :=
  by unfold State.recordAe; split <;> rfl
@[simp] theorem State.recordAe_eear (s : State) (cs : List AeCond) : (s.recordAe cs).eear = s.eear :=
  by unfold State.recordAe; split <;> rfl
@[simp] theorem State.recordAe_esr (s : State) (cs : List AeCond) : (s.recordAe cs).esr = s.esr :=
  by unfold State.recordAe; split <;> rfl
@[simp] theorem State.recordAe_evbar (s : State) (cs : List AeCond) : (s.recordAe cs).evbar = s.evbar :=
  by unfold State.recordAe; split <;> rfl
@[simp] theorem State.recordAe_aecr (s : State) (cs : List AeCond) : (s.recordAe cs).aecr = s.aecr :=
  by unfold State.recordAe; split <;> rfl
@[simp] theorem State.recordAe_fpcsr (s : State) (cs : List AeCond) : (s.recordAe cs).fpcsr = s.fpcsr :=
  by unfold State.recordAe; split <;> rfl
@[simp] theorem State.recordAe_machi (s : State) (cs : List AeCond) : (s.recordAe cs).machi = s.machi :=
  by unfold State.recordAe; split <;> rfl
@[simp] theorem State.recordAe_maclo (s : State) (cs : List AeCond) : (s.recordAe cs).maclo = s.maclo :=
  by unfold State.recordAe; split <;> rfl
@[simp] theorem State.recordAe_dmmucr (s : State) (cs : List AeCond) : (s.recordAe cs).dmmucr = s.dmmucr :=
  by unfold State.recordAe; split <;> rfl
@[simp] theorem State.recordAe_dmmupr (s : State) (cs : List AeCond) : (s.recordAe cs).dmmupr = s.dmmupr :=
  by unfold State.recordAe; split <;> rfl
@[simp] theorem State.recordAe_immucr (s : State) (cs : List AeCond) : (s.recordAe cs).immucr = s.immucr :=
  by unfold State.recordAe; split <;> rfl
@[simp] theorem State.recordAe_immupr (s : State) (cs : List AeCond) : (s.recordAe cs).immupr = s.immupr :=
  by unfold State.recordAe; split <;> rfl
@[simp] theorem State.recordAe_dtlbmr (s : State) (cs : List AeCond) : (s.recordAe cs).dtlbmr = s.dtlbmr :=
  by unfold State.recordAe; split <;> rfl
@[simp] theorem State.recordAe_dtlbtr (s : State) (cs : List AeCond) : (s.recordAe cs).dtlbtr = s.dtlbtr :=
  by unfold State.recordAe; split <;> rfl
@[simp] theorem State.recordAe_itlbmr (s : State) (cs : List AeCond) : (s.recordAe cs).itlbmr = s.itlbmr :=
  by unfold State.recordAe; split <;> rfl
@[simp] theorem State.recordAe_itlbtr (s : State) (cs : List AeCond) : (s.recordAe cs).itlbtr = s.itlbtr :=
  by unfold State.recordAe; split <;> rfl
@[simp] theorem State.recordAe_datbmr (s : State) (cs : List AeCond) : (s.recordAe cs).datbmr = s.datbmr :=
  by unfold State.recordAe; split <;> rfl
@[simp] theorem State.recordAe_datbtr (s : State) (cs : List AeCond) : (s.recordAe cs).datbtr = s.datbtr :=
  by unfold State.recordAe; split <;> rfl
@[simp] theorem State.recordAe_iatbmr (s : State) (cs : List AeCond) : (s.recordAe cs).iatbmr = s.iatbmr :=
  by unfold State.recordAe; split <;> rfl
@[simp] theorem State.recordAe_iatbtr (s : State) (cs : List AeCond) : (s.recordAe cs).iatbtr = s.iatbtr :=
  by unfold State.recordAe; split <;> rfl
@[simp] theorem State.recordAe_dccr (s : State) (cs : List AeCond) : (s.recordAe cs).dccr = s.dccr :=
  by unfold State.recordAe; split <;> rfl
@[simp] theorem State.recordAe_iccr (s : State) (cs : List AeCond) : (s.recordAe cs).iccr = s.iccr :=
  by unfold State.recordAe; split <;> rfl
@[simp] theorem State.recordAe_dvr (s : State) (cs : List AeCond) : (s.recordAe cs).dvr = s.dvr :=
  by unfold State.recordAe; split <;> rfl
@[simp] theorem State.recordAe_dcr (s : State) (cs : List AeCond) : (s.recordAe cs).dcr = s.dcr :=
  by unfold State.recordAe; split <;> rfl
@[simp] theorem State.recordAe_dmr1 (s : State) (cs : List AeCond) : (s.recordAe cs).dmr1 = s.dmr1 :=
  by unfold State.recordAe; split <;> rfl
@[simp] theorem State.recordAe_dmr2 (s : State) (cs : List AeCond) : (s.recordAe cs).dmr2 = s.dmr2 :=
  by unfold State.recordAe; split <;> rfl
@[simp] theorem State.recordAe_dwcr (s : State) (cs : List AeCond) : (s.recordAe cs).dwcr = s.dwcr :=
  by unfold State.recordAe; split <;> rfl
@[simp] theorem State.recordAe_dsr (s : State) (cs : List AeCond) : (s.recordAe cs).dsr = s.dsr :=
  by unfold State.recordAe; split <;> rfl
@[simp] theorem State.recordAe_drr (s : State) (cs : List AeCond) : (s.recordAe cs).drr = s.drr :=
  by unfold State.recordAe; split <;> rfl
@[simp] theorem State.recordAe_debugStopped (s : State) (cs : List AeCond) : (s.recordAe cs).debugStopped = s.debugStopped :=
  by unfold State.recordAe; split <;> rfl
@[simp] theorem State.recordAe_pccr (s : State) (cs : List AeCond) : (s.recordAe cs).pccr = s.pccr :=
  by unfold State.recordAe; split <;> rfl
@[simp] theorem State.recordAe_pcmr (s : State) (cs : List AeCond) : (s.recordAe cs).pcmr = s.pcmr :=
  by unfold State.recordAe; split <;> rfl
@[simp] theorem State.recordAe_pmr (s : State) (cs : List AeCond) : (s.recordAe cs).pmr = s.pmr :=
  by unfold State.recordAe; split <;> rfl
@[simp] theorem State.recordAe_picmr (s : State) (cs : List AeCond) : (s.recordAe cs).picmr = s.picmr :=
  by unfold State.recordAe; split <;> rfl
@[simp] theorem State.recordAe_picLatch (s : State) (cs : List AeCond) : (s.recordAe cs).picLatch = s.picLatch :=
  by unfold State.recordAe; split <;> rfl
@[simp] theorem State.recordAe_irqIn (s : State) (cs : List AeCond) : (s.recordAe cs).irqIn = s.irqIn :=
  by unfold State.recordAe; split <;> rfl
@[simp] theorem State.recordAe_ttmr (s : State) (cs : List AeCond) : (s.recordAe cs).ttmr = s.ttmr :=
  by unfold State.recordAe; split <;> rfl
@[simp] theorem State.recordAe_ttcr (s : State) (cs : List AeCond) : (s.recordAe cs).ttcr = s.ttcr :=
  by unfold State.recordAe; split <;> rfl
@[simp] theorem State.recordAe_resv (s : State) (cs : List AeCond) : (s.recordAe cs).resv = s.resv :=
  by unfold State.recordAe; split <;> rfl
@[simp] theorem State.recordAe_ompic (s : State) (cs : List AeCond) : (s.recordAe cs).ompic = s.ompic :=
  by unfold State.recordAe; split <;> rfl
@[simp] theorem State.recordAe_mem (s : State) (cs : List AeCond) : (s.recordAe cs).mem = s.mem :=
  by unfold State.recordAe; split <;> rfl
@[simp] theorem State.recordAe_stale (s : State) (cs : List AeCond) : (s.recordAe cs).stale = s.stale :=
  by unfold State.recordAe; split <;> rfl
@[simp] theorem State.recordAe_inputs (s : State) (cs : List AeCond) : (s.recordAe cs).inputs = s.inputs :=
  by unfold State.recordAe; split <;> rfl
@[simp] theorem State.recordAe_tickWait (s : State) (cs : List AeCond) : (s.recordAe cs).tickWait = s.tickWait :=
  by unfold State.recordAe; split <;> rfl
@[simp] theorem State.recordAe_freeCtr (s : State) (cs : List AeCond) : (s.recordAe cs).freeCtr = s.freeCtr :=
  by unfold State.recordAe; split <;> rfl

@[simp] theorem State.enter_cfg (s : State) (x : Exc) (ea : Word) : (s.enter x ea).cfg = s.cfg :=
  by unfold State.enter; split <;> rfl
@[simp] theorem State.enter_gprs (s : State) (x : Exc) (ea : Word) : (s.enter x ea).gprs = s.gprs :=
  by unfold State.enter; split <;> rfl
@[simp] theorem State.enter_ppc (s : State) (x : Exc) (ea : Word) : (s.enter x ea).ppc = s.ppc :=
  by unfold State.enter; split <;> rfl
@[simp] theorem State.enter_evbar (s : State) (x : Exc) (ea : Word) : (s.enter x ea).evbar = s.evbar :=
  by unfold State.enter; split <;> rfl
@[simp] theorem State.enter_aecr (s : State) (x : Exc) (ea : Word) : (s.enter x ea).aecr = s.aecr :=
  by unfold State.enter; split <;> rfl
@[simp] theorem State.enter_aesr (s : State) (x : Exc) (ea : Word) : (s.enter x ea).aesr = s.aesr :=
  by unfold State.enter; split <;> rfl
@[simp] theorem State.enter_fpcsr (s : State) (x : Exc) (ea : Word) : (s.enter x ea).fpcsr = s.fpcsr :=
  by unfold State.enter; split <;> rfl
@[simp] theorem State.enter_machi (s : State) (x : Exc) (ea : Word) : (s.enter x ea).machi = s.machi :=
  by unfold State.enter; split <;> rfl
@[simp] theorem State.enter_maclo (s : State) (x : Exc) (ea : Word) : (s.enter x ea).maclo = s.maclo :=
  by unfold State.enter; split <;> rfl
@[simp] theorem State.enter_dmmucr (s : State) (x : Exc) (ea : Word) : (s.enter x ea).dmmucr = s.dmmucr :=
  by unfold State.enter; split <;> rfl
@[simp] theorem State.enter_dmmupr (s : State) (x : Exc) (ea : Word) : (s.enter x ea).dmmupr = s.dmmupr :=
  by unfold State.enter; split <;> rfl
@[simp] theorem State.enter_immucr (s : State) (x : Exc) (ea : Word) : (s.enter x ea).immucr = s.immucr :=
  by unfold State.enter; split <;> rfl
@[simp] theorem State.enter_immupr (s : State) (x : Exc) (ea : Word) : (s.enter x ea).immupr = s.immupr :=
  by unfold State.enter; split <;> rfl
@[simp] theorem State.enter_dtlbmr (s : State) (x : Exc) (ea : Word) : (s.enter x ea).dtlbmr = s.dtlbmr :=
  by unfold State.enter; split <;> rfl
@[simp] theorem State.enter_dtlbtr (s : State) (x : Exc) (ea : Word) : (s.enter x ea).dtlbtr = s.dtlbtr :=
  by unfold State.enter; split <;> rfl
@[simp] theorem State.enter_itlbmr (s : State) (x : Exc) (ea : Word) : (s.enter x ea).itlbmr = s.itlbmr :=
  by unfold State.enter; split <;> rfl
@[simp] theorem State.enter_itlbtr (s : State) (x : Exc) (ea : Word) : (s.enter x ea).itlbtr = s.itlbtr :=
  by unfold State.enter; split <;> rfl
@[simp] theorem State.enter_datbmr (s : State) (x : Exc) (ea : Word) : (s.enter x ea).datbmr = s.datbmr :=
  by unfold State.enter; split <;> rfl
@[simp] theorem State.enter_datbtr (s : State) (x : Exc) (ea : Word) : (s.enter x ea).datbtr = s.datbtr :=
  by unfold State.enter; split <;> rfl
@[simp] theorem State.enter_iatbmr (s : State) (x : Exc) (ea : Word) : (s.enter x ea).iatbmr = s.iatbmr :=
  by unfold State.enter; split <;> rfl
@[simp] theorem State.enter_iatbtr (s : State) (x : Exc) (ea : Word) : (s.enter x ea).iatbtr = s.iatbtr :=
  by unfold State.enter; split <;> rfl
@[simp] theorem State.enter_dccr (s : State) (x : Exc) (ea : Word) : (s.enter x ea).dccr = s.dccr :=
  by unfold State.enter; split <;> rfl
@[simp] theorem State.enter_iccr (s : State) (x : Exc) (ea : Word) : (s.enter x ea).iccr = s.iccr :=
  by unfold State.enter; split <;> rfl
@[simp] theorem State.enter_dvr (s : State) (x : Exc) (ea : Word) : (s.enter x ea).dvr = s.dvr :=
  by unfold State.enter; split <;> rfl
@[simp] theorem State.enter_dcr (s : State) (x : Exc) (ea : Word) : (s.enter x ea).dcr = s.dcr :=
  by unfold State.enter; split <;> rfl
@[simp] theorem State.enter_dmr1 (s : State) (x : Exc) (ea : Word) : (s.enter x ea).dmr1 = s.dmr1 :=
  by unfold State.enter; split <;> rfl
@[simp] theorem State.enter_dmr2 (s : State) (x : Exc) (ea : Word) : (s.enter x ea).dmr2 = s.dmr2 :=
  by unfold State.enter; split <;> rfl
@[simp] theorem State.enter_dwcr (s : State) (x : Exc) (ea : Word) : (s.enter x ea).dwcr = s.dwcr :=
  by unfold State.enter; split <;> rfl
@[simp] theorem State.enter_dsr (s : State) (x : Exc) (ea : Word) : (s.enter x ea).dsr = s.dsr :=
  by unfold State.enter; split <;> rfl
@[simp] theorem State.enter_pccr (s : State) (x : Exc) (ea : Word) : (s.enter x ea).pccr = s.pccr :=
  by unfold State.enter; split <;> rfl
@[simp] theorem State.enter_pcmr (s : State) (x : Exc) (ea : Word) : (s.enter x ea).pcmr = s.pcmr :=
  by unfold State.enter; split <;> rfl
@[simp] theorem State.enter_pmr (s : State) (x : Exc) (ea : Word) : (s.enter x ea).pmr = s.pmr :=
  by unfold State.enter; split <;> rfl
@[simp] theorem State.enter_picmr (s : State) (x : Exc) (ea : Word) : (s.enter x ea).picmr = s.picmr :=
  by unfold State.enter; split <;> rfl
@[simp] theorem State.enter_picLatch (s : State) (x : Exc) (ea : Word) : (s.enter x ea).picLatch = s.picLatch :=
  by unfold State.enter; split <;> rfl
@[simp] theorem State.enter_irqIn (s : State) (x : Exc) (ea : Word) : (s.enter x ea).irqIn = s.irqIn :=
  by unfold State.enter; split <;> rfl
@[simp] theorem State.enter_ttmr (s : State) (x : Exc) (ea : Word) : (s.enter x ea).ttmr = s.ttmr :=
  by unfold State.enter; split <;> rfl
@[simp] theorem State.enter_ttcr (s : State) (x : Exc) (ea : Word) : (s.enter x ea).ttcr = s.ttcr :=
  by unfold State.enter; split <;> rfl
@[simp] theorem State.enter_ompic (s : State) (x : Exc) (ea : Word) : (s.enter x ea).ompic = s.ompic :=
  by unfold State.enter; split <;> rfl
@[simp] theorem State.enter_mem (s : State) (x : Exc) (ea : Word) : (s.enter x ea).mem = s.mem :=
  by unfold State.enter; split <;> rfl
@[simp] theorem State.enter_stale (s : State) (x : Exc) (ea : Word) : (s.enter x ea).stale = s.stale :=
  by unfold State.enter; split <;> rfl
@[simp] theorem State.enter_inputs (s : State) (x : Exc) (ea : Word) : (s.enter x ea).inputs = s.inputs :=
  by unfold State.enter; split <;> rfl
@[simp] theorem State.enter_tickWait (s : State) (x : Exc) (ea : Word) : (s.enter x ea).tickWait = s.tickWait :=
  by unfold State.enter; split <;> rfl
@[simp] theorem State.enter_freeCtr (s : State) (x : Exc) (ea : Word) : (s.enter x ea).freeCtr = s.freeCtr :=
  by unfold State.enter; split <;> rfl

@[simp] theorem State.touch_cfg (s : State) (k : Access) (e : Entry) : (s.touch k e).cfg = s.cfg := rfl
@[simp] theorem State.touch_gprs (s : State) (k : Access) (e : Entry) : (s.touch k e).gprs = s.gprs := rfl
@[simp] theorem State.touch_pc (s : State) (k : Access) (e : Entry) : (s.touch k e).pc = s.pc := rfl
@[simp] theorem State.touch_dsPending (s : State) (k : Access) (e : Entry) : (s.touch k e).dsPending = s.dsPending :=
  rfl
@[simp] theorem State.touch_dsTarget (s : State) (k : Access) (e : Entry) : (s.touch k e).dsTarget = s.dsTarget := rfl
@[simp] theorem State.touch_ppc (s : State) (k : Access) (e : Entry) : (s.touch k e).ppc = s.ppc := rfl
@[simp] theorem State.touch_hist (s : State) (k : Access) (e : Entry) : (s.touch k e).hist = s.hist := rfl
@[simp] theorem State.touch_sr (s : State) (k : Access) (e : Entry) : (s.touch k e).sr = s.sr := rfl
@[simp] theorem State.touch_epcr (s : State) (k : Access) (e : Entry) : (s.touch k e).epcr = s.epcr := rfl
@[simp] theorem State.touch_eear (s : State) (k : Access) (e : Entry) : (s.touch k e).eear = s.eear := rfl
@[simp] theorem State.touch_esr (s : State) (k : Access) (e : Entry) : (s.touch k e).esr = s.esr := rfl
@[simp] theorem State.touch_evbar (s : State) (k : Access) (e : Entry) : (s.touch k e).evbar = s.evbar := rfl
@[simp] theorem State.touch_aecr (s : State) (k : Access) (e : Entry) : (s.touch k e).aecr = s.aecr := rfl
@[simp] theorem State.touch_aesr (s : State) (k : Access) (e : Entry) : (s.touch k e).aesr = s.aesr := rfl
@[simp] theorem State.touch_fpcsr (s : State) (k : Access) (e : Entry) : (s.touch k e).fpcsr = s.fpcsr := rfl
@[simp] theorem State.touch_machi (s : State) (k : Access) (e : Entry) : (s.touch k e).machi = s.machi := rfl
@[simp] theorem State.touch_maclo (s : State) (k : Access) (e : Entry) : (s.touch k e).maclo = s.maclo := rfl
@[simp] theorem State.touch_dmmucr (s : State) (k : Access) (e : Entry) : (s.touch k e).dmmucr = s.dmmucr := rfl
@[simp] theorem State.touch_dmmupr (s : State) (k : Access) (e : Entry) : (s.touch k e).dmmupr = s.dmmupr := rfl
@[simp] theorem State.touch_immucr (s : State) (k : Access) (e : Entry) : (s.touch k e).immucr = s.immucr := rfl
@[simp] theorem State.touch_immupr (s : State) (k : Access) (e : Entry) : (s.touch k e).immupr = s.immupr := rfl
@[simp] theorem State.touch_dtlbmr (s : State) (k : Access) (e : Entry) : (s.touch k e).dtlbmr = s.dtlbmr := rfl
@[simp] theorem State.touch_itlbmr (s : State) (k : Access) (e : Entry) : (s.touch k e).itlbmr = s.itlbmr := rfl
@[simp] theorem State.touch_datbmr (s : State) (k : Access) (e : Entry) : (s.touch k e).datbmr = s.datbmr := rfl
@[simp] theorem State.touch_iatbmr (s : State) (k : Access) (e : Entry) : (s.touch k e).iatbmr = s.iatbmr := rfl
@[simp] theorem State.touch_dccr (s : State) (k : Access) (e : Entry) : (s.touch k e).dccr = s.dccr := rfl
@[simp] theorem State.touch_iccr (s : State) (k : Access) (e : Entry) : (s.touch k e).iccr = s.iccr := rfl
@[simp] theorem State.touch_dvr (s : State) (k : Access) (e : Entry) : (s.touch k e).dvr = s.dvr := rfl
@[simp] theorem State.touch_dcr (s : State) (k : Access) (e : Entry) : (s.touch k e).dcr = s.dcr := rfl
@[simp] theorem State.touch_dmr1 (s : State) (k : Access) (e : Entry) : (s.touch k e).dmr1 = s.dmr1 := rfl
@[simp] theorem State.touch_dmr2 (s : State) (k : Access) (e : Entry) : (s.touch k e).dmr2 = s.dmr2 := rfl
@[simp] theorem State.touch_dwcr (s : State) (k : Access) (e : Entry) : (s.touch k e).dwcr = s.dwcr := rfl
@[simp] theorem State.touch_dsr (s : State) (k : Access) (e : Entry) : (s.touch k e).dsr = s.dsr := rfl
@[simp] theorem State.touch_drr (s : State) (k : Access) (e : Entry) : (s.touch k e).drr = s.drr := rfl
@[simp] theorem State.touch_debugStopped (s : State) (k : Access) (e : Entry) : (s.touch k e).debugStopped = s.debugStopped :=
  rfl
@[simp] theorem State.touch_pccr (s : State) (k : Access) (e : Entry) : (s.touch k e).pccr = s.pccr := rfl
@[simp] theorem State.touch_pcmr (s : State) (k : Access) (e : Entry) : (s.touch k e).pcmr = s.pcmr := rfl
@[simp] theorem State.touch_pmr (s : State) (k : Access) (e : Entry) : (s.touch k e).pmr = s.pmr := rfl
@[simp] theorem State.touch_picmr (s : State) (k : Access) (e : Entry) : (s.touch k e).picmr = s.picmr := rfl
@[simp] theorem State.touch_picLatch (s : State) (k : Access) (e : Entry) : (s.touch k e).picLatch = s.picLatch := rfl
@[simp] theorem State.touch_irqIn (s : State) (k : Access) (e : Entry) : (s.touch k e).irqIn = s.irqIn := rfl
@[simp] theorem State.touch_ttmr (s : State) (k : Access) (e : Entry) : (s.touch k e).ttmr = s.ttmr := rfl
@[simp] theorem State.touch_ttcr (s : State) (k : Access) (e : Entry) : (s.touch k e).ttcr = s.ttcr := rfl
@[simp] theorem State.touch_resv (s : State) (k : Access) (e : Entry) : (s.touch k e).resv = s.resv := rfl
@[simp] theorem State.touch_ompic (s : State) (k : Access) (e : Entry) : (s.touch k e).ompic = s.ompic := rfl
@[simp] theorem State.touch_mem (s : State) (k : Access) (e : Entry) : (s.touch k e).mem = s.mem := rfl
@[simp] theorem State.touch_stale (s : State) (k : Access) (e : Entry) : (s.touch k e).stale = s.stale := rfl
@[simp] theorem State.touch_inputs (s : State) (k : Access) (e : Entry) : (s.touch k e).inputs = s.inputs := rfl
@[simp] theorem State.touch_tickWait (s : State) (k : Access) (e : Entry) : (s.touch k e).tickWait = s.tickWait := rfl
@[simp] theorem State.touch_freeCtr (s : State) (k : Access) (e : Entry) : (s.touch k e).freeCtr = s.freeCtr := rfl

@[simp] theorem State.setOmpic_cfg (s : State) (st : List Word32) : (s.setOmpic st).cfg = s.cfg := rfl
@[simp] theorem State.setOmpic_gprs (s : State) (st : List Word32) : (s.setOmpic st).gprs = s.gprs := rfl
@[simp] theorem State.setOmpic_pc (s : State) (st : List Word32) : (s.setOmpic st).pc = s.pc := rfl
@[simp] theorem State.setOmpic_dsPending (s : State) (st : List Word32) : (s.setOmpic st).dsPending = s.dsPending :=
  rfl
@[simp] theorem State.setOmpic_dsTarget (s : State) (st : List Word32) : (s.setOmpic st).dsTarget = s.dsTarget := rfl
@[simp] theorem State.setOmpic_ppc (s : State) (st : List Word32) : (s.setOmpic st).ppc = s.ppc := rfl
@[simp] theorem State.setOmpic_hist (s : State) (st : List Word32) : (s.setOmpic st).hist = s.hist := rfl
@[simp] theorem State.setOmpic_sr (s : State) (st : List Word32) : (s.setOmpic st).sr = s.sr := rfl
@[simp] theorem State.setOmpic_epcr (s : State) (st : List Word32) : (s.setOmpic st).epcr = s.epcr := rfl
@[simp] theorem State.setOmpic_eear (s : State) (st : List Word32) : (s.setOmpic st).eear = s.eear := rfl
@[simp] theorem State.setOmpic_esr (s : State) (st : List Word32) : (s.setOmpic st).esr = s.esr := rfl
@[simp] theorem State.setOmpic_evbar (s : State) (st : List Word32) : (s.setOmpic st).evbar = s.evbar := rfl
@[simp] theorem State.setOmpic_aecr (s : State) (st : List Word32) : (s.setOmpic st).aecr = s.aecr := rfl
@[simp] theorem State.setOmpic_aesr (s : State) (st : List Word32) : (s.setOmpic st).aesr = s.aesr := rfl
@[simp] theorem State.setOmpic_fpcsr (s : State) (st : List Word32) : (s.setOmpic st).fpcsr = s.fpcsr := rfl
@[simp] theorem State.setOmpic_machi (s : State) (st : List Word32) : (s.setOmpic st).machi = s.machi := rfl
@[simp] theorem State.setOmpic_maclo (s : State) (st : List Word32) : (s.setOmpic st).maclo = s.maclo := rfl
@[simp] theorem State.setOmpic_dmmucr (s : State) (st : List Word32) : (s.setOmpic st).dmmucr = s.dmmucr := rfl
@[simp] theorem State.setOmpic_dmmupr (s : State) (st : List Word32) : (s.setOmpic st).dmmupr = s.dmmupr := rfl
@[simp] theorem State.setOmpic_immucr (s : State) (st : List Word32) : (s.setOmpic st).immucr = s.immucr := rfl
@[simp] theorem State.setOmpic_immupr (s : State) (st : List Word32) : (s.setOmpic st).immupr = s.immupr := rfl
@[simp] theorem State.setOmpic_dtlbmr (s : State) (st : List Word32) : (s.setOmpic st).dtlbmr = s.dtlbmr := rfl
@[simp] theorem State.setOmpic_dtlbtr (s : State) (st : List Word32) : (s.setOmpic st).dtlbtr = s.dtlbtr := rfl
@[simp] theorem State.setOmpic_itlbmr (s : State) (st : List Word32) : (s.setOmpic st).itlbmr = s.itlbmr := rfl
@[simp] theorem State.setOmpic_itlbtr (s : State) (st : List Word32) : (s.setOmpic st).itlbtr = s.itlbtr := rfl
@[simp] theorem State.setOmpic_datbmr (s : State) (st : List Word32) : (s.setOmpic st).datbmr = s.datbmr := rfl
@[simp] theorem State.setOmpic_datbtr (s : State) (st : List Word32) : (s.setOmpic st).datbtr = s.datbtr := rfl
@[simp] theorem State.setOmpic_iatbmr (s : State) (st : List Word32) : (s.setOmpic st).iatbmr = s.iatbmr := rfl
@[simp] theorem State.setOmpic_iatbtr (s : State) (st : List Word32) : (s.setOmpic st).iatbtr = s.iatbtr := rfl
@[simp] theorem State.setOmpic_dccr (s : State) (st : List Word32) : (s.setOmpic st).dccr = s.dccr := rfl
@[simp] theorem State.setOmpic_iccr (s : State) (st : List Word32) : (s.setOmpic st).iccr = s.iccr := rfl
@[simp] theorem State.setOmpic_dvr (s : State) (st : List Word32) : (s.setOmpic st).dvr = s.dvr := rfl
@[simp] theorem State.setOmpic_dcr (s : State) (st : List Word32) : (s.setOmpic st).dcr = s.dcr := rfl
@[simp] theorem State.setOmpic_dmr1 (s : State) (st : List Word32) : (s.setOmpic st).dmr1 = s.dmr1 := rfl
@[simp] theorem State.setOmpic_dmr2 (s : State) (st : List Word32) : (s.setOmpic st).dmr2 = s.dmr2 := rfl
@[simp] theorem State.setOmpic_dwcr (s : State) (st : List Word32) : (s.setOmpic st).dwcr = s.dwcr := rfl
@[simp] theorem State.setOmpic_dsr (s : State) (st : List Word32) : (s.setOmpic st).dsr = s.dsr := rfl
@[simp] theorem State.setOmpic_drr (s : State) (st : List Word32) : (s.setOmpic st).drr = s.drr := rfl
@[simp] theorem State.setOmpic_debugStopped (s : State) (st : List Word32) : (s.setOmpic st).debugStopped = s.debugStopped :=
  rfl
@[simp] theorem State.setOmpic_pccr (s : State) (st : List Word32) : (s.setOmpic st).pccr = s.pccr := rfl
@[simp] theorem State.setOmpic_pcmr (s : State) (st : List Word32) : (s.setOmpic st).pcmr = s.pcmr := rfl
@[simp] theorem State.setOmpic_pmr (s : State) (st : List Word32) : (s.setOmpic st).pmr = s.pmr := rfl
@[simp] theorem State.setOmpic_picmr (s : State) (st : List Word32) : (s.setOmpic st).picmr = s.picmr := rfl
@[simp] theorem State.setOmpic_irqIn (s : State) (st : List Word32) : (s.setOmpic st).irqIn = s.irqIn := rfl
@[simp] theorem State.setOmpic_ttmr (s : State) (st : List Word32) : (s.setOmpic st).ttmr = s.ttmr := rfl
@[simp] theorem State.setOmpic_ttcr (s : State) (st : List Word32) : (s.setOmpic st).ttcr = s.ttcr := rfl
@[simp] theorem State.setOmpic_resv (s : State) (st : List Word32) : (s.setOmpic st).resv = s.resv := rfl
@[simp] theorem State.setOmpic_mem (s : State) (st : List Word32) : (s.setOmpic st).mem = s.mem := rfl
@[simp] theorem State.setOmpic_stale (s : State) (st : List Word32) : (s.setOmpic st).stale = s.stale := rfl
@[simp] theorem State.setOmpic_inputs (s : State) (st : List Word32) : (s.setOmpic st).inputs = s.inputs := rfl
@[simp] theorem State.setOmpic_tickWait (s : State) (st : List Word32) : (s.setOmpic st).tickWait = s.tickWait := rfl
@[simp] theorem State.setOmpic_freeCtr (s : State) (st : List Word32) : (s.setOmpic st).freeCtr = s.freeCtr := rfl

@[simp] theorem State.syncPoint_cfg (s : State) : (s.syncPoint).cfg = s.cfg :=
  by unfold State.syncPoint; split <;> rfl
@[simp] theorem State.syncPoint_gprs (s : State) : (s.syncPoint).gprs = s.gprs :=
  by unfold State.syncPoint; split <;> rfl
@[simp] theorem State.syncPoint_pc (s : State) : (s.syncPoint).pc = s.pc := by unfold State.syncPoint; split <;> rfl
@[simp] theorem State.syncPoint_dsPending (s : State) : (s.syncPoint).dsPending = s.dsPending :=
  by unfold State.syncPoint; split <;> rfl
@[simp] theorem State.syncPoint_dsTarget (s : State) : (s.syncPoint).dsTarget = s.dsTarget :=
  by unfold State.syncPoint; split <;> rfl
@[simp] theorem State.syncPoint_ppc (s : State) : (s.syncPoint).ppc = s.ppc :=
  by unfold State.syncPoint; split <;> rfl
@[simp] theorem State.syncPoint_hist (s : State) : (s.syncPoint).hist = s.hist :=
  by unfold State.syncPoint; split <;> rfl
@[simp] theorem State.syncPoint_sr (s : State) : (s.syncPoint).sr = s.sr := by unfold State.syncPoint; split <;> rfl
@[simp] theorem State.syncPoint_epcr (s : State) : (s.syncPoint).epcr = s.epcr :=
  by unfold State.syncPoint; split <;> rfl
@[simp] theorem State.syncPoint_eear (s : State) : (s.syncPoint).eear = s.eear :=
  by unfold State.syncPoint; split <;> rfl
@[simp] theorem State.syncPoint_esr (s : State) : (s.syncPoint).esr = s.esr :=
  by unfold State.syncPoint; split <;> rfl
@[simp] theorem State.syncPoint_evbar (s : State) : (s.syncPoint).evbar = s.evbar :=
  by unfold State.syncPoint; split <;> rfl
@[simp] theorem State.syncPoint_aecr (s : State) : (s.syncPoint).aecr = s.aecr :=
  by unfold State.syncPoint; split <;> rfl
@[simp] theorem State.syncPoint_aesr (s : State) : (s.syncPoint).aesr = s.aesr :=
  by unfold State.syncPoint; split <;> rfl
@[simp] theorem State.syncPoint_fpcsr (s : State) : (s.syncPoint).fpcsr = s.fpcsr :=
  by unfold State.syncPoint; split <;> rfl
@[simp] theorem State.syncPoint_machi (s : State) : (s.syncPoint).machi = s.machi :=
  by unfold State.syncPoint; split <;> rfl
@[simp] theorem State.syncPoint_maclo (s : State) : (s.syncPoint).maclo = s.maclo :=
  by unfold State.syncPoint; split <;> rfl
@[simp] theorem State.syncPoint_dmmucr (s : State) : (s.syncPoint).dmmucr = s.dmmucr :=
  by unfold State.syncPoint; split <;> rfl
@[simp] theorem State.syncPoint_dmmupr (s : State) : (s.syncPoint).dmmupr = s.dmmupr :=
  by unfold State.syncPoint; split <;> rfl
@[simp] theorem State.syncPoint_immucr (s : State) : (s.syncPoint).immucr = s.immucr :=
  by unfold State.syncPoint; split <;> rfl
@[simp] theorem State.syncPoint_immupr (s : State) : (s.syncPoint).immupr = s.immupr :=
  by unfold State.syncPoint; split <;> rfl
@[simp] theorem State.syncPoint_dtlbmr (s : State) : (s.syncPoint).dtlbmr = s.dtlbmr :=
  by unfold State.syncPoint; split <;> rfl
@[simp] theorem State.syncPoint_dtlbtr (s : State) : (s.syncPoint).dtlbtr = s.dtlbtr :=
  by unfold State.syncPoint; split <;> rfl
@[simp] theorem State.syncPoint_itlbmr (s : State) : (s.syncPoint).itlbmr = s.itlbmr :=
  by unfold State.syncPoint; split <;> rfl
@[simp] theorem State.syncPoint_itlbtr (s : State) : (s.syncPoint).itlbtr = s.itlbtr :=
  by unfold State.syncPoint; split <;> rfl
@[simp] theorem State.syncPoint_datbmr (s : State) : (s.syncPoint).datbmr = s.datbmr :=
  by unfold State.syncPoint; split <;> rfl
@[simp] theorem State.syncPoint_datbtr (s : State) : (s.syncPoint).datbtr = s.datbtr :=
  by unfold State.syncPoint; split <;> rfl
@[simp] theorem State.syncPoint_iatbmr (s : State) : (s.syncPoint).iatbmr = s.iatbmr :=
  by unfold State.syncPoint; split <;> rfl
@[simp] theorem State.syncPoint_iatbtr (s : State) : (s.syncPoint).iatbtr = s.iatbtr :=
  by unfold State.syncPoint; split <;> rfl
@[simp] theorem State.syncPoint_dccr (s : State) : (s.syncPoint).dccr = s.dccr :=
  by unfold State.syncPoint; split <;> rfl
@[simp] theorem State.syncPoint_iccr (s : State) : (s.syncPoint).iccr = s.iccr :=
  by unfold State.syncPoint; split <;> rfl
@[simp] theorem State.syncPoint_dvr (s : State) : (s.syncPoint).dvr = s.dvr :=
  by unfold State.syncPoint; split <;> rfl
@[simp] theorem State.syncPoint_dcr (s : State) : (s.syncPoint).dcr = s.dcr :=
  by unfold State.syncPoint; split <;> rfl
@[simp] theorem State.syncPoint_dmr1 (s : State) : (s.syncPoint).dmr1 = s.dmr1 :=
  by unfold State.syncPoint; split <;> rfl
@[simp] theorem State.syncPoint_dmr2 (s : State) : (s.syncPoint).dmr2 = s.dmr2 :=
  by unfold State.syncPoint; split <;> rfl
@[simp] theorem State.syncPoint_dwcr (s : State) : (s.syncPoint).dwcr = s.dwcr :=
  by unfold State.syncPoint; split <;> rfl
@[simp] theorem State.syncPoint_dsr (s : State) : (s.syncPoint).dsr = s.dsr :=
  by unfold State.syncPoint; split <;> rfl
@[simp] theorem State.syncPoint_drr (s : State) : (s.syncPoint).drr = s.drr :=
  by unfold State.syncPoint; split <;> rfl
@[simp] theorem State.syncPoint_debugStopped (s : State) : (s.syncPoint).debugStopped = s.debugStopped :=
  by unfold State.syncPoint; split <;> rfl
@[simp] theorem State.syncPoint_pccr (s : State) : (s.syncPoint).pccr = s.pccr :=
  by unfold State.syncPoint; split <;> rfl
@[simp] theorem State.syncPoint_pcmr (s : State) : (s.syncPoint).pcmr = s.pcmr :=
  by unfold State.syncPoint; split <;> rfl
@[simp] theorem State.syncPoint_pmr (s : State) : (s.syncPoint).pmr = s.pmr :=
  by unfold State.syncPoint; split <;> rfl
@[simp] theorem State.syncPoint_picmr (s : State) : (s.syncPoint).picmr = s.picmr :=
  by unfold State.syncPoint; split <;> rfl
@[simp] theorem State.syncPoint_picLatch (s : State) : (s.syncPoint).picLatch = s.picLatch :=
  by unfold State.syncPoint; split <;> rfl
@[simp] theorem State.syncPoint_irqIn (s : State) : (s.syncPoint).irqIn = s.irqIn :=
  by unfold State.syncPoint; split <;> rfl
@[simp] theorem State.syncPoint_ttmr (s : State) : (s.syncPoint).ttmr = s.ttmr :=
  by unfold State.syncPoint; split <;> rfl
@[simp] theorem State.syncPoint_ttcr (s : State) : (s.syncPoint).ttcr = s.ttcr :=
  by unfold State.syncPoint; split <;> rfl
@[simp] theorem State.syncPoint_resv (s : State) : (s.syncPoint).resv = s.resv :=
  by unfold State.syncPoint; split <;> rfl
@[simp] theorem State.syncPoint_ompic (s : State) : (s.syncPoint).ompic = s.ompic :=
  by unfold State.syncPoint; split <;> rfl
@[simp] theorem State.syncPoint_mem (s : State) : (s.syncPoint).mem = s.mem :=
  by unfold State.syncPoint; split <;> rfl
@[simp] theorem State.syncPoint_inputs (s : State) : (s.syncPoint).inputs = s.inputs :=
  by unfold State.syncPoint; split <;> rfl
@[simp] theorem State.syncPoint_tickWait (s : State) : (s.syncPoint).tickWait = s.tickWait :=
  by unfold State.syncPoint; split <;> rfl
@[simp] theorem State.syncPoint_freeCtr (s : State) : (s.syncPoint).freeCtr = s.freeCtr :=
  by unfold State.syncPoint; split <;> rfl

@[simp] theorem State.countWatchpoints_cfg (s : State) (o : Seen) (f : Word) : (s.countWatchpoints o f).cfg = s.cfg :=
  rfl
@[simp] theorem State.countWatchpoints_gprs (s : State) (o : Seen) (f : Word) : (s.countWatchpoints o f).gprs = s.gprs :=
  rfl
@[simp] theorem State.countWatchpoints_pc (s : State) (o : Seen) (f : Word) : (s.countWatchpoints o f).pc = s.pc :=
  rfl
@[simp] theorem State.countWatchpoints_dsPending (s : State) (o : Seen) (f : Word) : (s.countWatchpoints o f).dsPending = s.dsPending :=
  rfl
@[simp] theorem State.countWatchpoints_dsTarget (s : State) (o : Seen) (f : Word) : (s.countWatchpoints o f).dsTarget = s.dsTarget :=
  rfl
@[simp] theorem State.countWatchpoints_ppc (s : State) (o : Seen) (f : Word) : (s.countWatchpoints o f).ppc = s.ppc :=
  rfl
@[simp] theorem State.countWatchpoints_hist (s : State) (o : Seen) (f : Word) : (s.countWatchpoints o f).hist = s.hist :=
  rfl
@[simp] theorem State.countWatchpoints_sr (s : State) (o : Seen) (f : Word) : (s.countWatchpoints o f).sr = s.sr :=
  rfl
@[simp] theorem State.countWatchpoints_epcr (s : State) (o : Seen) (f : Word) : (s.countWatchpoints o f).epcr = s.epcr :=
  rfl
@[simp] theorem State.countWatchpoints_eear (s : State) (o : Seen) (f : Word) : (s.countWatchpoints o f).eear = s.eear :=
  rfl
@[simp] theorem State.countWatchpoints_esr (s : State) (o : Seen) (f : Word) : (s.countWatchpoints o f).esr = s.esr :=
  rfl
@[simp] theorem State.countWatchpoints_evbar (s : State) (o : Seen) (f : Word) : (s.countWatchpoints o f).evbar = s.evbar :=
  rfl
@[simp] theorem State.countWatchpoints_aecr (s : State) (o : Seen) (f : Word) : (s.countWatchpoints o f).aecr = s.aecr :=
  rfl
@[simp] theorem State.countWatchpoints_aesr (s : State) (o : Seen) (f : Word) : (s.countWatchpoints o f).aesr = s.aesr :=
  rfl
@[simp] theorem State.countWatchpoints_fpcsr (s : State) (o : Seen) (f : Word) : (s.countWatchpoints o f).fpcsr = s.fpcsr :=
  rfl
@[simp] theorem State.countWatchpoints_machi (s : State) (o : Seen) (f : Word) : (s.countWatchpoints o f).machi = s.machi :=
  rfl
@[simp] theorem State.countWatchpoints_maclo (s : State) (o : Seen) (f : Word) : (s.countWatchpoints o f).maclo = s.maclo :=
  rfl
@[simp] theorem State.countWatchpoints_dmmucr (s : State) (o : Seen) (f : Word) : (s.countWatchpoints o f).dmmucr = s.dmmucr :=
  rfl
@[simp] theorem State.countWatchpoints_dmmupr (s : State) (o : Seen) (f : Word) : (s.countWatchpoints o f).dmmupr = s.dmmupr :=
  rfl
@[simp] theorem State.countWatchpoints_immucr (s : State) (o : Seen) (f : Word) : (s.countWatchpoints o f).immucr = s.immucr :=
  rfl
@[simp] theorem State.countWatchpoints_immupr (s : State) (o : Seen) (f : Word) : (s.countWatchpoints o f).immupr = s.immupr :=
  rfl
@[simp] theorem State.countWatchpoints_dtlbmr (s : State) (o : Seen) (f : Word) : (s.countWatchpoints o f).dtlbmr = s.dtlbmr :=
  rfl
@[simp] theorem State.countWatchpoints_dtlbtr (s : State) (o : Seen) (f : Word) : (s.countWatchpoints o f).dtlbtr = s.dtlbtr :=
  rfl
@[simp] theorem State.countWatchpoints_itlbmr (s : State) (o : Seen) (f : Word) : (s.countWatchpoints o f).itlbmr = s.itlbmr :=
  rfl
@[simp] theorem State.countWatchpoints_itlbtr (s : State) (o : Seen) (f : Word) : (s.countWatchpoints o f).itlbtr = s.itlbtr :=
  rfl
@[simp] theorem State.countWatchpoints_datbmr (s : State) (o : Seen) (f : Word) : (s.countWatchpoints o f).datbmr = s.datbmr :=
  rfl
@[simp] theorem State.countWatchpoints_datbtr (s : State) (o : Seen) (f : Word) : (s.countWatchpoints o f).datbtr = s.datbtr :=
  rfl
@[simp] theorem State.countWatchpoints_iatbmr (s : State) (o : Seen) (f : Word) : (s.countWatchpoints o f).iatbmr = s.iatbmr :=
  rfl
@[simp] theorem State.countWatchpoints_iatbtr (s : State) (o : Seen) (f : Word) : (s.countWatchpoints o f).iatbtr = s.iatbtr :=
  rfl
@[simp] theorem State.countWatchpoints_dccr (s : State) (o : Seen) (f : Word) : (s.countWatchpoints o f).dccr = s.dccr :=
  rfl
@[simp] theorem State.countWatchpoints_iccr (s : State) (o : Seen) (f : Word) : (s.countWatchpoints o f).iccr = s.iccr :=
  rfl
@[simp] theorem State.countWatchpoints_dvr (s : State) (o : Seen) (f : Word) : (s.countWatchpoints o f).dvr = s.dvr :=
  rfl
@[simp] theorem State.countWatchpoints_dcr (s : State) (o : Seen) (f : Word) : (s.countWatchpoints o f).dcr = s.dcr :=
  rfl
@[simp] theorem State.countWatchpoints_dmr1 (s : State) (o : Seen) (f : Word) : (s.countWatchpoints o f).dmr1 = s.dmr1 :=
  rfl
@[simp] theorem State.countWatchpoints_dmr2 (s : State) (o : Seen) (f : Word) : (s.countWatchpoints o f).dmr2 = s.dmr2 :=
  rfl
@[simp] theorem State.countWatchpoints_dsr (s : State) (o : Seen) (f : Word) : (s.countWatchpoints o f).dsr = s.dsr :=
  rfl
@[simp] theorem State.countWatchpoints_drr (s : State) (o : Seen) (f : Word) : (s.countWatchpoints o f).drr = s.drr :=
  rfl
@[simp] theorem State.countWatchpoints_debugStopped (s : State) (o : Seen) (f : Word) : (s.countWatchpoints o f).debugStopped = s.debugStopped :=
  rfl
@[simp] theorem State.countWatchpoints_pccr (s : State) (o : Seen) (f : Word) : (s.countWatchpoints o f).pccr = s.pccr :=
  rfl
@[simp] theorem State.countWatchpoints_pcmr (s : State) (o : Seen) (f : Word) : (s.countWatchpoints o f).pcmr = s.pcmr :=
  rfl
@[simp] theorem State.countWatchpoints_pmr (s : State) (o : Seen) (f : Word) : (s.countWatchpoints o f).pmr = s.pmr :=
  rfl
@[simp] theorem State.countWatchpoints_picmr (s : State) (o : Seen) (f : Word) : (s.countWatchpoints o f).picmr = s.picmr :=
  rfl
@[simp] theorem State.countWatchpoints_picLatch (s : State) (o : Seen) (f : Word) : (s.countWatchpoints o f).picLatch = s.picLatch :=
  rfl
@[simp] theorem State.countWatchpoints_irqIn (s : State) (o : Seen) (f : Word) : (s.countWatchpoints o f).irqIn = s.irqIn :=
  rfl
@[simp] theorem State.countWatchpoints_ttmr (s : State) (o : Seen) (f : Word) : (s.countWatchpoints o f).ttmr = s.ttmr :=
  rfl
@[simp] theorem State.countWatchpoints_ttcr (s : State) (o : Seen) (f : Word) : (s.countWatchpoints o f).ttcr = s.ttcr :=
  rfl
@[simp] theorem State.countWatchpoints_resv (s : State) (o : Seen) (f : Word) : (s.countWatchpoints o f).resv = s.resv :=
  rfl
@[simp] theorem State.countWatchpoints_ompic (s : State) (o : Seen) (f : Word) : (s.countWatchpoints o f).ompic = s.ompic :=
  rfl
@[simp] theorem State.countWatchpoints_mem (s : State) (o : Seen) (f : Word) : (s.countWatchpoints o f).mem = s.mem :=
  rfl
@[simp] theorem State.countWatchpoints_stale (s : State) (o : Seen) (f : Word) : (s.countWatchpoints o f).stale = s.stale :=
  rfl
@[simp] theorem State.countWatchpoints_inputs (s : State) (o : Seen) (f : Word) : (s.countWatchpoints o f).inputs = s.inputs :=
  rfl
@[simp] theorem State.countWatchpoints_tickWait (s : State) (o : Seen) (f : Word) : (s.countWatchpoints o f).tickWait = s.tickWait :=
  rfl
@[simp] theorem State.countWatchpoints_freeCtr (s : State) (o : Seen) (f : Word) : (s.countWatchpoints o f).freeCtr = s.freeCtr :=
  rfl

@[simp] theorem State.afterReset_cfg (s : State) : (s.afterReset).cfg = s.cfg := rfl
@[simp] theorem State.afterReset_irqIn (s : State) : (s.afterReset).irqIn = s.irqIn := rfl
@[simp] theorem State.afterReset_mem (s : State) : (s.afterReset).mem = s.mem := rfl
@[simp] theorem State.afterReset_stale (s : State) : (s.afterReset).stale = s.stale := rfl
@[simp] theorem State.afterReset_inputs (s : State) : (s.afterReset).inputs = s.inputs := rfl
@[simp] theorem State.afterReset_freeCtr (s : State) : (s.afterReset).freeCtr = s.freeCtr := rfl
@[simp] theorem State.afterReset_tickWait (s : State) : (s.afterReset).tickWait = s.tickWait := rfl

/-! ## The fields an update writes -/

@[simp] theorem State.setFlag_sr (s : State) (b : Bool) : (s.setFlag b).sr = setBit s.sr 9 b := rfl
@[simp] theorem State.setCarry_sr (s : State) (b : Bool) : (s.setCarry b).sr = setBit s.sr 10 b := rfl
@[simp] theorem State.setOverflow_sr (s : State) (b : Bool) : (s.setOverflow b).sr = setBit s.sr 11 b := rfl
@[simp] theorem State.setAcc_acc (s : State) (v : Word) : (s.setAcc v).machi ++ (s.setAcc v).maclo = v := by
  simp only [State.setAcc]
  apply BitVec.eq_of_getLsbD_eq
  intro i hi
  rw [BitVec.getLsbD_append]
  by_cases h : i < 32
  · simp [h]
  · simp [h, show i - 32 < 32 by omega, show 32 + (i - 32) = i by omega]
@[simp] theorem State.setOmpic_ompic (s : State) (st : List Word32) : (s.setOmpic st).ompic = st := rfl
@[simp] theorem State.syncPoint_stale (s : State) :
    s.syncPoint.stale = if s.cfg.strongOrder then s.stale else synced s.stale := by
  unfold State.syncPoint
  split <;> rfl
@[simp] theorem State.countWatchpoints_dwcr (s : State) (o : Seen) (f : Word) :
    (s.countWatchpoints o f).dwcr = (s.dwcr.put 0 (s.countedDwcr o f 0)).put 1 (s.countedDwcr o f 1) := rfl
@[simp] theorem State.draw_freeCtr (s : State) : s.draw.2.freeCtr = s.freeCtr + 1 := rfl
@[simp] theorem State.advance_dsPending (s : State) : s.advance.dsPending = false := by
  unfold State.advance
  split
  · rfl
  · rename_i h; simpa using h
@[simp] theorem State.advance_ppc (s : State) : s.advance.ppc = s.pc := by unfold State.advance; split <;> rfl
@[simp] theorem State.advance_pc (s : State) :
    s.advance.pc = if s.dsPending then s.dsTarget else trunc s.cfg.xlen (s.pc + 4) := by
  unfold State.advance; split <;> rfl
@[simp] theorem State.leave_dsPending (s : State) : s.leave.dsPending = false := rfl
@[simp] theorem State.setNpc_dsPending (s : State) (v : Word) : (s.setNpc v).dsPending = false := rfl

/-! ## Accessors -/

@[simp] theorem trunc_trunc (x : Xlen) (v : Word) : trunc x (trunc x v) = trunc x v := by
  cases x
  · simp only [trunc]
    apply BitVec.eq_of_getLsbD_eq
    intro i _
    simp only [BitVec.getLsbD_setWidth]
    by_cases h : i < 32 <;> simp [h]
  · rfl
@[simp] theorem trunc_x64 (v : Word) : trunc .x64 v = v := rfl
@[simp] theorem trunc_zero (x : Xlen) : trunc x 0#64 = 0#64 := by cases x <;> rfl

theorem State.ctx_congr {s t : State} (hsr : t.sr.getLsbD 8 = s.sr.getLsbD 8)
    (hc : t.sr.extractLsb' 28 4 = s.sr.extractLsb' 28 4) (hcfg : t.cfg = s.cfg) : t.ctx = s.ctx := by
  unfold State.ctx State.fcs State.cid; rw [hsr, hc, hcfg]

/-- Writing a register and reading any register: the hardwired r0 reads zero, the rest is the last value written
(10_state.md R40, R42). -/
theorem State.gprAt_setGprAt (s : State) (i j : BitVec 9) (v : Word) :
    (s.setGprAt i v).gprAt j =
      if j = i then (if s.cfg.r0Hardwired && i.extractLsb' 0 5 == 0 then 0 else trunc s.cfg.xlen v)
      else s.gprAt j := by
  unfold State.gprAt
  rw [State.setGprAt_cfg]
  unfold State.setGprAt
  by_cases h : (s.cfg.r0Hardwired && i.extractLsb' 0 5 == 0) = true
  · rw [if_pos h, if_pos h]
    by_cases hj : j = i
    · subst hj; rw [if_pos h, if_pos rfl]
    · rw [if_neg hj]
  · rw [if_neg h, if_neg h]
    by_cases hj : j = i
    · subst hj; rw [if_neg h, if_pos rfl]; simp
    · rw [if_neg hj, Bank.at_put_ne _ _ hj]

theorem gprIndex_low (c : BitVec 4) (r : Reg) : (gprIndex c r).extractLsb' 0 5 = r := by
  apply BitVec.eq_of_getLsbD_eq
  intro i hi
  rw [BitVec.getLsbD_extractLsb', gprIndex, Nat.zero_add, BitVec.getLsbD_append]
  simp only [hi, decide_true, Bool.true_and, if_true]

/-- `State.setGpr` writes its register and no other (`WritesReg`'s content). -/
theorem State.gprAt_setGpr (s : State) (r : Reg) (j : BitVec 9) (v : Word) :
    (s.setGpr r v).gprAt j =
      if j = gprIndex s.ctx r then (if s.cfg.r0Hardwired && r == 0 then 0 else trunc s.cfg.xlen v)
      else s.gprAt j := by
  rw [State.setGpr, State.gprAt_setGprAt, gprIndex_low]

/-- A general register holds XLEN bits (10_state.md R40). -/
@[simp] theorem State.trunc_gprAt (s : State) (i : BitVec 9) : trunc s.cfg.xlen (s.gprAt i) = s.gprAt i := by
  unfold State.gprAt; split <;> simp

@[simp] theorem State.trunc_gpr (s : State) (r : Reg) : trunc s.cfg.xlen (s.gpr r) = s.gpr r := s.trunc_gprAt _

/-- Registers are read through `gprs`, `cfg` and nothing else. -/
theorem State.gprAt_congr {s t : State} (hg : t.gprs = s.gprs) (hc : t.cfg = s.cfg) (i : BitVec 9) :
    t.gprAt i = s.gprAt i := by simp [State.gprAt, hg, hc]

/-! ## Bits of SR -/

theorem getLsbD_setBit (w : Word32) (n k : Nat) (b : Bool) (hn : n < 32) :
    (setBit w n b).getLsbD k = if k = n then b else w.getLsbD k := by
  unfold setBit
  cases b
  · simp only [Bool.false_eq_true, if_false, BitVec.getLsbD_and, BitVec.getLsbD_not, BitVec.getLsbD_shiftLeft,
      BitVec.getLsbD_one]
    by_cases hk : k = n
    · subst hk; simp [hn]
    · by_cases h32 : k < 32
      · simp [hk, h32]; omega
      · simp [hk, BitVec.getLsbD_of_ge w k (by omega)]
  · simp only [if_true, BitVec.getLsbD_or, BitVec.getLsbD_shiftLeft, BitVec.getLsbD_one]
    by_cases hk : k = n
    · subst hk; simp [hn]
    · simp [hk]; omega

@[simp] theorem State.setFlag_flag (s : State) (b : Bool) : (s.setFlag b).flag = b := by
  rw [State.flag, State.setFlag_sr, getLsbD_setBit _ _ _ _ (by decide), if_pos rfl]
@[simp] theorem State.setCarry_carry (s : State) (b : Bool) : (s.setCarry b).carry = b := by
  rw [State.carry, State.setCarry_sr, getLsbD_setBit _ _ _ _ (by decide), if_pos rfl]
@[simp] theorem State.setOverflow_overflow (s : State) (b : Bool) : (s.setOverflow b).overflow = b := by
  rw [State.overflow, State.setOverflow_sr, getLsbD_setBit _ _ _ _ (by decide), if_pos rfl]
@[simp] theorem State.setOverflow_carry (s : State) (b : Bool) : (s.setOverflow b).carry = s.carry := by
  rw [State.carry, State.setOverflow_sr, getLsbD_setBit _ _ _ _ (by decide), if_neg (by decide), State.carry]

theorem setBit_outside (w : Word32) (n : Nat) (b : Bool) (m : Word32) (hm : m.getLsbD n = false) (hn : n < 32) :
    setBit w n b &&& m = w &&& m := by
  apply BitVec.eq_of_getLsbD_eq
  intro i _
  simp only [BitVec.getLsbD_and, getLsbD_setBit w n i b hn]
  by_cases h : i = n
  · subst h; simp [hm]
  · simp [h]

end Sys2Proof.Machine
end

