-- ==== Sys2Proof/Laws/Ops.lean ====
section
/-! SUPPORT. For each shared operation, once, everything it can do. -/

namespace Sys2Proof.Machine

/-! ## Issue and attempts -/

/-- A ready instruction has its effect. -/
theorem issue_run {i : Instr} {s : State} (h : Ready i s) (k : State → Result) : issue i s k = k s := by
  simp [issue, h.1, h.2.1, h.2.2]

/-- What `issue` can answer with a next state: the effect, Range for a missing register, or Illegal Instruction. -/
theorem issue_next {i : Instr} {s t : State} {k : State → Result} (h : issue i s k = .next t) :
    (Ready i s ∧ k s = .next t) ∨ t = s.enter .range 0 ∨ t = s.enter .illegal s.pc := by
  unfold issue at h
  split at h
  · cases h
  · rename_i hb
    split at h
    · rename_i hp
      split at h
      · cases h; exact .inr (.inl rfl)
      · rename_i hr; exact .inl ⟨⟨hb, hp, by simpa using hr⟩, h⟩
    · cases h; exact .inr (.inr rfl)

/-- An instruction that is not implemented raises Illegal Instruction. -/
theorem issue_absent {i : Instr} {s : State} (hb : s.blocked = none) (hp : present s.cfg i = false)
    (k : State → Result) : issue i s k = .next (s.enter .illegal s.pc) := by
  simp [issue, hb, hp, State.raise]

/-- What an attempt followed by `k` can answer with a next state. -/
theorem Attempt.run_next {α : Type} {a : Attempt α} {s t : State} {k : α → Result} (h : a.run s k = .next t) :
    (∃ v, a = .ok v ∧ k v = .next t) ∨ (∃ x ea, a = .raise x ea ∧ t = s.enter x ea) := by
  cases a with
  | ok v => exact .inl ⟨v, rfl, h⟩
  | raise x ea => cases h; exact .inr ⟨x, ea, rfl, rfl⟩
  | refuse r => cases h

@[simp] theorem Attempt.run_ok {α : Type} (v : α) (s : State) (k : α → Result) : (Attempt.ok v).run s k = k v := rfl
@[simp] theorem Attempt.run_raise {α : Type} (x : Exc) (ea : Word) (s : State) (k : α → Result) :
    (Attempt.raise x ea).run s k = .next (s.enter x ea) := rfl

/-! ## Taking an exception -/

/-- Exception entry when the debug unit does not take the exception. -/
theorem State.enter_eq {s : State} {x : Exc} (h : s.redirects x = false) (ea : Word) :
    s.enter x ea =
      { s with
        epcr := s.epcr.put s.entryCtx (s.epcFor x)
        esr := s.esr.put s.entryCtx (zext32 s.sr)
        eear := if x.writesEear && !s.contextsUsed then s.eear.put s.entryCtx (trunc s.cfg.xlen ea) else s.eear
        sr := s.entrySr s.entryCtx
        resv := none
        dsPending := false
        dsTarget := 0
        pc := s.vectorAddress (s.entryExc x)
        hist := .entered } := by
  unfold State.enter
  rw [if_neg (by simp [h])]

/-- The debug unit takes the exception. -/
theorem State.enter_redirected {s : State} {x : Exc} (h : s.redirects x = true) (ea : Word) :
    s.enter x ea = { s with drr := setBit s.drr x.dsrBit true, debugStopped := true } := by
  unfold State.enter
  rw [if_pos h]

/-! ## Completing -/

/-- Completing an instruction that is no control transfer moves `pc` as R551 says. -/
theorem State.completes_advance (s : State) : Completes s s.advance := ⟨s.advance_pc, s.advance_dsPending, s.advance_ppc⟩

/-- `advance` writes the sequencing registers only. -/
theorem State.advance_seq (s : State) : s.advance = s.seqOf s.advance := by
  unfold State.advance State.seqOf
  split <;> rfl

/-- Writing one register and completing: the register, `pc`, and nothing else. -/
theorem State.writesOnly (s : State) (rd : Reg) (v : Word) : WritesOnly s (s.setGpr rd v).advance rd v := by
  refine ⟨⟨?_, ?_⟩, ?_, ?_, ?_⟩
  · rw [State.gprAt_congr (State.advance_gprs _) (State.advance_cfg _), State.gprAt_setGpr, if_pos rfl]
  · intro j hj
    rw [State.gprAt_congr (State.advance_gprs _) (State.advance_cfg _), State.gprAt_setGpr, if_neg hj]
  · simp [Completes]
  · unfold State.seqOf State.advance State.setGpr State.setGprAt
    split <;> split <;> rfl
  · intro a; simp

/-- What an operation that writes one register answers. -/
theorem State.writeReg_eq (s : State) (rd : Reg) (v : Word) : s.writeReg rd v = .next (s.setGpr rd v).advance := rfl

/-- The end of an arithmetic instruction: Range with AESR recorded, or completing. -/
theorem State.finishArith_next {s t : State} {cs : List AeCond} (h : s.finishArith cs = .next t) :
    (cs.any (fun c => c.enabled s) = true ∧ t = (s.recordAe cs).enter .range 0) ∨
    (cs.any (fun c => c.enabled s) = false ∧ t = s.advance) := by
  unfold State.finishArith at h
  split at h
  · cases h; exact .inl ⟨‹_›, rfl⟩
  · cases h; exact .inr ⟨Bool.eq_false_iff.mpr (by assumption), rfl⟩

/-- With SR[OVE] = 0 an arithmetic instruction always completes. -/
theorem State.finishArith_of_ove {s : State} (h : s.ove = false) (cs : List AeCond) :
    s.finishArith cs = .next s.advance := by
  have : cs.any (fun c => c.enabled s) = false := by simp [AeCond.enabled, h]
  simp [State.finishArith, this]

/-- What a control transfer answers: the next instruction is the slot, or with ND the target or the next one. -/
theorem State.transfer_next {s t : State} {taken : Bool} {target : Word} (h : s.transfer taken target = .next t) :
    s.dsPending = false ∧
    ((s.cfg.nd = true ∧ t = { s with
        pc := if taken then target else s.pcPlus 4, ppc := s.pc, hist := if taken then .branched else .straight }) ∨
     (s.cfg.nd = false ∧ t = { s with
        pc := s.pcPlus 4, dsPending := true, dsTarget := if taken then target else s.pcPlus 8, ppc := s.pc,
        hist := .slot taken })) := by
  unfold State.transfer at h
  split at h
  · cases h
  · rename_i hd
    refine ⟨by simpa using hd, ?_⟩
    split at h
    · cases h; exact .inl ⟨‹_›, rfl⟩
    · cases h; exact .inr ⟨Bool.eq_false_iff.mpr (by assumption), rfl⟩

/-- The end of a floating-point instruction: Floating Point, or completing. -/
theorem State.finishFp_next {s t : State} {f : Fmt} {rd : Reg} {r : FRes} (h : s.finishFp f rd r = .next t) :
    t = (((s.fpOut f r.out).2.setGpr rd (s.fpOut f r.out).1).orFlags (r.flagsAt (s.fpOut f r.out).1)).enter .floatingPoint 0 ∨
    t = (((s.fpOut f r.out).2.setGpr rd (s.fpOut f r.out).1).orFlags (r.flagsAt (s.fpOut f r.out).1)).advance := by
  simp only [State.finishFp] at h
  split at h
  · cases h; exact .inl rfl
  · cases h; exact .inr rfl

/-- With FPCSR[FPEE] = 0 a floating-point instruction completes. -/
theorem State.finishFp_of_fpee {s : State} (h : s.fpcsr.getLsbD 0 = false) (f : Fmt) (rd : Reg) (r : FRes) :
    s.finishFp f rd r =
      .next (((s.fpOut f r.out).2.setGpr rd (s.fpOut f r.out).1).orFlags (r.flagsAt (s.fpOut f r.out).1)).advance := by
  simp only [State.finishFp, h, Bool.false_and, Bool.false_eq_true, if_false]

@[simp] theorem FRes.neverInexact_out (r : FRes) : r.neverInexact.out = r.out := rfl
@[simp] theorem FRes.neverInexact_ixf (r : FRes) : r.neverInexact.flags.ixf = false := rfl
@[simp] theorem FRes.neverInexact_unf (r : FRes) : r.neverInexact.flags.unf = false := rfl
@[simp] theorem FRes.neverInexact_zf (r : FRes) : r.neverInexact.flags.zf = r.flags.zf := rfl

/-! ## Memory accesses -/

/-- What translation gives when it gives an address: nothing changes, or the page history of one entry. -/
theorem translate_ok {s : State} {k : Access} {ea : Word} {n : Nat} {l : Located} (h : translate s k ea n = .ok l) :
    (s.translates k = false ∧ l = { addrs := untranslatedBytes s.cfg ea n, cached := false, inhibited := false, state := s }) ∨
    (s.translates k = true ∧ ∃ e, findEntry s k ea = .ok e ∧ l.state = s.touch k e ∧
      ((s.mmu k).translateReg e).getLsbD (permissionBit k e s.sm) = true ∧
      ea.toNat % 2 ^ (s.mmu k).pageBits e + n ≤ 2 ^ (s.mmu k).pageBits e ∧
      l.addrs = (List.range n).map (fun i => (s.mmu k).physical s.cfg e ea + i) ∧
      l.inhibited = ((s.mmu k).translateReg e).getLsbD 1) := by
  unfold translate at h
  split at h
  · rename_i ht
    split at h
    · cases h
    · cases h
    · rename_i e he
      split at h
      · rename_i hp
        split at h
        · rename_i hn
          cases h
          exact .inr ⟨ht, e, he, rfl, hp, hn, rfl, rfl⟩
        · cases h
      · cases h
  · rename_i ht
    cases h
    exact .inl ⟨by simpa using ht, rfl⟩

/-- An untranslated access. -/
theorem translate_off {s : State} {k : Access} (h : s.translates k = false) (ea : Word) (n : Nat) :
    translate s k ea n = .ok { addrs := untranslatedBytes s.cfg ea n, cached := false, inhibited := false, state := s } := by
  simp [translate, h]

/-- What `locate` gives: a translation whose bytes exist. -/
theorem locate_ok {s : State} {k : Access} {ea : Word} {n : Nat} {l : Located} (h : locate s k ea n = .ok l) :
    translate s k ea n = .ok l ∧ physValid s.cfg l.addrs = true := by
  unfold locate at h
  split at h
  · cases h
  · cases h
  · split at h
    · cases h; exact ⟨by assumption, by assumption⟩
    · cases h

/-- Recording the page history changes translate registers only. -/
theorem State.touch_rest (s : State) (k : Access) (e : Entry) :
    s.touch k e = { s with
      dtlbtr := (s.touch k e).dtlbtr, datbtr := (s.touch k e).datbtr
      itlbtr := (s.touch k e).itlbtr, iatbtr := (s.touch k e).iatbtr } := rfl

/-- Page history of a load or store that the TLB translates. -/
theorem State.touch_data_tlb (s : State) (k : Access) (i : BitVec 9) (hk : k ≠ .fetch) :
    s.touch k (.tlb i) = { s with dtlbtr := s.dtlbtr.put i (s.dtlbtr.at i ||| k.history) } := by
  cases k <;> first | rfl | exact absurd rfl hk

/-- Page history of a fetch that the TLB translates. -/
theorem State.touch_fetch_tlb (s : State) (i : BitVec 9) :
    s.touch .fetch (.tlb i) =
      if s.cfg.unifiedMmu then { s with dtlbtr := s.dtlbtr.put i (s.dtlbtr.at i ||| 0x10) }
      else { s with itlbtr := s.itlbtr.put i (s.itlbtr.at i ||| 0x10) } := by
  cases h : s.cfg.unifiedMmu <;> simp [State.touch, State.byDataMmu, Entry.markTlb, Entry.markAtb, Access.history, h]

@[simp] theorem State.mmu_load (s : State) : s.mmu .load = s.dataMmu := rfl
@[simp] theorem State.mmu_store (s : State) : s.mmu .store = s.dataMmu := rfl

/-- The MMU of a fetch. -/
theorem State.mmu_fetch (s : State) : s.mmu .fetch = if s.cfg.unifiedMmu then s.dataMmu else s.insnMmu := rfl

/-- Bit `n` of a word with bit `n` set to `b`. -/
theorem setBit_self (w : Word32) {n : Nat} (h : n < 32) (b : Bool) : (setBit w n b).getLsbD n = b := by
  cases b <;> simp [setBit, h]

/-- The OMPIC's line is up exactly while IRQ_PEND = 1 (61_platform_units.md R972). -/
theorem State.irqLines_ompic {s : State} (h : s.cfg.ompicBase.isSome = true) :
    s.irqLines.getLsbD s.cfg.ompicIrq.toNat = (s.ompic.getD s.cfg.coreId 0).getLsbD 30 := by
  simp only [State.irqLines, h, if_true]
  exact setBit_self _ s.cfg.ompicIrq.isLt _

/-- The state of a located access differs from the old one in page history only. -/
theorem locate_state {s : State} {k : Access} {ea : Word} {n : Nat} {l : Located} (h : locate s k ea n = .ok l) :
    l.state = { s with
      dtlbtr := l.state.dtlbtr, datbtr := l.state.datbtr, itlbtr := l.state.itlbtr, iatbtr := l.state.iatbtr } := by
  rcases translate_ok (locate_ok h).1 with ⟨_, rfl⟩ | ⟨_, e, _, hs, _⟩
  · rfl
  · rw [hs]; exact s.touch_rest k e

/-- A load of bytes outside the OMPIC. -/
theorem State.loadPhys_ram {s : State} {as : List Nat} (h : as.any (inOmpic s.cfg) = false) (cached : Bool) :
    s.loadPhys as cached = .ok (ofBytes (s.dataOrder (as.map s.mem.read))) := by
  simp [State.loadPhys, h]

/-- A store to bytes outside the OMPIC. -/
theorem State.storePhys_ram {s : State} {as : List Nat} (h : as.any (inOmpic s.cfg) = false) (v : Word)
    (cached : Bool) :
    s.storePhys as v cached =
      .ok { s with
        resv := cancelOverlap s.resv as
        mem := s.mem.writeAll (as.zip (s.dataOrder (toBytes as.length v)))
        stale := s.noteStale as (firstStage s.cfg) } := by
  simp [State.storePhys, h, State.dataOrder, State.littleEndian]

/-- What `MemRead` gives: a value and a located access. -/
theorem State.memRead_ok {s : State} {ea : Word} {n : Nat} {r : Nat × Located}
    (h : s.memRead ea n = .ok r) :
    misaligned s ea n = false ∧ locate s .load ea n = .ok r.2 ∧ s.loadPhys r.2.addrs r.2.cached = .ok r.1 := by
  unfold State.memRead at h
  split at h
  · cases h
  · rename_i hm
    split at h
    · cases h
    · cases h
    · split at h
      · cases h; exact ⟨by simpa using hm, by assumption, by assumption⟩
      · cases h
      · cases h

/-- What `MemWrite` gives: the state after storing at a located access. -/
theorem State.memWrite_ok {s t : State} {ea : Word} {n : Nat} {v : Word} (h : s.memWrite ea n v = .ok t) :
    misaligned s ea n = false ∧
    ∃ l, locate s .store ea n = .ok l ∧ l.state.storePhys l.addrs v l.cached = .ok t := by
  unfold State.memWrite at h
  split at h
  · cases h
  · rename_i hm
    split at h
    · cases h
    · cases h
    · exact ⟨by simpa using hm, _, by assumption, h⟩

/-- What a load answers with a next state: the loaded value in its register, Range, or an exception of the access. -/
theorem State.loadOp_next {s t : State} {rd ra : Reg} {i : BitVec 16} {n : Nat} {ext : Nat → Word}
    (h : s.loadOp rd ra i n ext = .next t) :
    (∃ r, s.memRead (s.effAddr ra i) n = .ok r ∧ s.regMissing rd = false ∧
      t = (r.2.state.setGpr rd (ext r.1)).advance) ∨ ∃ x ea, t = s.enter x ea := by
  rcases Attempt.run_next h with ⟨r, hr, hk⟩ | ⟨x, ea, _, ht⟩
  · split at hk
    · cases hk; exact .inr ⟨_, _, rfl⟩
    · cases hk; exact .inl ⟨r, hr, Bool.eq_false_iff.mpr (by assumption), rfl⟩
  · exact .inr ⟨x, ea, ht⟩

/-- What a store answers with a next state: the stored state completed, Range, or an exception of the access. -/
theorem State.storeOp_next {s t : State} {ra rb : Reg} {i : BitVec 16} {n : Nat}
    (h : s.storeOp ra rb i n = .next t) :
    (∃ u, s.memWrite (s.effAddr ra i) n (s.gpr rb) = .ok u ∧ s.regMissing rb = false ∧ t = u.advance) ∨
    ∃ x ea, t = s.enter x ea := by
  rcases Attempt.run_next h with ⟨u, hu, hk⟩ | ⟨x, ea, _, ht⟩
  · split at hk
    · cases hk; exact .inr ⟨_, _, rfl⟩
    · cases hk; exact .inl ⟨u, hu, Bool.eq_false_iff.mpr (by assumption), rfl⟩
  · exact .inr ⟨x, ea, ht⟩

/-- The words that a fetch may still see are those of replaced words of its address; from a page with CI = 1, of those that not only the
instruction cache may hold (20_memory.md R269, R282, R286). -/
theorem State.mem_oldWords {s : State} {a : Nat} {ci : Bool} {w : Word32} :
    w ∈ s.oldWords a ci ↔ ∃ e ∈ s.stale, e.addr = a ∧ ¬ (ci = true ∧ e.stage = .flushed) ∧ e.old = w := by
  simp only [State.oldWords, List.mem_map, List.mem_filter, Bool.and_eq_true, beq_iff_eq, Bool.not_eq_true', Bool.and_eq_false_iff,
    beq_eq_false_iff_ne, not_and_or, ne_eq, Bool.not_eq_true, and_assoc]

/-- What `l.psync` leaves of the record: the words whose sequence it does not end, of which those that have reached main memory are
flushed (20_memory.md R282). -/
theorem mem_flushedOld {c : Config} {es : List StaleWord} {e : StaleWord} :
    e ∈ flushedOld c es ↔ (e ∈ es ∧ e.stage ≠ .invalidated ∧ e.stage ≠ .synced) ∨
      (c.unifiedCache = false ∧ e.stage = .flushed ∧ { e with stage := .synced } ∈ es) := by
  simp only [flushedOld, List.mem_map, List.mem_filter, StaleWord.flushable]
  constructor
  · rintro ⟨f, ⟨hf, hd⟩, rfl⟩
    rcases f with ⟨a, o, g⟩
    cases g <;> simp_all
  · rintro (⟨h, h1, h2⟩ | ⟨hu, hg, h⟩)
    · exact ⟨e, ⟨h, by simp [h1, h2]⟩, by simp [h2]⟩
    · rcases e with ⟨a, o, g⟩
      cases hg
      exact ⟨_, ⟨h, by simp [hu]⟩, by simp⟩

/-- What a fetch gives: the located word and the page history recorded; where an instruction cache may hold old words of it, one of
them or the present one, and a free value drawn. -/
theorem State.fetch_ok {s : State} {r : Word32 × State} (h : s.fetch = .ok r) :
    ∃ l, locate s .fetch (trunc s.cfg.xlen s.pc) 4 = .ok l ∧
      (r.2 = l.state ∨ r.2 = { l.state with freeCtr := s.freeCtr + 1 }) ∧
      (l.addrs.any (inOmpic s.cfg) = false →
        (s.oldWords (l.addrs.headD 0) l.inhibited = [] ∧ r.2 = l.state ∧ r.1 = BitVec.ofNat 32 (ofBytes (l.addrs.map s.mem.read))) ∨
        (s.oldWords (l.addrs.headD 0) l.inhibited ≠ [] ∧ r.2 = { l.state with freeCtr := s.freeCtr + 1 } ∧
          r.1 = s.instructionAt (l.addrs.headD 0) l.inhibited)) := by
  unfold State.fetch at h
  split at h
  · cases h
  · cases h
  · rename_i l hl
    split at h
    · rename_i ho
      split at h
      · cases h; exact ⟨l, hl, .inl rfl, fun hn => by simp [hn] at ho⟩
      · cases h
      · cases h
    · split at h
      · rename_i he
        cases h; exact ⟨l, hl, .inl rfl, fun _ => .inl ⟨he, rfl, rfl⟩⟩
      · rename_i he
        cases h
        exact ⟨l, hl, .inr rfl, fun _ => .inr ⟨fun e => List.cons_ne_nil _ _ (he.symm.trans e), rfl, rfl⟩⟩

/-- The word a fetch may see is the present one or an old one. -/
theorem State.instructionAt_mem (s : State) (a : Nat) (ci : Bool) :
    s.instructionAt a ci ∈ s.mem.wordAt a :: s.oldWords a ci := by
  unfold State.instructionAt
  rw [List.getD_eq_getElem]
  · exact List.getElem_mem _
  · exact Nat.mod_lt _ (by simp)

/-! ## Watchpoint counters -/

/-- Without an enabled watchpoint counter nothing is counted before an instruction. -/
theorem State.watchBefore_off {s : State} (h : s.watching = false) (o : Seen) : s.watchBefore o = (s, false) := by
  simp [State.watchBefore, h]

/-- Without an enabled watchpoint counter nothing is counted after an instruction. -/
theorem State.watchAfter_off {t : State} (h : t.watching = false) (o : Seen) (sure : Bool) : t.watchAfter o sure = t := by
  simp [State.watchAfter, h]

/-- A combined match that fires goes on firing where the match itself does. -/
theorem combineMatch_mono {cw : BitVec 2} {hit hit' other free : Bool} (h : hit = true → hit' = true) :
    combineMatch cw hit other free = true → combineMatch cw hit' other free = true := by
  unfold combineMatch
  cases hit <;> cases hit' <;> simp_all
  split <;> simp_all

/-- More firing watchpoints add no less to a counter. -/
theorem State.tally_mono {s : State} {fires more : Nat → Bool} (h : ∀ n, fires n = true → more n = true) (j : BitVec 1) :
    s.tally fires j ≤ s.tally more j := by
  refine List.Sublist.length_le (List.monotone_filter_right _ fun n hn => ?_)
  simp only [Bool.and_eq_true] at hn ⊢
  exact ⟨h n hn.1, hn.2⟩

/-- A counter that matches with `a` added watchpoints matches with more. -/
theorem State.counterMatch_mono {s : State} {j : BitVec 1} {a b : Nat} (h : a ≤ b) :
    s.counterMatch j a = true → s.counterMatch j b = true := by
  simp only [State.counterMatch]
  split
  · exact id
  · simp only [Bool.and_eq_true, decide_eq_true_eq]
    exact fun ⟨hon, ha⟩ => ⟨hon, ha.trans h⟩

/-- Where more watchpoints fire, but the one that the counter's combines with as before, more fire with the counter's. -/
theorem State.withCounter_mono {s : State} {f : Word} {j : BitVec 1} {fires more : Nat → Bool}
    (h : ∀ n, fires n = true → more n = true) (hv : fires (4 * j.toNat + 3) = more (4 * j.toNat + 3)) (n : Nat) :
    s.withCounter f j fires n = true → s.withCounter f j more n = true := by
  unfold State.withCounter
  split
  · rw [hv]
    exact combineMatch_mono (State.counterMatch_mono (State.tally_mono h j))
  · exact h n

/-- A counter decides its own watchpoint alone. -/
@[simp] theorem State.withCounter_other {s : State} {f : Word} {j : BitVec 1} {fires : Nat → Bool} {n : Nat}
    (h : n ≠ 8 + j.toNat) : s.withCounter f j fires n = fires n := by
  simp [State.withCounter, h]

/-- Where there are no watchpoint counters they make no difference to an instruction that keeps the configuration. -/
theorem State.watched_absent {s : State} (h : (s.cfg.dup && s.cfg.wpci) = false) (i : Option Instr) (run : State → Result)
    (hr : ∀ t, run s = .next t → t.cfg = s.cfg) : s.watched i run = run s := by
  have hs : s.watching = false := by simp [State.watching, h]
  unfold State.watched
  simp only [State.watchBefore_off hs]
  split
  · rename_i t ht
    have h2 : t.watching = false := by simp [State.watching, hr t ht, h]
    simp only [State.watchAfter_off h2, Bool.false_eq_true, if_false]
    exact ht.symm
  · rename_i ht; exact ht.symm
  · rename_i ht; exact ht.symm

/-- What counting may change in a state: the counters and how many free values are drawn. -/
theorem State.watchBefore_rest (s : State) (o : Seen) :
    (s.watchBefore o).1 = { s with dwcr := (s.watchBefore o).1.dwcr, freeCtr := (s.watchBefore o).1.freeCtr } := by
  unfold State.watchBefore
  split
  · split <;> rfl
  · rfl

/-- The same after an instruction. -/
theorem State.watchAfter_rest (t : State) (o : Seen) (sure : Bool) :
    t.watchAfter o sure = { t with dwcr := (t.watchAfter o sure).dwcr, freeCtr := (t.watchAfter o sure).freeCtr } := by
  unfold State.watchAfter
  split
  · split <;> rfl
  · rfl

/-- An instruction that has had its effect with the counters enabled counts once: before it, or after it. -/
theorem State.watched_counts {s : State} (hs : s.watching = true) (i : Option Instr) (run : State → Result) :
    s.watched i run = run (s.draw.2.countWatchpoints (s.seen i) s.draw.1) ∨
    ∀ t, run s.draw.2 = .next t → t.watching = true → s.hadEffect i t = true →
      s.watched i run = .next (t.draw.2.countWatchpoints (s.seen i) t.draw.1) := by
  simp only [State.watched, State.watchBefore, hs, if_true, Bool.true_and]
  cases s.draw.1.getLsbD 0
  · right
    intro t ht hw he
    simp [ht, he, State.watchAfter, hw]
  · left
    simp only [if_true]
    split <;> simp_all

/-- Everything a watched instruction can answer with a next state: what the instruction answers from a state that differs in the
counters and the free values drawn, up to those two again. -/
theorem State.watched_next {s t : State} {i : Option Instr} {run : State → Result} (h : s.watched i run = .next t) :
    ∃ u, run (s.watchBefore (s.seen i)).1 = .next u ∧ t = { u with dwcr := t.dwcr, freeCtr := t.freeCtr } := by
  unfold State.watched at h
  split at h
  · rename_i u hu
    refine ⟨u, hu, ?_⟩
    cases h
    split
    · rfl
    · exact u.watchAfter_rest _ _
  · cases h
  · cases h

/-! ## A step -/

/-- Everything the core's part of a step can do. -/
theorem coreStep_eq (s : State) :
    coreStep s =
      if s.debugStopped then .next s
      else match s.paused with
        | some t => .next t
        | none =>
          match s.blocked with
          | some r => .refused r
          | none =>
            match s.interrupt with
            | some x => .next (s.enter x 0)
            | none => fetchAndExecute s := rfl

/-- A step is the environment and the core's part, or reset. -/
theorem step_eq (s : State) :
    step s = if s.resetAsserted then .next s.environment.afterReset else coreStep s.environment := rfl

/-! ## TLB entries -/

/-- The set that an address selects is its page number modulo 2^NTS. -/
theorem tlbSet_toNat (c : MmuCfg) (ea : Word) : (tlbSet c ea).toNat = ea.toNat / 8192 % 2 ^ c.nts.toNat := by
  have key : ∀ k < 8, (ea.extractLsb' 13 7 &&& BitVec.ofNat 7 (2 ^ k - 1)).toNat = ea.toNat / 8192 % 2 ^ k := by
    intro k hk
    have h1 : 2 ^ k ≤ 2 ^ 7 := Nat.pow_le_pow_right (by omega) (by omega)
    have h2 : 0 < 2 ^ k := Nat.two_pow_pos k
    rw [BitVec.toNat_and, BitVec.toNat_ofNat, Nat.mod_eq_of_lt (a := 2 ^ k - 1) (by omega),
      Nat.and_two_pow_sub_one_eq_mod, BitVec.extractLsb'_toNat, Nat.shiftRight_eq_div_pow,
      Nat.mod_mod_of_dvd _ (Nat.pow_dvd_pow 2 (by omega))]
  exact key _ c.nts.isLt

/-- The number of the register of way `y` in set `n`. -/
theorem tlbIndex_toNat (y : BitVec 2) (n : BitVec 7) : (tlbIndex y n).toNat = y.toNat * 128 + n.toNat := by
  rw [tlbIndex, BitVec.toNat_append, ← Nat.shiftLeft_add_eq_or_of_lt n.isLt, Nat.shiftLeft_eq]

/-- A flush takes V from every match register. -/
theorem flushed_at (b : Bank 9 Word32) (i : BitVec 9) : (flushed b).at i = b.at i &&& 0xFFFFFFFE := by
  simp [flushed, Bank.at]

/-- An invalidation of `ea` takes V from the entries of its set, in a way that exists, whose page number matches, and changes no
other. -/
theorem invalidated_at (s : State) (m : Mmu) (ea : Word) (i : BitVec 9) :
    (invalidated s m ea).at i =
      if tlbTagMatches s.cfg.xlen (m.mr.at i) ea = true ∧ i.toNat / 128 ≤ m.cfg.ntw.toNat ∧
          i.toNat % 128 = (tlbSet m.cfg ea).toNat
      then m.mr.at i &&& 0xFFFFFFFE else m.mr.at i := by
  have key : ∀ k ≤ 4, ((List.range k).foldl (invalidateWay s m ea) m.mr).at i =
      if tlbTagMatches s.cfg.xlen (m.mr.at i) ea = true ∧ i.toNat / 128 < k ∧
          i.toNat % 128 = (tlbSet m.cfg ea).toNat
      then m.mr.at i &&& 0xFFFFFFFE else m.mr.at i := by
    intro k
    induction k with
    | zero => simp
    | succ k ih =>
      intro hk
      rw [List.range_succ, List.foldl_append, List.foldl_cons, List.foldl_nil]
      generalize List.foldl (invalidateWay s m ea) m.mr (List.range k) = b at ih
      have hl := (tlbSet m.cfg ea).isLt
      have hi : i = tlbIndex (BitVec.ofNat 2 k) (tlbSet m.cfg ea) ↔
          i.toNat / 128 = k ∧ i.toNat % 128 = (tlbSet m.cfg ea).toNat := by
        rw [← BitVec.toNat_inj, tlbIndex_toNat, BitVec.toNat_ofNat, Nat.mod_eq_of_lt (a := k) (by omega)]; omega
      specialize ih (by omega)
      unfold invalidateWay
      by_cases h : i = tlbIndex (BitVec.ofNat 2 k) (tlbSet m.cfg ea)
      · have ⟨h1, h2⟩ := hi.1 h
        rw [if_neg (by omega)] at ih
        simp only [← h, ih]
        split <;> rename_i ht
        · rw [Bank.at_put_self, if_pos ⟨ht, by omega, h2⟩]
        · rw [ih, if_neg fun c => ht c.1]
      · have hn : ¬ (i.toNat / 128 = k ∧ i.toNat % 128 = (tlbSet m.cfg ea).toNat) := fun c => h (hi.2 c)
        have hb : ∀ v, (b.put (tlbIndex (BitVec.ofNat 2 k) (tlbSet m.cfg ea)) v).at i = b.at i :=
          fun v => Bank.at_put_ne _ _ h
        simp only [apply_ite (fun b : Bank 9 Word32 => b.at i), hb, ite_self, ih]
        congr 1
        simp only [eq_iff_iff]
        constructor <;> (rintro ⟨h1, h2, h3⟩; exact ⟨h1, by omega, h3⟩)
  have := m.cfg.ntw.isLt
  rw [invalidated, key _ (by omega)]
  simp only [Nat.lt_succ_iff]

end Sys2Proof.Machine
end

