-- ==== Sys2Proof/Laws/Exec.lean ====
section
/-! SUPPORT. Laws of `exec` as a whole, and of the ways an instruction completes. -/

namespace Sys2Proof.Machine

/-- Every instruction is its checks at issue and then its own effect. -/
theorem exec_issue (i : Instr) (s : State) : ∃ k, exec i s = issue i s k := by
  cases i <;> (simp only [exec,
    execLAdd, execLAddc, execLAddi, execLAddic, execLSub, execLMul, execLMuli, execLMulu, execLDiv, execLDivu, execLMac,
    execLMaci, execLMacu, execLMsb, execLMsbu, execLMacrc, execLMuld, execLMuldu, execLCmov, execLFf1, execLFl1,
    execLAnd, execLAndi, execLOr, execLOri, execLXor, execLXori, execLSll, execLSlli, execLSrl, execLSrli, execLSra,
    execLSrai, execLRor, execLRori, execLExtbs, execLExtbz, execLExths, execLExthz, execLExtws, execLExtwz, execLMovhi,
    execLSfeq, execLSfne, execLSfgtu, execLSfgeu, execLSfltu, execLSfleu, execLSfgts, execLSfges, execLSflts,
    execLSfles, execLSfeqi, execLSfnei, execLSfgtui, execLSfgeui, execLSfltui, execLSfleui, execLSfgtsi, execLSfgesi,
    execLSfltsi, execLSflesi, execLLbz, execLLbs, execLLhz, execLLhs, execLLwz, execLLws, execLLd, execLLwa, execLSb,
    execLSh, execLSw, execLSd, execLSwa, execLJ, execLJal, execLJr, execLJalr, execLBf, execLBnf, execLNop, execLSys,
    execLTrap, execLRfe, execLMtspr, execLMfspr, execLMsync, execLCsync, execLPsync, execLfAddS, execLfSubS, execLfMulS,
    execLfDivS, execLfRemS, execLfMaddS, execLfItofS, execLfFtoiS, execLfSfeqS, execLfSfneS, execLfSfgtS, execLfSfgeS,
    execLfSfltS, execLfSfleS, execLfCust1S, execLfAddD, execLfSubD, execLfMulD, execLfDivD, execLfRemD, execLfMaddD,
    execLfItofD, execLfFtoiD, execLfSfeqD, execLfSfneD, execLfSfgtD, execLfSfgeD, execLfSfltD, execLfSfleD,
    execLfCust1D, execLvAddB, execLvAddH, execLvAddsB, execLvAddsH, execLvAdduB, execLvAdduH, execLvAddusB,
    execLvAddusH, execLvAllEqB, execLvAllEqH, execLvAllGeB, execLvAllGeH, execLvAllGtB, execLvAllGtH, execLvAllLeB,
    execLvAllLeH, execLvAllLtB, execLvAllLtH, execLvAllNeB, execLvAllNeH, execLvAnyEqB, execLvAnyEqH, execLvAnyGeB,
    execLvAnyGeH, execLvAnyGtB, execLvAnyGtH, execLvAnyLeB, execLvAnyLeH, execLvAnyLtB, execLvAnyLtH, execLvAnyNeB,
    execLvAnyNeH, execLvAnd, execLvAvgB, execLvAvgH, execLvCmpEqB, execLvCmpEqH, execLvCmpGeB, execLvCmpGeH,
    execLvCmpGtB, execLvCmpGtH, execLvCmpLeB, execLvCmpLeH, execLvCmpLtB, execLvCmpLtH, execLvCmpNeB, execLvCmpNeH,
    execLvMaddsH, execLvMaxB, execLvMaxH, execLvMergeB, execLvMergeH, execLvMinB, execLvMinH, execLvMsubsH, execLvMulsH,
    execLvNand, execLvNor, execLvOr, execLvPackB, execLvPackH, execLvPacksB, execLvPacksH, execLvPackusB, execLvPackusH,
    execLvPermN, execLvRlB, execLvRlH, execLvSllB, execLvSllH, execLvSll, execLvSrlB, execLvSrlH, execLvSraB,
    execLvSraH, execLvSrl, execLvSubB, execLvSubH, execLvSubsB, execLvSubsH, execLvSubuB, execLvSubuH, execLvSubusB,
    execLvSubusH, execLvUnpackB, execLvUnpackH, execLvXor, execLvCust1, execLvCust2, execLvCust3, execLvCust4,
    execLCust1, execLCust2, execLCust3, execLCust4, execLCust5, execLCust6, execLCust7, execLCust8]; exact ⟨_, rfl⟩)

/-! ## Completing with a flag -/

/-- Writing SR[F] and completing: the flag, `pc`, and nothing else. -/
theorem State.writesFlag (s : State) (b : Bool) : WritesFlag s (s.setFlag b).advance b := by
  refine ⟨?_, ?_, ?_, ?_, fun a => by simp⟩
  · have := State.setFlag_flag s b
    simpa [State.flag] using this
  · simp only [SrOutside, State.advance_sr, State.setFlag]
    exact setBit_outside _ _ _ _ (by decide) (by decide)
  · simp [Completes]; rfl
  · exact (State.advance_seq _).trans (by simp only [State.advance_sr]; rfl)

/-- `WritesOnly` depends on the low XLEN bits of the value only. -/
theorem WritesOnly.congr {s t : State} {rd : Reg} {v w : Word} (h : WritesOnly s t rd v)
    (e : trunc s.cfg.xlen v = trunc s.cfg.xlen w) : WritesOnly s t rd w := by
  unfold WritesOnly WritesReg at *
  rw [← e]; exact h

/-- `WritesRegSr` depends on the low XLEN bits of the value only. -/
theorem WritesRegSr.congr {m : Word32} {s t : State} {rd : Reg} {v w : Word} (h : WritesRegSr m s t rd v)
    (e : trunc s.cfg.xlen v = trunc s.cfg.xlen w) : WritesRegSr m s t rd w := by
  unfold WritesRegSr WritesReg at *
  rw [← e]; exact h

/-- Writing a register, then SR, and completing: the register, SR, `pc`, and nothing else. -/
theorem State.writesRegSr (s : State) (rd : Reg) (v : Word) (w m : Word32) (hw : w &&& ~~~m = s.sr &&& ~~~m) :
    WritesRegSr m s ({ s.setGpr rd v with sr := w }).advance rd v := by
  refine ⟨⟨?_, ?_⟩, ?_, ?_, ?_, fun a => by simp⟩
  · rw [State.gprAt_congr (s := s.setGpr rd v) (by simp) (by simp), State.gprAt_setGpr, if_pos rfl]
  · intro j hj
    rw [State.gprAt_congr (s := s.setGpr rd v) (by simp) (by simp), State.gprAt_setGpr, if_neg hj]
  · simpa [SrOutside] using hw
  · simp [Completes]
  · refine (State.advance_seq _).trans ?_
    simp only [State.advance_sr, State.advance_gprs]
    unfold State.setGpr State.setGprAt
    split <;> rfl

/-- Bits other than the one set are as before. -/
theorem getLsbD_setBit_ne (w : Word32) {n k : Nat} (b : Bool) (hn : n < 32) (h : k ≠ n) :
    (setBit w n b).getLsbD k = w.getLsbD k := by
  rw [getLsbD_setBit w n k b hn, if_neg h]

end Sys2Proof.Machine
end

