-- ==== Sys2Proof/Laws/PerInstr.lean ====
section
/-! SUPPORT. Laws stated for all instructions, one lemma for each constructor of `Instr`. -/

/-- The encoding of an instruction fits its own row of the opcode table (30_encoding.md R300-R304). -/
def Sys2Proof.Laws.Fits.Statement (i : Sys2Proof.Instr) : Prop :=
  ∃ r, Sys2Proof.opcodeTable[Sys2Proof.Instr.row i]? = some r ∧ Sys2Proof.encode i &&& r.mask = r.pattern

namespace Sys2Proof.Laws

/-- A field outside the mask leaves the fixed bits as they are. -/
theorem fits_or {y x p m : Word32} (hy : y &&& m = p) (hx : x &&& m = 0) : (y ||| x) &&& m = p := by
  rw [BitVec.and_comm, BitVec.and_or_distrib_left, BitVec.and_comm m y, BitVec.and_comm m x, hy, hx]
  simp

theorem Fits.lAdd (rd : Reg) (ra : Reg) (rb : Reg) : Fits.Statement (.lAdd rd ra rb) :=
  ⟨_, rfl, fits_or (fits_or (fits_or (by decide) (bitsD_mask rd (by decide))) (bitsA_mask ra (by decide))) (bitsB_mask rb (by decide))⟩

theorem Fits.lAddc (rd : Reg) (ra : Reg) (rb : Reg) : Fits.Statement (.lAddc rd ra rb) :=
  ⟨_, rfl, fits_or (fits_or (fits_or (by decide) (bitsD_mask rd (by decide))) (bitsA_mask ra (by decide))) (bitsB_mask rb (by decide))⟩

theorem Fits.lAddi (rd : Reg) (ra : Reg) (i : BitVec 16) : Fits.Statement (.lAddi rd ra i) :=
  ⟨_, rfl, fits_or (fits_or (fits_or (by decide) (bitsD_mask rd (by decide))) (bitsA_mask ra (by decide))) (bitsI_mask i (by decide))⟩

theorem Fits.lAddic (rd : Reg) (ra : Reg) (i : BitVec 16) : Fits.Statement (.lAddic rd ra i) :=
  ⟨_, rfl, fits_or (fits_or (fits_or (by decide) (bitsD_mask rd (by decide))) (bitsA_mask ra (by decide))) (bitsI_mask i (by decide))⟩

theorem Fits.lSub (rd : Reg) (ra : Reg) (rb : Reg) : Fits.Statement (.lSub rd ra rb) :=
  ⟨_, rfl, fits_or (fits_or (fits_or (by decide) (bitsD_mask rd (by decide))) (bitsA_mask ra (by decide))) (bitsB_mask rb (by decide))⟩

theorem Fits.lMul (rd : Reg) (ra : Reg) (rb : Reg) : Fits.Statement (.lMul rd ra rb) :=
  ⟨_, rfl, fits_or (fits_or (fits_or (by decide) (bitsD_mask rd (by decide))) (bitsA_mask ra (by decide))) (bitsB_mask rb (by decide))⟩

theorem Fits.lMuli (rd : Reg) (ra : Reg) (i : BitVec 16) : Fits.Statement (.lMuli rd ra i) :=
  ⟨_, rfl, fits_or (fits_or (fits_or (by decide) (bitsD_mask rd (by decide))) (bitsA_mask ra (by decide))) (bitsI_mask i (by decide))⟩

theorem Fits.lMulu (rd : Reg) (ra : Reg) (rb : Reg) : Fits.Statement (.lMulu rd ra rb) :=
  ⟨_, rfl, fits_or (fits_or (fits_or (by decide) (bitsD_mask rd (by decide))) (bitsA_mask ra (by decide))) (bitsB_mask rb (by decide))⟩

theorem Fits.lDiv (rd : Reg) (ra : Reg) (rb : Reg) : Fits.Statement (.lDiv rd ra rb) :=
  ⟨_, rfl, fits_or (fits_or (fits_or (by decide) (bitsD_mask rd (by decide))) (bitsA_mask ra (by decide))) (bitsB_mask rb (by decide))⟩

theorem Fits.lDivu (rd : Reg) (ra : Reg) (rb : Reg) : Fits.Statement (.lDivu rd ra rb) :=
  ⟨_, rfl, fits_or (fits_or (fits_or (by decide) (bitsD_mask rd (by decide))) (bitsA_mask ra (by decide))) (bitsB_mask rb (by decide))⟩

theorem Fits.lMac (ra : Reg) (rb : Reg) : Fits.Statement (.lMac ra rb) :=
  ⟨_, rfl, fits_or (fits_or (by decide) (bitsA_mask ra (by decide))) (bitsB_mask rb (by decide))⟩

theorem Fits.lMaci (ra : Reg) (i : BitVec 16) : Fits.Statement (.lMaci ra i) :=
  ⟨_, rfl, fits_or (fits_or (by decide) (bitsA_mask ra (by decide))) (bitsI_mask i (by decide))⟩

theorem Fits.lMacu (ra : Reg) (rb : Reg) : Fits.Statement (.lMacu ra rb) :=
  ⟨_, rfl, fits_or (fits_or (by decide) (bitsA_mask ra (by decide))) (bitsB_mask rb (by decide))⟩

theorem Fits.lMsb (ra : Reg) (rb : Reg) : Fits.Statement (.lMsb ra rb) :=
  ⟨_, rfl, fits_or (fits_or (by decide) (bitsA_mask ra (by decide))) (bitsB_mask rb (by decide))⟩

theorem Fits.lMsbu (ra : Reg) (rb : Reg) : Fits.Statement (.lMsbu ra rb) :=
  ⟨_, rfl, fits_or (fits_or (by decide) (bitsA_mask ra (by decide))) (bitsB_mask rb (by decide))⟩

theorem Fits.lMacrc (rd : Reg) : Fits.Statement (.lMacrc rd) :=
  ⟨_, rfl, fits_or (by decide) (bitsD_mask rd (by decide))⟩

theorem Fits.lMuld (ra : Reg) (rb : Reg) : Fits.Statement (.lMuld ra rb) :=
  ⟨_, rfl, fits_or (fits_or (by decide) (bitsA_mask ra (by decide))) (bitsB_mask rb (by decide))⟩

theorem Fits.lMuldu (ra : Reg) (rb : Reg) : Fits.Statement (.lMuldu ra rb) :=
  ⟨_, rfl, fits_or (fits_or (by decide) (bitsA_mask ra (by decide))) (bitsB_mask rb (by decide))⟩

theorem Fits.lCmov (rd : Reg) (ra : Reg) (rb : Reg) : Fits.Statement (.lCmov rd ra rb) :=
  ⟨_, rfl, fits_or (fits_or (fits_or (by decide) (bitsD_mask rd (by decide))) (bitsA_mask ra (by decide))) (bitsB_mask rb (by decide))⟩

theorem Fits.lFf1 (rd : Reg) (ra : Reg) : Fits.Statement (.lFf1 rd ra) :=
  ⟨_, rfl, fits_or (fits_or (by decide) (bitsD_mask rd (by decide))) (bitsA_mask ra (by decide))⟩

theorem Fits.lFl1 (rd : Reg) (ra : Reg) : Fits.Statement (.lFl1 rd ra) :=
  ⟨_, rfl, fits_or (fits_or (by decide) (bitsD_mask rd (by decide))) (bitsA_mask ra (by decide))⟩

theorem Fits.lAnd (rd : Reg) (ra : Reg) (rb : Reg) : Fits.Statement (.lAnd rd ra rb) :=
  ⟨_, rfl, fits_or (fits_or (fits_or (by decide) (bitsD_mask rd (by decide))) (bitsA_mask ra (by decide))) (bitsB_mask rb (by decide))⟩

theorem Fits.lAndi (rd : Reg) (ra : Reg) (k : BitVec 16) : Fits.Statement (.lAndi rd ra k) :=
  ⟨_, rfl, fits_or (fits_or (fits_or (by decide) (bitsD_mask rd (by decide))) (bitsA_mask ra (by decide))) (bitsI_mask k (by decide))⟩

theorem Fits.lOr (rd : Reg) (ra : Reg) (rb : Reg) : Fits.Statement (.lOr rd ra rb) :=
  ⟨_, rfl, fits_or (fits_or (fits_or (by decide) (bitsD_mask rd (by decide))) (bitsA_mask ra (by decide))) (bitsB_mask rb (by decide))⟩

theorem Fits.lOri (rd : Reg) (ra : Reg) (k : BitVec 16) : Fits.Statement (.lOri rd ra k) :=
  ⟨_, rfl, fits_or (fits_or (fits_or (by decide) (bitsD_mask rd (by decide))) (bitsA_mask ra (by decide))) (bitsI_mask k (by decide))⟩

theorem Fits.lXor (rd : Reg) (ra : Reg) (rb : Reg) : Fits.Statement (.lXor rd ra rb) :=
  ⟨_, rfl, fits_or (fits_or (fits_or (by decide) (bitsD_mask rd (by decide))) (bitsA_mask ra (by decide))) (bitsB_mask rb (by decide))⟩

theorem Fits.lXori (rd : Reg) (ra : Reg) (i : BitVec 16) : Fits.Statement (.lXori rd ra i) :=
  ⟨_, rfl, fits_or (fits_or (fits_or (by decide) (bitsD_mask rd (by decide))) (bitsA_mask ra (by decide))) (bitsI_mask i (by decide))⟩

theorem Fits.lSll (rd : Reg) (ra : Reg) (rb : Reg) : Fits.Statement (.lSll rd ra rb) :=
  ⟨_, rfl, fits_or (fits_or (fits_or (by decide) (bitsD_mask rd (by decide))) (bitsA_mask ra (by decide))) (bitsB_mask rb (by decide))⟩

theorem Fits.lSlli (rd : Reg) (ra : Reg) (l : BitVec 6) : Fits.Statement (.lSlli rd ra l) :=
  ⟨_, rfl, fits_or (fits_or (fits_or (by decide) (bitsD_mask rd (by decide))) (bitsA_mask ra (by decide))) (bitsL_mask l (by decide))⟩

theorem Fits.lSrl (rd : Reg) (ra : Reg) (rb : Reg) : Fits.Statement (.lSrl rd ra rb) :=
  ⟨_, rfl, fits_or (fits_or (fits_or (by decide) (bitsD_mask rd (by decide))) (bitsA_mask ra (by decide))) (bitsB_mask rb (by decide))⟩

theorem Fits.lSrli (rd : Reg) (ra : Reg) (l : BitVec 6) : Fits.Statement (.lSrli rd ra l) :=
  ⟨_, rfl, fits_or (fits_or (fits_or (by decide) (bitsD_mask rd (by decide))) (bitsA_mask ra (by decide))) (bitsL_mask l (by decide))⟩

theorem Fits.lSra (rd : Reg) (ra : Reg) (rb : Reg) : Fits.Statement (.lSra rd ra rb) :=
  ⟨_, rfl, fits_or (fits_or (fits_or (by decide) (bitsD_mask rd (by decide))) (bitsA_mask ra (by decide))) (bitsB_mask rb (by decide))⟩

theorem Fits.lSrai (rd : Reg) (ra : Reg) (l : BitVec 6) : Fits.Statement (.lSrai rd ra l) :=
  ⟨_, rfl, fits_or (fits_or (fits_or (by decide) (bitsD_mask rd (by decide))) (bitsA_mask ra (by decide))) (bitsL_mask l (by decide))⟩

theorem Fits.lRor (rd : Reg) (ra : Reg) (rb : Reg) : Fits.Statement (.lRor rd ra rb) :=
  ⟨_, rfl, fits_or (fits_or (fits_or (by decide) (bitsD_mask rd (by decide))) (bitsA_mask ra (by decide))) (bitsB_mask rb (by decide))⟩

theorem Fits.lRori (rd : Reg) (ra : Reg) (l : BitVec 6) : Fits.Statement (.lRori rd ra l) :=
  ⟨_, rfl, fits_or (fits_or (fits_or (by decide) (bitsD_mask rd (by decide))) (bitsA_mask ra (by decide))) (bitsL_mask l (by decide))⟩

theorem Fits.lExtbs (rd : Reg) (ra : Reg) : Fits.Statement (.lExtbs rd ra) :=
  ⟨_, rfl, fits_or (fits_or (by decide) (bitsD_mask rd (by decide))) (bitsA_mask ra (by decide))⟩

theorem Fits.lExtbz (rd : Reg) (ra : Reg) : Fits.Statement (.lExtbz rd ra) :=
  ⟨_, rfl, fits_or (fits_or (by decide) (bitsD_mask rd (by decide))) (bitsA_mask ra (by decide))⟩

theorem Fits.lExths (rd : Reg) (ra : Reg) : Fits.Statement (.lExths rd ra) :=
  ⟨_, rfl, fits_or (fits_or (by decide) (bitsD_mask rd (by decide))) (bitsA_mask ra (by decide))⟩

theorem Fits.lExthz (rd : Reg) (ra : Reg) : Fits.Statement (.lExthz rd ra) :=
  ⟨_, rfl, fits_or (fits_or (by decide) (bitsD_mask rd (by decide))) (bitsA_mask ra (by decide))⟩

theorem Fits.lExtws (rd : Reg) (ra : Reg) : Fits.Statement (.lExtws rd ra) :=
  ⟨_, rfl, fits_or (fits_or (by decide) (bitsD_mask rd (by decide))) (bitsA_mask ra (by decide))⟩

theorem Fits.lExtwz (rd : Reg) (ra : Reg) : Fits.Statement (.lExtwz rd ra) :=
  ⟨_, rfl, fits_or (fits_or (by decide) (bitsD_mask rd (by decide))) (bitsA_mask ra (by decide))⟩

theorem Fits.lMovhi (rd : Reg) (k : BitVec 16) : Fits.Statement (.lMovhi rd k) :=
  ⟨_, rfl, fits_or (fits_or (by decide) (bitsD_mask rd (by decide))) (bitsI_mask k (by decide))⟩

theorem Fits.lSfeq (ra : Reg) (rb : Reg) : Fits.Statement (.lSfeq ra rb) :=
  ⟨_, rfl, fits_or (fits_or (by decide) (bitsA_mask ra (by decide))) (bitsB_mask rb (by decide))⟩

theorem Fits.lSfne (ra : Reg) (rb : Reg) : Fits.Statement (.lSfne ra rb) :=
  ⟨_, rfl, fits_or (fits_or (by decide) (bitsA_mask ra (by decide))) (bitsB_mask rb (by decide))⟩

theorem Fits.lSfgtu (ra : Reg) (rb : Reg) : Fits.Statement (.lSfgtu ra rb) :=
  ⟨_, rfl, fits_or (fits_or (by decide) (bitsA_mask ra (by decide))) (bitsB_mask rb (by decide))⟩

theorem Fits.lSfgeu (ra : Reg) (rb : Reg) : Fits.Statement (.lSfgeu ra rb) :=
  ⟨_, rfl, fits_or (fits_or (by decide) (bitsA_mask ra (by decide))) (bitsB_mask rb (by decide))⟩

theorem Fits.lSfltu (ra : Reg) (rb : Reg) : Fits.Statement (.lSfltu ra rb) :=
  ⟨_, rfl, fits_or (fits_or (by decide) (bitsA_mask ra (by decide))) (bitsB_mask rb (by decide))⟩

theorem Fits.lSfleu (ra : Reg) (rb : Reg) : Fits.Statement (.lSfleu ra rb) :=
  ⟨_, rfl, fits_or (fits_or (by decide) (bitsA_mask ra (by decide))) (bitsB_mask rb (by decide))⟩

theorem Fits.lSfgts (ra : Reg) (rb : Reg) : Fits.Statement (.lSfgts ra rb) :=
  ⟨_, rfl, fits_or (fits_or (by decide) (bitsA_mask ra (by decide))) (bitsB_mask rb (by decide))⟩

theorem Fits.lSfges (ra : Reg) (rb : Reg) : Fits.Statement (.lSfges ra rb) :=
  ⟨_, rfl, fits_or (fits_or (by decide) (bitsA_mask ra (by decide))) (bitsB_mask rb (by decide))⟩

theorem Fits.lSflts (ra : Reg) (rb : Reg) : Fits.Statement (.lSflts ra rb) :=
  ⟨_, rfl, fits_or (fits_or (by decide) (bitsA_mask ra (by decide))) (bitsB_mask rb (by decide))⟩

theorem Fits.lSfles (ra : Reg) (rb : Reg) : Fits.Statement (.lSfles ra rb) :=
  ⟨_, rfl, fits_or (fits_or (by decide) (bitsA_mask ra (by decide))) (bitsB_mask rb (by decide))⟩

theorem Fits.lSfeqi (ra : Reg) (i : BitVec 16) : Fits.Statement (.lSfeqi ra i) :=
  ⟨_, rfl, fits_or (fits_or (by decide) (bitsA_mask ra (by decide))) (bitsI_mask i (by decide))⟩

theorem Fits.lSfnei (ra : Reg) (i : BitVec 16) : Fits.Statement (.lSfnei ra i) :=
  ⟨_, rfl, fits_or (fits_or (by decide) (bitsA_mask ra (by decide))) (bitsI_mask i (by decide))⟩

theorem Fits.lSfgtui (ra : Reg) (i : BitVec 16) : Fits.Statement (.lSfgtui ra i) :=
  ⟨_, rfl, fits_or (fits_or (by decide) (bitsA_mask ra (by decide))) (bitsI_mask i (by decide))⟩

theorem Fits.lSfgeui (ra : Reg) (i : BitVec 16) : Fits.Statement (.lSfgeui ra i) :=
  ⟨_, rfl, fits_or (fits_or (by decide) (bitsA_mask ra (by decide))) (bitsI_mask i (by decide))⟩

theorem Fits.lSfltui (ra : Reg) (i : BitVec 16) : Fits.Statement (.lSfltui ra i) :=
  ⟨_, rfl, fits_or (fits_or (by decide) (bitsA_mask ra (by decide))) (bitsI_mask i (by decide))⟩

theorem Fits.lSfleui (ra : Reg) (i : BitVec 16) : Fits.Statement (.lSfleui ra i) :=
  ⟨_, rfl, fits_or (fits_or (by decide) (bitsA_mask ra (by decide))) (bitsI_mask i (by decide))⟩

theorem Fits.lSfgtsi (ra : Reg) (i : BitVec 16) : Fits.Statement (.lSfgtsi ra i) :=
  ⟨_, rfl, fits_or (fits_or (by decide) (bitsA_mask ra (by decide))) (bitsI_mask i (by decide))⟩

theorem Fits.lSfgesi (ra : Reg) (i : BitVec 16) : Fits.Statement (.lSfgesi ra i) :=
  ⟨_, rfl, fits_or (fits_or (by decide) (bitsA_mask ra (by decide))) (bitsI_mask i (by decide))⟩

theorem Fits.lSfltsi (ra : Reg) (i : BitVec 16) : Fits.Statement (.lSfltsi ra i) :=
  ⟨_, rfl, fits_or (fits_or (by decide) (bitsA_mask ra (by decide))) (bitsI_mask i (by decide))⟩

theorem Fits.lSflesi (ra : Reg) (i : BitVec 16) : Fits.Statement (.lSflesi ra i) :=
  ⟨_, rfl, fits_or (fits_or (by decide) (bitsA_mask ra (by decide))) (bitsI_mask i (by decide))⟩

theorem Fits.lLbz (rd : Reg) (ra : Reg) (i : BitVec 16) : Fits.Statement (.lLbz rd ra i) :=
  ⟨_, rfl, fits_or (fits_or (fits_or (by decide) (bitsD_mask rd (by decide))) (bitsA_mask ra (by decide))) (bitsI_mask i (by decide))⟩

theorem Fits.lLbs (rd : Reg) (ra : Reg) (i : BitVec 16) : Fits.Statement (.lLbs rd ra i) :=
  ⟨_, rfl, fits_or (fits_or (fits_or (by decide) (bitsD_mask rd (by decide))) (bitsA_mask ra (by decide))) (bitsI_mask i (by decide))⟩

theorem Fits.lLhz (rd : Reg) (ra : Reg) (i : BitVec 16) : Fits.Statement (.lLhz rd ra i) :=
  ⟨_, rfl, fits_or (fits_or (fits_or (by decide) (bitsD_mask rd (by decide))) (bitsA_mask ra (by decide))) (bitsI_mask i (by decide))⟩

theorem Fits.lLhs (rd : Reg) (ra : Reg) (i : BitVec 16) : Fits.Statement (.lLhs rd ra i) :=
  ⟨_, rfl, fits_or (fits_or (fits_or (by decide) (bitsD_mask rd (by decide))) (bitsA_mask ra (by decide))) (bitsI_mask i (by decide))⟩

theorem Fits.lLwz (rd : Reg) (ra : Reg) (i : BitVec 16) : Fits.Statement (.lLwz rd ra i) :=
  ⟨_, rfl, fits_or (fits_or (fits_or (by decide) (bitsD_mask rd (by decide))) (bitsA_mask ra (by decide))) (bitsI_mask i (by decide))⟩

theorem Fits.lLws (rd : Reg) (ra : Reg) (i : BitVec 16) : Fits.Statement (.lLws rd ra i) :=
  ⟨_, rfl, fits_or (fits_or (fits_or (by decide) (bitsD_mask rd (by decide))) (bitsA_mask ra (by decide))) (bitsI_mask i (by decide))⟩

theorem Fits.lLd (rd : Reg) (ra : Reg) (i : BitVec 16) : Fits.Statement (.lLd rd ra i) :=
  ⟨_, rfl, fits_or (fits_or (fits_or (by decide) (bitsD_mask rd (by decide))) (bitsA_mask ra (by decide))) (bitsI_mask i (by decide))⟩

theorem Fits.lLwa (rd : Reg) (ra : Reg) (i : BitVec 16) : Fits.Statement (.lLwa rd ra i) :=
  ⟨_, rfl, fits_or (fits_or (fits_or (by decide) (bitsD_mask rd (by decide))) (bitsA_mask ra (by decide))) (bitsI_mask i (by decide))⟩

theorem Fits.lSb (ra : Reg) (rb : Reg) (i : BitVec 16) : Fits.Statement (.lSb ra rb i) :=
  ⟨_, rfl, fits_or (fits_or (fits_or (by decide) (bitsA_mask ra (by decide))) (bitsB_mask rb (by decide))) (bitsS_mask i (by decide))⟩

theorem Fits.lSh (ra : Reg) (rb : Reg) (i : BitVec 16) : Fits.Statement (.lSh ra rb i) :=
  ⟨_, rfl, fits_or (fits_or (fits_or (by decide) (bitsA_mask ra (by decide))) (bitsB_mask rb (by decide))) (bitsS_mask i (by decide))⟩

theorem Fits.lSw (ra : Reg) (rb : Reg) (i : BitVec 16) : Fits.Statement (.lSw ra rb i) :=
  ⟨_, rfl, fits_or (fits_or (fits_or (by decide) (bitsA_mask ra (by decide))) (bitsB_mask rb (by decide))) (bitsS_mask i (by decide))⟩

theorem Fits.lSd (ra : Reg) (rb : Reg) (i : BitVec 16) : Fits.Statement (.lSd ra rb i) :=
  ⟨_, rfl, fits_or (fits_or (fits_or (by decide) (bitsA_mask ra (by decide))) (bitsB_mask rb (by decide))) (bitsS_mask i (by decide))⟩

theorem Fits.lSwa (ra : Reg) (rb : Reg) (i : BitVec 16) : Fits.Statement (.lSwa ra rb i) :=
  ⟨_, rfl, fits_or (fits_or (fits_or (by decide) (bitsA_mask ra (by decide))) (bitsB_mask rb (by decide))) (bitsS_mask i (by decide))⟩

theorem Fits.lJ (n : BitVec 26) : Fits.Statement (.lJ n) :=
  ⟨_, rfl, fits_or (by decide) (bitsN_mask n (by decide))⟩

theorem Fits.lJal (n : BitVec 26) : Fits.Statement (.lJal n) :=
  ⟨_, rfl, fits_or (by decide) (bitsN_mask n (by decide))⟩

theorem Fits.lJr (rb : Reg) : Fits.Statement (.lJr rb) :=
  ⟨_, rfl, fits_or (by decide) (bitsB_mask rb (by decide))⟩

theorem Fits.lJalr (rb : Reg) : Fits.Statement (.lJalr rb) :=
  ⟨_, rfl, fits_or (by decide) (bitsB_mask rb (by decide))⟩

theorem Fits.lBf (n : BitVec 26) : Fits.Statement (.lBf n) :=
  ⟨_, rfl, fits_or (by decide) (bitsN_mask n (by decide))⟩

theorem Fits.lBnf (n : BitVec 26) : Fits.Statement (.lBnf n) :=
  ⟨_, rfl, fits_or (by decide) (bitsN_mask n (by decide))⟩

theorem Fits.lNop (k : BitVec 16) : Fits.Statement (.lNop k) :=
  ⟨_, rfl, fits_or (by decide) (bitsI_mask k (by decide))⟩

theorem Fits.lSys (k : BitVec 16) : Fits.Statement (.lSys k) :=
  ⟨_, rfl, fits_or (by decide) (bitsI_mask k (by decide))⟩

theorem Fits.lTrap (k : BitVec 16) : Fits.Statement (.lTrap k) :=
  ⟨_, rfl, fits_or (by decide) (bitsI_mask k (by decide))⟩

theorem Fits.lRfe : Fits.Statement .lRfe :=
  ⟨_, rfl, by decide⟩

theorem Fits.lMtspr (ra : Reg) (rb : Reg) (k : BitVec 16) : Fits.Statement (.lMtspr ra rb k) :=
  ⟨_, rfl, fits_or (fits_or (fits_or (by decide) (bitsA_mask ra (by decide))) (bitsB_mask rb (by decide))) (bitsS_mask k (by decide))⟩

theorem Fits.lMfspr (rd : Reg) (ra : Reg) (k : BitVec 16) : Fits.Statement (.lMfspr rd ra k) :=
  ⟨_, rfl, fits_or (fits_or (fits_or (by decide) (bitsD_mask rd (by decide))) (bitsA_mask ra (by decide))) (bitsI_mask k (by decide))⟩

theorem Fits.lMsync : Fits.Statement .lMsync :=
  ⟨_, rfl, by decide⟩

theorem Fits.lCsync : Fits.Statement .lCsync :=
  ⟨_, rfl, by decide⟩

theorem Fits.lPsync : Fits.Statement .lPsync :=
  ⟨_, rfl, by decide⟩

theorem Fits.lfAddS (rd : Reg) (ra : Reg) (rb : Reg) : Fits.Statement (.lfAddS rd ra rb) :=
  ⟨_, rfl, fits_or (fits_or (fits_or (by decide) (bitsD_mask rd (by decide))) (bitsA_mask ra (by decide))) (bitsB_mask rb (by decide))⟩

theorem Fits.lfSubS (rd : Reg) (ra : Reg) (rb : Reg) : Fits.Statement (.lfSubS rd ra rb) :=
  ⟨_, rfl, fits_or (fits_or (fits_or (by decide) (bitsD_mask rd (by decide))) (bitsA_mask ra (by decide))) (bitsB_mask rb (by decide))⟩

theorem Fits.lfMulS (rd : Reg) (ra : Reg) (rb : Reg) : Fits.Statement (.lfMulS rd ra rb) :=
  ⟨_, rfl, fits_or (fits_or (fits_or (by decide) (bitsD_mask rd (by decide))) (bitsA_mask ra (by decide))) (bitsB_mask rb (by decide))⟩

theorem Fits.lfDivS (rd : Reg) (ra : Reg) (rb : Reg) : Fits.Statement (.lfDivS rd ra rb) :=
  ⟨_, rfl, fits_or (fits_or (fits_or (by decide) (bitsD_mask rd (by decide))) (bitsA_mask ra (by decide))) (bitsB_mask rb (by decide))⟩

theorem Fits.lfRemS (rd : Reg) (ra : Reg) (rb : Reg) : Fits.Statement (.lfRemS rd ra rb) :=
  ⟨_, rfl, fits_or (fits_or (fits_or (by decide) (bitsD_mask rd (by decide))) (bitsA_mask ra (by decide))) (bitsB_mask rb (by decide))⟩

theorem Fits.lfMaddS (rd : Reg) (ra : Reg) (rb : Reg) : Fits.Statement (.lfMaddS rd ra rb) :=
  ⟨_, rfl, fits_or (fits_or (fits_or (by decide) (bitsD_mask rd (by decide))) (bitsA_mask ra (by decide))) (bitsB_mask rb (by decide))⟩

theorem Fits.lfItofS (rd : Reg) (ra : Reg) : Fits.Statement (.lfItofS rd ra) :=
  ⟨_, rfl, fits_or (fits_or (by decide) (bitsD_mask rd (by decide))) (bitsA_mask ra (by decide))⟩

theorem Fits.lfFtoiS (rd : Reg) (ra : Reg) : Fits.Statement (.lfFtoiS rd ra) :=
  ⟨_, rfl, fits_or (fits_or (by decide) (bitsD_mask rd (by decide))) (bitsA_mask ra (by decide))⟩

theorem Fits.lfSfeqS (ra : Reg) (rb : Reg) : Fits.Statement (.lfSfeqS ra rb) :=
  ⟨_, rfl, fits_or (fits_or (by decide) (bitsA_mask ra (by decide))) (bitsB_mask rb (by decide))⟩

theorem Fits.lfSfneS (ra : Reg) (rb : Reg) : Fits.Statement (.lfSfneS ra rb) :=
  ⟨_, rfl, fits_or (fits_or (by decide) (bitsA_mask ra (by decide))) (bitsB_mask rb (by decide))⟩

theorem Fits.lfSfgtS (ra : Reg) (rb : Reg) : Fits.Statement (.lfSfgtS ra rb) :=
  ⟨_, rfl, fits_or (fits_or (by decide) (bitsA_mask ra (by decide))) (bitsB_mask rb (by decide))⟩

theorem Fits.lfSfgeS (ra : Reg) (rb : Reg) : Fits.Statement (.lfSfgeS ra rb) :=
  ⟨_, rfl, fits_or (fits_or (by decide) (bitsA_mask ra (by decide))) (bitsB_mask rb (by decide))⟩

theorem Fits.lfSfltS (ra : Reg) (rb : Reg) : Fits.Statement (.lfSfltS ra rb) :=
  ⟨_, rfl, fits_or (fits_or (by decide) (bitsA_mask ra (by decide))) (bitsB_mask rb (by decide))⟩

theorem Fits.lfSfleS (ra : Reg) (rb : Reg) : Fits.Statement (.lfSfleS ra rb) :=
  ⟨_, rfl, fits_or (fits_or (by decide) (bitsA_mask ra (by decide))) (bitsB_mask rb (by decide))⟩

theorem Fits.lfCust1S (ra : Reg) (rb : Reg) : Fits.Statement (.lfCust1S ra rb) :=
  ⟨_, rfl, fits_or (fits_or (by decide) (bitsA_mask ra (by decide))) (bitsB_mask rb (by decide))⟩

theorem Fits.lfAddD (rd : Reg) (ra : Reg) (rb : Reg) : Fits.Statement (.lfAddD rd ra rb) :=
  ⟨_, rfl, fits_or (fits_or (fits_or (by decide) (bitsD_mask rd (by decide))) (bitsA_mask ra (by decide))) (bitsB_mask rb (by decide))⟩

theorem Fits.lfSubD (rd : Reg) (ra : Reg) (rb : Reg) : Fits.Statement (.lfSubD rd ra rb) :=
  ⟨_, rfl, fits_or (fits_or (fits_or (by decide) (bitsD_mask rd (by decide))) (bitsA_mask ra (by decide))) (bitsB_mask rb (by decide))⟩

theorem Fits.lfMulD (rd : Reg) (ra : Reg) (rb : Reg) : Fits.Statement (.lfMulD rd ra rb) :=
  ⟨_, rfl, fits_or (fits_or (fits_or (by decide) (bitsD_mask rd (by decide))) (bitsA_mask ra (by decide))) (bitsB_mask rb (by decide))⟩

theorem Fits.lfDivD (rd : Reg) (ra : Reg) (rb : Reg) : Fits.Statement (.lfDivD rd ra rb) :=
  ⟨_, rfl, fits_or (fits_or (fits_or (by decide) (bitsD_mask rd (by decide))) (bitsA_mask ra (by decide))) (bitsB_mask rb (by decide))⟩

theorem Fits.lfRemD (rd : Reg) (ra : Reg) (rb : Reg) : Fits.Statement (.lfRemD rd ra rb) :=
  ⟨_, rfl, fits_or (fits_or (fits_or (by decide) (bitsD_mask rd (by decide))) (bitsA_mask ra (by decide))) (bitsB_mask rb (by decide))⟩

theorem Fits.lfMaddD (rd : Reg) (ra : Reg) (rb : Reg) : Fits.Statement (.lfMaddD rd ra rb) :=
  ⟨_, rfl, fits_or (fits_or (fits_or (by decide) (bitsD_mask rd (by decide))) (bitsA_mask ra (by decide))) (bitsB_mask rb (by decide))⟩

theorem Fits.lfItofD (rd : Reg) (ra : Reg) : Fits.Statement (.lfItofD rd ra) :=
  ⟨_, rfl, fits_or (fits_or (by decide) (bitsD_mask rd (by decide))) (bitsA_mask ra (by decide))⟩

theorem Fits.lfFtoiD (rd : Reg) (ra : Reg) : Fits.Statement (.lfFtoiD rd ra) :=
  ⟨_, rfl, fits_or (fits_or (by decide) (bitsD_mask rd (by decide))) (bitsA_mask ra (by decide))⟩

theorem Fits.lfSfeqD (ra : Reg) (rb : Reg) : Fits.Statement (.lfSfeqD ra rb) :=
  ⟨_, rfl, fits_or (fits_or (by decide) (bitsA_mask ra (by decide))) (bitsB_mask rb (by decide))⟩

theorem Fits.lfSfneD (ra : Reg) (rb : Reg) : Fits.Statement (.lfSfneD ra rb) :=
  ⟨_, rfl, fits_or (fits_or (by decide) (bitsA_mask ra (by decide))) (bitsB_mask rb (by decide))⟩

theorem Fits.lfSfgtD (ra : Reg) (rb : Reg) : Fits.Statement (.lfSfgtD ra rb) :=
  ⟨_, rfl, fits_or (fits_or (by decide) (bitsA_mask ra (by decide))) (bitsB_mask rb (by decide))⟩

theorem Fits.lfSfgeD (ra : Reg) (rb : Reg) : Fits.Statement (.lfSfgeD ra rb) :=
  ⟨_, rfl, fits_or (fits_or (by decide) (bitsA_mask ra (by decide))) (bitsB_mask rb (by decide))⟩

theorem Fits.lfSfltD (ra : Reg) (rb : Reg) : Fits.Statement (.lfSfltD ra rb) :=
  ⟨_, rfl, fits_or (fits_or (by decide) (bitsA_mask ra (by decide))) (bitsB_mask rb (by decide))⟩

theorem Fits.lfSfleD (ra : Reg) (rb : Reg) : Fits.Statement (.lfSfleD ra rb) :=
  ⟨_, rfl, fits_or (fits_or (by decide) (bitsA_mask ra (by decide))) (bitsB_mask rb (by decide))⟩

theorem Fits.lfCust1D (ra : Reg) (rb : Reg) : Fits.Statement (.lfCust1D ra rb) :=
  ⟨_, rfl, fits_or (fits_or (by decide) (bitsA_mask ra (by decide))) (bitsB_mask rb (by decide))⟩

theorem Fits.lvAddB (rd : Reg) (ra : Reg) (rb : Reg) : Fits.Statement (.lvAddB rd ra rb) :=
  ⟨_, rfl, fits_or (fits_or (fits_or (by decide) (bitsD_mask rd (by decide))) (bitsA_mask ra (by decide))) (bitsB_mask rb (by decide))⟩

theorem Fits.lvAddH (rd : Reg) (ra : Reg) (rb : Reg) : Fits.Statement (.lvAddH rd ra rb) :=
  ⟨_, rfl, fits_or (fits_or (fits_or (by decide) (bitsD_mask rd (by decide))) (bitsA_mask ra (by decide))) (bitsB_mask rb (by decide))⟩

theorem Fits.lvAddsB (rd : Reg) (ra : Reg) (rb : Reg) : Fits.Statement (.lvAddsB rd ra rb) :=
  ⟨_, rfl, fits_or (fits_or (fits_or (by decide) (bitsD_mask rd (by decide))) (bitsA_mask ra (by decide))) (bitsB_mask rb (by decide))⟩

theorem Fits.lvAddsH (rd : Reg) (ra : Reg) (rb : Reg) : Fits.Statement (.lvAddsH rd ra rb) :=
  ⟨_, rfl, fits_or (fits_or (fits_or (by decide) (bitsD_mask rd (by decide))) (bitsA_mask ra (by decide))) (bitsB_mask rb (by decide))⟩

theorem Fits.lvAdduB (rd : Reg) (ra : Reg) (rb : Reg) : Fits.Statement (.lvAdduB rd ra rb) :=
  ⟨_, rfl, fits_or (fits_or (fits_or (by decide) (bitsD_mask rd (by decide))) (bitsA_mask ra (by decide))) (bitsB_mask rb (by decide))⟩

theorem Fits.lvAdduH (rd : Reg) (ra : Reg) (rb : Reg) : Fits.Statement (.lvAdduH rd ra rb) :=
  ⟨_, rfl, fits_or (fits_or (fits_or (by decide) (bitsD_mask rd (by decide))) (bitsA_mask ra (by decide))) (bitsB_mask rb (by decide))⟩

theorem Fits.lvAddusB (rd : Reg) (ra : Reg) (rb : Reg) : Fits.Statement (.lvAddusB rd ra rb) :=
  ⟨_, rfl, fits_or (fits_or (fits_or (by decide) (bitsD_mask rd (by decide))) (bitsA_mask ra (by decide))) (bitsB_mask rb (by decide))⟩

theorem Fits.lvAddusH (rd : Reg) (ra : Reg) (rb : Reg) : Fits.Statement (.lvAddusH rd ra rb) :=
  ⟨_, rfl, fits_or (fits_or (fits_or (by decide) (bitsD_mask rd (by decide))) (bitsA_mask ra (by decide))) (bitsB_mask rb (by decide))⟩

theorem Fits.lvAllEqB (rd : Reg) (ra : Reg) (rb : Reg) : Fits.Statement (.lvAllEqB rd ra rb) :=
  ⟨_, rfl, fits_or (fits_or (fits_or (by decide) (bitsD_mask rd (by decide))) (bitsA_mask ra (by decide))) (bitsB_mask rb (by decide))⟩

theorem Fits.lvAllEqH (rd : Reg) (ra : Reg) (rb : Reg) : Fits.Statement (.lvAllEqH rd ra rb) :=
  ⟨_, rfl, fits_or (fits_or (fits_or (by decide) (bitsD_mask rd (by decide))) (bitsA_mask ra (by decide))) (bitsB_mask rb (by decide))⟩

theorem Fits.lvAllGeB (rd : Reg) (ra : Reg) (rb : Reg) : Fits.Statement (.lvAllGeB rd ra rb) :=
  ⟨_, rfl, fits_or (fits_or (fits_or (by decide) (bitsD_mask rd (by decide))) (bitsA_mask ra (by decide))) (bitsB_mask rb (by decide))⟩

theorem Fits.lvAllGeH (rd : Reg) (ra : Reg) (rb : Reg) : Fits.Statement (.lvAllGeH rd ra rb) :=
  ⟨_, rfl, fits_or (fits_or (fits_or (by decide) (bitsD_mask rd (by decide))) (bitsA_mask ra (by decide))) (bitsB_mask rb (by decide))⟩

theorem Fits.lvAllGtB (rd : Reg) (ra : Reg) (rb : Reg) : Fits.Statement (.lvAllGtB rd ra rb) :=
  ⟨_, rfl, fits_or (fits_or (fits_or (by decide) (bitsD_mask rd (by decide))) (bitsA_mask ra (by decide))) (bitsB_mask rb (by decide))⟩

theorem Fits.lvAllGtH (rd : Reg) (ra : Reg) (rb : Reg) : Fits.Statement (.lvAllGtH rd ra rb) :=
  ⟨_, rfl, fits_or (fits_or (fits_or (by decide) (bitsD_mask rd (by decide))) (bitsA_mask ra (by decide))) (bitsB_mask rb (by decide))⟩

theorem Fits.lvAllLeB (rd : Reg) (ra : Reg) (rb : Reg) : Fits.Statement (.lvAllLeB rd ra rb) :=
  ⟨_, rfl, fits_or (fits_or (fits_or (by decide) (bitsD_mask rd (by decide))) (bitsA_mask ra (by decide))) (bitsB_mask rb (by decide))⟩

theorem Fits.lvAllLeH (rd : Reg) (ra : Reg) (rb : Reg) : Fits.Statement (.lvAllLeH rd ra rb) :=
  ⟨_, rfl, fits_or (fits_or (fits_or (by decide) (bitsD_mask rd (by decide))) (bitsA_mask ra (by decide))) (bitsB_mask rb (by decide))⟩

theorem Fits.lvAllLtB (rd : Reg) (ra : Reg) (rb : Reg) : Fits.Statement (.lvAllLtB rd ra rb) :=
  ⟨_, rfl, fits_or (fits_or (fits_or (by decide) (bitsD_mask rd (by decide))) (bitsA_mask ra (by decide))) (bitsB_mask rb (by decide))⟩

theorem Fits.lvAllLtH (rd : Reg) (ra : Reg) (rb : Reg) : Fits.Statement (.lvAllLtH rd ra rb) :=
  ⟨_, rfl, fits_or (fits_or (fits_or (by decide) (bitsD_mask rd (by decide))) (bitsA_mask ra (by decide))) (bitsB_mask rb (by decide))⟩

theorem Fits.lvAllNeB (rd : Reg) (ra : Reg) (rb : Reg) : Fits.Statement (.lvAllNeB rd ra rb) :=
  ⟨_, rfl, fits_or (fits_or (fits_or (by decide) (bitsD_mask rd (by decide))) (bitsA_mask ra (by decide))) (bitsB_mask rb (by decide))⟩

theorem Fits.lvAllNeH (rd : Reg) (ra : Reg) (rb : Reg) : Fits.Statement (.lvAllNeH rd ra rb) :=
  ⟨_, rfl, fits_or (fits_or (fits_or (by decide) (bitsD_mask rd (by decide))) (bitsA_mask ra (by decide))) (bitsB_mask rb (by decide))⟩

theorem Fits.lvAnyEqB (rd : Reg) (ra : Reg) (rb : Reg) : Fits.Statement (.lvAnyEqB rd ra rb) :=
  ⟨_, rfl, fits_or (fits_or (fits_or (by decide) (bitsD_mask rd (by decide))) (bitsA_mask ra (by decide))) (bitsB_mask rb (by decide))⟩

theorem Fits.lvAnyEqH (rd : Reg) (ra : Reg) (rb : Reg) : Fits.Statement (.lvAnyEqH rd ra rb) :=
  ⟨_, rfl, fits_or (fits_or (fits_or (by decide) (bitsD_mask rd (by decide))) (bitsA_mask ra (by decide))) (bitsB_mask rb (by decide))⟩

theorem Fits.lvAnyGeB (rd : Reg) (ra : Reg) (rb : Reg) : Fits.Statement (.lvAnyGeB rd ra rb) :=
  ⟨_, rfl, fits_or (fits_or (fits_or (by decide) (bitsD_mask rd (by decide))) (bitsA_mask ra (by decide))) (bitsB_mask rb (by decide))⟩

theorem Fits.lvAnyGeH (rd : Reg) (ra : Reg) (rb : Reg) : Fits.Statement (.lvAnyGeH rd ra rb) :=
  ⟨_, rfl, fits_or (fits_or (fits_or (by decide) (bitsD_mask rd (by decide))) (bitsA_mask ra (by decide))) (bitsB_mask rb (by decide))⟩

theorem Fits.lvAnyGtB (rd : Reg) (ra : Reg) (rb : Reg) : Fits.Statement (.lvAnyGtB rd ra rb) :=
  ⟨_, rfl, fits_or (fits_or (fits_or (by decide) (bitsD_mask rd (by decide))) (bitsA_mask ra (by decide))) (bitsB_mask rb (by decide))⟩

theorem Fits.lvAnyGtH (rd : Reg) (ra : Reg) (rb : Reg) : Fits.Statement (.lvAnyGtH rd ra rb) :=
  ⟨_, rfl, fits_or (fits_or (fits_or (by decide) (bitsD_mask rd (by decide))) (bitsA_mask ra (by decide))) (bitsB_mask rb (by decide))⟩

theorem Fits.lvAnyLeB (rd : Reg) (ra : Reg) (rb : Reg) : Fits.Statement (.lvAnyLeB rd ra rb) :=
  ⟨_, rfl, fits_or (fits_or (fits_or (by decide) (bitsD_mask rd (by decide))) (bitsA_mask ra (by decide))) (bitsB_mask rb (by decide))⟩

theorem Fits.lvAnyLeH (rd : Reg) (ra : Reg) (rb : Reg) : Fits.Statement (.lvAnyLeH rd ra rb) :=
  ⟨_, rfl, fits_or (fits_or (fits_or (by decide) (bitsD_mask rd (by decide))) (bitsA_mask ra (by decide))) (bitsB_mask rb (by decide))⟩

theorem Fits.lvAnyLtB (rd : Reg) (ra : Reg) (rb : Reg) : Fits.Statement (.lvAnyLtB rd ra rb) :=
  ⟨_, rfl, fits_or (fits_or (fits_or (by decide) (bitsD_mask rd (by decide))) (bitsA_mask ra (by decide))) (bitsB_mask rb (by decide))⟩

theorem Fits.lvAnyLtH (rd : Reg) (ra : Reg) (rb : Reg) : Fits.Statement (.lvAnyLtH rd ra rb) :=
  ⟨_, rfl, fits_or (fits_or (fits_or (by decide) (bitsD_mask rd (by decide))) (bitsA_mask ra (by decide))) (bitsB_mask rb (by decide))⟩

theorem Fits.lvAnyNeB (rd : Reg) (ra : Reg) (rb : Reg) : Fits.Statement (.lvAnyNeB rd ra rb) :=
  ⟨_, rfl, fits_or (fits_or (fits_or (by decide) (bitsD_mask rd (by decide))) (bitsA_mask ra (by decide))) (bitsB_mask rb (by decide))⟩

theorem Fits.lvAnyNeH (rd : Reg) (ra : Reg) (rb : Reg) : Fits.Statement (.lvAnyNeH rd ra rb) :=
  ⟨_, rfl, fits_or (fits_or (fits_or (by decide) (bitsD_mask rd (by decide))) (bitsA_mask ra (by decide))) (bitsB_mask rb (by decide))⟩

theorem Fits.lvAnd (rd : Reg) (ra : Reg) (rb : Reg) : Fits.Statement (.lvAnd rd ra rb) :=
  ⟨_, rfl, fits_or (fits_or (fits_or (by decide) (bitsD_mask rd (by decide))) (bitsA_mask ra (by decide))) (bitsB_mask rb (by decide))⟩

theorem Fits.lvAvgB (rd : Reg) (ra : Reg) (rb : Reg) : Fits.Statement (.lvAvgB rd ra rb) :=
  ⟨_, rfl, fits_or (fits_or (fits_or (by decide) (bitsD_mask rd (by decide))) (bitsA_mask ra (by decide))) (bitsB_mask rb (by decide))⟩

theorem Fits.lvAvgH (rd : Reg) (ra : Reg) (rb : Reg) : Fits.Statement (.lvAvgH rd ra rb) :=
  ⟨_, rfl, fits_or (fits_or (fits_or (by decide) (bitsD_mask rd (by decide))) (bitsA_mask ra (by decide))) (bitsB_mask rb (by decide))⟩

theorem Fits.lvCmpEqB (rd : Reg) (ra : Reg) (rb : Reg) : Fits.Statement (.lvCmpEqB rd ra rb) :=
  ⟨_, rfl, fits_or (fits_or (fits_or (by decide) (bitsD_mask rd (by decide))) (bitsA_mask ra (by decide))) (bitsB_mask rb (by decide))⟩

theorem Fits.lvCmpEqH (rd : Reg) (ra : Reg) (rb : Reg) : Fits.Statement (.lvCmpEqH rd ra rb) :=
  ⟨_, rfl, fits_or (fits_or (fits_or (by decide) (bitsD_mask rd (by decide))) (bitsA_mask ra (by decide))) (bitsB_mask rb (by decide))⟩

theorem Fits.lvCmpGeB (rd : Reg) (ra : Reg) (rb : Reg) : Fits.Statement (.lvCmpGeB rd ra rb) :=
  ⟨_, rfl, fits_or (fits_or (fits_or (by decide) (bitsD_mask rd (by decide))) (bitsA_mask ra (by decide))) (bitsB_mask rb (by decide))⟩

theorem Fits.lvCmpGeH (rd : Reg) (ra : Reg) (rb : Reg) : Fits.Statement (.lvCmpGeH rd ra rb) :=
  ⟨_, rfl, fits_or (fits_or (fits_or (by decide) (bitsD_mask rd (by decide))) (bitsA_mask ra (by decide))) (bitsB_mask rb (by decide))⟩

theorem Fits.lvCmpGtB (rd : Reg) (ra : Reg) (rb : Reg) : Fits.Statement (.lvCmpGtB rd ra rb) :=
  ⟨_, rfl, fits_or (fits_or (fits_or (by decide) (bitsD_mask rd (by decide))) (bitsA_mask ra (by decide))) (bitsB_mask rb (by decide))⟩

theorem Fits.lvCmpGtH (rd : Reg) (ra : Reg) (rb : Reg) : Fits.Statement (.lvCmpGtH rd ra rb) :=
  ⟨_, rfl, fits_or (fits_or (fits_or (by decide) (bitsD_mask rd (by decide))) (bitsA_mask ra (by decide))) (bitsB_mask rb (by decide))⟩

theorem Fits.lvCmpLeB (rd : Reg) (ra : Reg) (rb : Reg) : Fits.Statement (.lvCmpLeB rd ra rb) :=
  ⟨_, rfl, fits_or (fits_or (fits_or (by decide) (bitsD_mask rd (by decide))) (bitsA_mask ra (by decide))) (bitsB_mask rb (by decide))⟩

theorem Fits.lvCmpLeH (rd : Reg) (ra : Reg) (rb : Reg) : Fits.Statement (.lvCmpLeH rd ra rb) :=
  ⟨_, rfl, fits_or (fits_or (fits_or (by decide) (bitsD_mask rd (by decide))) (bitsA_mask ra (by decide))) (bitsB_mask rb (by decide))⟩

theorem Fits.lvCmpLtB (rd : Reg) (ra : Reg) (rb : Reg) : Fits.Statement (.lvCmpLtB rd ra rb) :=
  ⟨_, rfl, fits_or (fits_or (fits_or (by decide) (bitsD_mask rd (by decide))) (bitsA_mask ra (by decide))) (bitsB_mask rb (by decide))⟩

theorem Fits.lvCmpLtH (rd : Reg) (ra : Reg) (rb : Reg) : Fits.Statement (.lvCmpLtH rd ra rb) :=
  ⟨_, rfl, fits_or (fits_or (fits_or (by decide) (bitsD_mask rd (by decide))) (bitsA_mask ra (by decide))) (bitsB_mask rb (by decide))⟩

theorem Fits.lvCmpNeB (rd : Reg) (ra : Reg) (rb : Reg) : Fits.Statement (.lvCmpNeB rd ra rb) :=
  ⟨_, rfl, fits_or (fits_or (fits_or (by decide) (bitsD_mask rd (by decide))) (bitsA_mask ra (by decide))) (bitsB_mask rb (by decide))⟩

theorem Fits.lvCmpNeH (rd : Reg) (ra : Reg) (rb : Reg) : Fits.Statement (.lvCmpNeH rd ra rb) :=
  ⟨_, rfl, fits_or (fits_or (fits_or (by decide) (bitsD_mask rd (by decide))) (bitsA_mask ra (by decide))) (bitsB_mask rb (by decide))⟩

theorem Fits.lvMaddsH (rd : Reg) (ra : Reg) (rb : Reg) : Fits.Statement (.lvMaddsH rd ra rb) :=
  ⟨_, rfl, fits_or (fits_or (fits_or (by decide) (bitsD_mask rd (by decide))) (bitsA_mask ra (by decide))) (bitsB_mask rb (by decide))⟩

theorem Fits.lvMaxB (rd : Reg) (ra : Reg) (rb : Reg) : Fits.Statement (.lvMaxB rd ra rb) :=
  ⟨_, rfl, fits_or (fits_or (fits_or (by decide) (bitsD_mask rd (by decide))) (bitsA_mask ra (by decide))) (bitsB_mask rb (by decide))⟩

theorem Fits.lvMaxH (rd : Reg) (ra : Reg) (rb : Reg) : Fits.Statement (.lvMaxH rd ra rb) :=
  ⟨_, rfl, fits_or (fits_or (fits_or (by decide) (bitsD_mask rd (by decide))) (bitsA_mask ra (by decide))) (bitsB_mask rb (by decide))⟩

theorem Fits.lvMergeB (rd : Reg) (ra : Reg) (rb : Reg) : Fits.Statement (.lvMergeB rd ra rb) :=
  ⟨_, rfl, fits_or (fits_or (fits_or (by decide) (bitsD_mask rd (by decide))) (bitsA_mask ra (by decide))) (bitsB_mask rb (by decide))⟩

theorem Fits.lvMergeH (rd : Reg) (ra : Reg) (rb : Reg) : Fits.Statement (.lvMergeH rd ra rb) :=
  ⟨_, rfl, fits_or (fits_or (fits_or (by decide) (bitsD_mask rd (by decide))) (bitsA_mask ra (by decide))) (bitsB_mask rb (by decide))⟩

theorem Fits.lvMinB (rd : Reg) (ra : Reg) (rb : Reg) : Fits.Statement (.lvMinB rd ra rb) :=
  ⟨_, rfl, fits_or (fits_or (fits_or (by decide) (bitsD_mask rd (by decide))) (bitsA_mask ra (by decide))) (bitsB_mask rb (by decide))⟩

theorem Fits.lvMinH (rd : Reg) (ra : Reg) (rb : Reg) : Fits.Statement (.lvMinH rd ra rb) :=
  ⟨_, rfl, fits_or (fits_or (fits_or (by decide) (bitsD_mask rd (by decide))) (bitsA_mask ra (by decide))) (bitsB_mask rb (by decide))⟩

theorem Fits.lvMsubsH (rd : Reg) (ra : Reg) (rb : Reg) : Fits.Statement (.lvMsubsH rd ra rb) :=
  ⟨_, rfl, fits_or (fits_or (fits_or (by decide) (bitsD_mask rd (by decide))) (bitsA_mask ra (by decide))) (bitsB_mask rb (by decide))⟩

theorem Fits.lvMulsH (rd : Reg) (ra : Reg) (rb : Reg) : Fits.Statement (.lvMulsH rd ra rb) :=
  ⟨_, rfl, fits_or (fits_or (fits_or (by decide) (bitsD_mask rd (by decide))) (bitsA_mask ra (by decide))) (bitsB_mask rb (by decide))⟩

theorem Fits.lvNand (rd : Reg) (ra : Reg) (rb : Reg) : Fits.Statement (.lvNand rd ra rb) :=
  ⟨_, rfl, fits_or (fits_or (fits_or (by decide) (bitsD_mask rd (by decide))) (bitsA_mask ra (by decide))) (bitsB_mask rb (by decide))⟩

theorem Fits.lvNor (rd : Reg) (ra : Reg) (rb : Reg) : Fits.Statement (.lvNor rd ra rb) :=
  ⟨_, rfl, fits_or (fits_or (fits_or (by decide) (bitsD_mask rd (by decide))) (bitsA_mask ra (by decide))) (bitsB_mask rb (by decide))⟩

theorem Fits.lvOr (rd : Reg) (ra : Reg) (rb : Reg) : Fits.Statement (.lvOr rd ra rb) :=
  ⟨_, rfl, fits_or (fits_or (fits_or (by decide) (bitsD_mask rd (by decide))) (bitsA_mask ra (by decide))) (bitsB_mask rb (by decide))⟩

theorem Fits.lvPackB (rd : Reg) (ra : Reg) (rb : Reg) : Fits.Statement (.lvPackB rd ra rb) :=
  ⟨_, rfl, fits_or (fits_or (fits_or (by decide) (bitsD_mask rd (by decide))) (bitsA_mask ra (by decide))) (bitsB_mask rb (by decide))⟩

theorem Fits.lvPackH (rd : Reg) (ra : Reg) (rb : Reg) : Fits.Statement (.lvPackH rd ra rb) :=
  ⟨_, rfl, fits_or (fits_or (fits_or (by decide) (bitsD_mask rd (by decide))) (bitsA_mask ra (by decide))) (bitsB_mask rb (by decide))⟩

theorem Fits.lvPacksB (rd : Reg) (ra : Reg) (rb : Reg) : Fits.Statement (.lvPacksB rd ra rb) :=
  ⟨_, rfl, fits_or (fits_or (fits_or (by decide) (bitsD_mask rd (by decide))) (bitsA_mask ra (by decide))) (bitsB_mask rb (by decide))⟩

theorem Fits.lvPacksH (rd : Reg) (ra : Reg) (rb : Reg) : Fits.Statement (.lvPacksH rd ra rb) :=
  ⟨_, rfl, fits_or (fits_or (fits_or (by decide) (bitsD_mask rd (by decide))) (bitsA_mask ra (by decide))) (bitsB_mask rb (by decide))⟩

theorem Fits.lvPackusB (rd : Reg) (ra : Reg) (rb : Reg) : Fits.Statement (.lvPackusB rd ra rb) :=
  ⟨_, rfl, fits_or (fits_or (fits_or (by decide) (bitsD_mask rd (by decide))) (bitsA_mask ra (by decide))) (bitsB_mask rb (by decide))⟩

theorem Fits.lvPackusH (rd : Reg) (ra : Reg) (rb : Reg) : Fits.Statement (.lvPackusH rd ra rb) :=
  ⟨_, rfl, fits_or (fits_or (fits_or (by decide) (bitsD_mask rd (by decide))) (bitsA_mask ra (by decide))) (bitsB_mask rb (by decide))⟩

theorem Fits.lvPermN (rd : Reg) (ra : Reg) (rb : Reg) : Fits.Statement (.lvPermN rd ra rb) :=
  ⟨_, rfl, fits_or (fits_or (fits_or (by decide) (bitsD_mask rd (by decide))) (bitsA_mask ra (by decide))) (bitsB_mask rb (by decide))⟩

theorem Fits.lvRlB (rd : Reg) (ra : Reg) (rb : Reg) : Fits.Statement (.lvRlB rd ra rb) :=
  ⟨_, rfl, fits_or (fits_or (fits_or (by decide) (bitsD_mask rd (by decide))) (bitsA_mask ra (by decide))) (bitsB_mask rb (by decide))⟩

theorem Fits.lvRlH (rd : Reg) (ra : Reg) (rb : Reg) : Fits.Statement (.lvRlH rd ra rb) :=
  ⟨_, rfl, fits_or (fits_or (fits_or (by decide) (bitsD_mask rd (by decide))) (bitsA_mask ra (by decide))) (bitsB_mask rb (by decide))⟩

theorem Fits.lvSllB (rd : Reg) (ra : Reg) (rb : Reg) : Fits.Statement (.lvSllB rd ra rb) :=
  ⟨_, rfl, fits_or (fits_or (fits_or (by decide) (bitsD_mask rd (by decide))) (bitsA_mask ra (by decide))) (bitsB_mask rb (by decide))⟩

theorem Fits.lvSllH (rd : Reg) (ra : Reg) (rb : Reg) : Fits.Statement (.lvSllH rd ra rb) :=
  ⟨_, rfl, fits_or (fits_or (fits_or (by decide) (bitsD_mask rd (by decide))) (bitsA_mask ra (by decide))) (bitsB_mask rb (by decide))⟩

theorem Fits.lvSll (rd : Reg) (ra : Reg) (rb : Reg) : Fits.Statement (.lvSll rd ra rb) :=
  ⟨_, rfl, fits_or (fits_or (fits_or (by decide) (bitsD_mask rd (by decide))) (bitsA_mask ra (by decide))) (bitsB_mask rb (by decide))⟩

theorem Fits.lvSrlB (rd : Reg) (ra : Reg) (rb : Reg) : Fits.Statement (.lvSrlB rd ra rb) :=
  ⟨_, rfl, fits_or (fits_or (fits_or (by decide) (bitsD_mask rd (by decide))) (bitsA_mask ra (by decide))) (bitsB_mask rb (by decide))⟩

theorem Fits.lvSrlH (rd : Reg) (ra : Reg) (rb : Reg) : Fits.Statement (.lvSrlH rd ra rb) :=
  ⟨_, rfl, fits_or (fits_or (fits_or (by decide) (bitsD_mask rd (by decide))) (bitsA_mask ra (by decide))) (bitsB_mask rb (by decide))⟩

theorem Fits.lvSraB (rd : Reg) (ra : Reg) (rb : Reg) : Fits.Statement (.lvSraB rd ra rb) :=
  ⟨_, rfl, fits_or (fits_or (fits_or (by decide) (bitsD_mask rd (by decide))) (bitsA_mask ra (by decide))) (bitsB_mask rb (by decide))⟩

theorem Fits.lvSraH (rd : Reg) (ra : Reg) (rb : Reg) : Fits.Statement (.lvSraH rd ra rb) :=
  ⟨_, rfl, fits_or (fits_or (fits_or (by decide) (bitsD_mask rd (by decide))) (bitsA_mask ra (by decide))) (bitsB_mask rb (by decide))⟩

theorem Fits.lvSrl (rd : Reg) (ra : Reg) (rb : Reg) : Fits.Statement (.lvSrl rd ra rb) :=
  ⟨_, rfl, fits_or (fits_or (fits_or (by decide) (bitsD_mask rd (by decide))) (bitsA_mask ra (by decide))) (bitsB_mask rb (by decide))⟩

theorem Fits.lvSubB (rd : Reg) (ra : Reg) (rb : Reg) : Fits.Statement (.lvSubB rd ra rb) :=
  ⟨_, rfl, fits_or (fits_or (fits_or (by decide) (bitsD_mask rd (by decide))) (bitsA_mask ra (by decide))) (bitsB_mask rb (by decide))⟩

theorem Fits.lvSubH (rd : Reg) (ra : Reg) (rb : Reg) : Fits.Statement (.lvSubH rd ra rb) :=
  ⟨_, rfl, fits_or (fits_or (fits_or (by decide) (bitsD_mask rd (by decide))) (bitsA_mask ra (by decide))) (bitsB_mask rb (by decide))⟩

theorem Fits.lvSubsB (rd : Reg) (ra : Reg) (rb : Reg) : Fits.Statement (.lvSubsB rd ra rb) :=
  ⟨_, rfl, fits_or (fits_or (fits_or (by decide) (bitsD_mask rd (by decide))) (bitsA_mask ra (by decide))) (bitsB_mask rb (by decide))⟩

theorem Fits.lvSubsH (rd : Reg) (ra : Reg) (rb : Reg) : Fits.Statement (.lvSubsH rd ra rb) :=
  ⟨_, rfl, fits_or (fits_or (fits_or (by decide) (bitsD_mask rd (by decide))) (bitsA_mask ra (by decide))) (bitsB_mask rb (by decide))⟩

theorem Fits.lvSubuB (rd : Reg) (ra : Reg) (rb : Reg) : Fits.Statement (.lvSubuB rd ra rb) :=
  ⟨_, rfl, fits_or (fits_or (fits_or (by decide) (bitsD_mask rd (by decide))) (bitsA_mask ra (by decide))) (bitsB_mask rb (by decide))⟩

theorem Fits.lvSubuH (rd : Reg) (ra : Reg) (rb : Reg) : Fits.Statement (.lvSubuH rd ra rb) :=
  ⟨_, rfl, fits_or (fits_or (fits_or (by decide) (bitsD_mask rd (by decide))) (bitsA_mask ra (by decide))) (bitsB_mask rb (by decide))⟩

theorem Fits.lvSubusB (rd : Reg) (ra : Reg) (rb : Reg) : Fits.Statement (.lvSubusB rd ra rb) :=
  ⟨_, rfl, fits_or (fits_or (fits_or (by decide) (bitsD_mask rd (by decide))) (bitsA_mask ra (by decide))) (bitsB_mask rb (by decide))⟩

theorem Fits.lvSubusH (rd : Reg) (ra : Reg) (rb : Reg) : Fits.Statement (.lvSubusH rd ra rb) :=
  ⟨_, rfl, fits_or (fits_or (fits_or (by decide) (bitsD_mask rd (by decide))) (bitsA_mask ra (by decide))) (bitsB_mask rb (by decide))⟩

theorem Fits.lvUnpackB (rd : Reg) (ra : Reg) (rb : Reg) : Fits.Statement (.lvUnpackB rd ra rb) :=
  ⟨_, rfl, fits_or (fits_or (fits_or (by decide) (bitsD_mask rd (by decide))) (bitsA_mask ra (by decide))) (bitsB_mask rb (by decide))⟩

theorem Fits.lvUnpackH (rd : Reg) (ra : Reg) (rb : Reg) : Fits.Statement (.lvUnpackH rd ra rb) :=
  ⟨_, rfl, fits_or (fits_or (fits_or (by decide) (bitsD_mask rd (by decide))) (bitsA_mask ra (by decide))) (bitsB_mask rb (by decide))⟩

theorem Fits.lvXor (rd : Reg) (ra : Reg) (rb : Reg) : Fits.Statement (.lvXor rd ra rb) :=
  ⟨_, rfl, fits_or (fits_or (fits_or (by decide) (bitsD_mask rd (by decide))) (bitsA_mask ra (by decide))) (bitsB_mask rb (by decide))⟩

theorem Fits.lvCust1 : Fits.Statement .lvCust1 :=
  ⟨_, rfl, by decide⟩

theorem Fits.lvCust2 : Fits.Statement .lvCust2 :=
  ⟨_, rfl, by decide⟩

theorem Fits.lvCust3 : Fits.Statement .lvCust3 :=
  ⟨_, rfl, by decide⟩

theorem Fits.lvCust4 : Fits.Statement .lvCust4 :=
  ⟨_, rfl, by decide⟩

theorem Fits.lCust1 : Fits.Statement .lCust1 :=
  ⟨_, rfl, by decide⟩

theorem Fits.lCust2 : Fits.Statement .lCust2 :=
  ⟨_, rfl, by decide⟩

theorem Fits.lCust3 : Fits.Statement .lCust3 :=
  ⟨_, rfl, by decide⟩

theorem Fits.lCust4 : Fits.Statement .lCust4 :=
  ⟨_, rfl, by decide⟩

theorem Fits.lCust5 (rd : Reg) (ra : Reg) (rb : Reg) (l : BitVec 6) (k : BitVec 5) : Fits.Statement (.lCust5 rd ra rb l k) :=
  ⟨_, rfl, fits_or (fits_or (fits_or (fits_or (fits_or (by decide) (bitsD_mask rd (by decide))) (bitsA_mask ra (by decide))) (bitsB_mask rb (by decide))) (bitsCL_mask l (by decide))) (bitsCK_mask k (by decide))⟩

theorem Fits.lCust6 : Fits.Statement .lCust6 :=
  ⟨_, rfl, by decide⟩

theorem Fits.lCust7 : Fits.Statement .lCust7 :=
  ⟨_, rfl, by decide⟩

theorem Fits.lCust8 : Fits.Statement .lCust8 :=
  ⟨_, rfl, by decide⟩

end Sys2Proof.Laws
end

