-- ==== Sys2Proof/Laws/Spr.lean ====
section
/-! SUPPORT. Special-purpose registers: the configuration registers field by field, the names of the addresses, and what the two
moves can do. -/

namespace Sys2Proof.Machine

/-! ## Fields of the configuration registers -/

theorem bitAt_getLsbD (b : Bool) {n : Nat} (hn : n < 32) (i : Nat) : (bitAt b n).getLsbD i = (decide (i = n) && b) := by
  cases b
  · simp [bitAt]
  · by_cases h : i = n
    · subst h; simp [bitAt, hn]
    · simp [bitAt, h]; omega

theorem fieldAt_getLsbD {w : Nat} (v : BitVec w) {n : Nat} (h : w + n ≤ 32) (i : Nat) :
    (fieldAt v n).getLsbD i = (decide (n ≤ i) && v.getLsbD (i - n)) := by
  by_cases hi : n ≤ i
  · by_cases hw : i - n < w
    · have : i < 32 := by omega
      simp [fieldAt, hi, this, Nat.not_lt.mpr hi]
    · simp [fieldAt, BitVec.getLsbD_of_ge v (i - n) (by omega)]
  · simp [fieldAt, hi]

theorem vrValue_fields (c : Config) : vrValue c = c.vrVer ++ c.vrCfg ++ 0#9 ++ flagField c.hasVr2 ++ c.vrRev := by
  apply BitVec.eq_of_getLsbD_eq
  intro i hi
  show _ = BitVec.getLsbD (w := 8 + 8 + 9 + 1 + 6) _ i
  simp only [-Nat.reduceAdd, vrValue, BitVec.getLsbD_or, flagField, BitVec.getLsbD_append, BitVec.getLsbD_ofBool]
  repeat rw [fieldAt_getLsbD _ (by decide)]
  rw [bitAt_getLsbD _ (by decide)]
  interval_cases i <;> simp

theorem uprValue_fields (c : Config) :
    uprValue c = c.cup ++ 0#13 ++ flagField c.ttp ++ flagField c.pmp ++ flagField c.picp ++ flagField c.pcup ++
      flagField c.dup ++ flagField c.mp ++ flagField c.imp ++ flagField c.dmp ++ flagField c.icp ++ flagField c.dcp ++
      flagField c.up := by
  apply BitVec.eq_of_getLsbD_eq
  intro i hi
  show _ = BitVec.getLsbD (w := 8 + 13 + 1 + 1 + 1 + 1 + 1 + 1 + 1 + 1 + 1 + 1 + 1) _ i
  simp only [-Nat.reduceAdd, uprValue, BitVec.getLsbD_or, flagField, BitVec.getLsbD_append, BitVec.getLsbD_ofBool]
  repeat rw [fieldAt_getLsbD _ (by decide)]
  repeat rw [bitAt_getLsbD _ (by decide)]
  interval_cases i <;> simp

theorem cpucfgrValue_fields (c : Config) :
    cpucfgrValue c = 0#17 ++ flagField c.hasAecr ++ flagField c.hasIsr ++ flagField c.hasEvbar ++ flagField c.hasAvr ++
      flagField c.nd ++ flagField c.orvdx64 ++ flagField c.orfpx64 ++ flagField c.orfpx32 ++ flagField c.orbis64 ++ 1#1 ++
      flagField c.ngpr16 ++ c.nsgf := by
  apply BitVec.eq_of_getLsbD_eq
  intro i hi
  show _ = BitVec.getLsbD (w := 17 + 1 + 1 + 1 + 1 + 1 + 1 + 1 + 1 + 1 + 1 + 1 + 4) _ i
  simp only [-Nat.reduceAdd, cpucfgrValue, BitVec.getLsbD_or, flagField, BitVec.getLsbD_append, BitVec.getLsbD_ofBool]
  repeat rw [fieldAt_getLsbD _ (by decide)]
  repeat rw [bitAt_getLsbD _ (by decide)]
  interval_cases i <;> simp

theorem mmucfgrValue_fields (m : MmuCfg) : mmucfgrValue m = mmuFields m := by
  apply BitVec.eq_of_getLsbD_eq
  intro i hi
  unfold mmuFields
  show _ = BitVec.getLsbD (w := 20 + 1 + 1 + 1 + 1 + 3 + 3 + 2) _ i
  simp only [-Nat.reduceAdd, mmucfgrValue, BitVec.getLsbD_or, flagField, BitVec.getLsbD_append, BitVec.getLsbD_ofBool]
  repeat rw [fieldAt_getLsbD _ (by decide)]
  repeat rw [bitAt_getLsbD _ (by decide)]
  interval_cases i <;> simp

theorem dccfgrValue_fields (m : CacheCfg) :
    dccfgrValue m = 0#17 ++ flagField m.cbwbri ++ flagField m.cbfri ++ flagField m.cblri ++ flagField m.cbpri ++
      flagField m.cbiri ++ flagField m.ccri ++ flagField m.cws ++ flagField m.cbs ++ m.ncs ++ m.ncw := by
  apply BitVec.eq_of_getLsbD_eq
  intro i hi
  show _ = BitVec.getLsbD (w := 17 + 1 + 1 + 1 + 1 + 1 + 1 + 1 + 1 + 4 + 3) _ i
  simp only [-Nat.reduceAdd, dccfgrValue, BitVec.getLsbD_or, flagField, BitVec.getLsbD_append, BitVec.getLsbD_ofBool]
  repeat rw [fieldAt_getLsbD _ (by decide)]
  repeat rw [bitAt_getLsbD _ (by decide)]
  interval_cases i <;> simp

theorem iccfgrValue_fields (m : CacheCfg) :
    iccfgrValue m = 0#19 ++ flagField m.cblri ++ flagField m.cbpri ++ flagField m.cbiri ++ flagField m.ccri ++ 0#1 ++
      flagField m.cbs ++ m.ncs ++ m.ncw := by
  apply BitVec.eq_of_getLsbD_eq
  intro i hi
  show _ = BitVec.getLsbD (w := 19 + 1 + 1 + 1 + 1 + 1 + 1 + 4 + 3) _ i
  simp only [-Nat.reduceAdd, iccfgrValue, BitVec.getLsbD_or, flagField, BitVec.getLsbD_append, BitVec.getLsbD_ofBool]
  repeat rw [fieldAt_getLsbD _ (by decide)]
  repeat rw [bitAt_getLsbD _ (by decide)]
  interval_cases i <;> simp

theorem dcfgrValue_fields (c : Config) : bitAt c.wpci 3 ||| fieldAt c.ndp 0 = 0#28 ++ flagField c.wpci ++ c.ndp := by
  apply BitVec.eq_of_getLsbD_eq
  intro i hi
  show _ = BitVec.getLsbD (w := 28 + 1 + 3) _ i
  simp only [-Nat.reduceAdd, BitVec.getLsbD_or, flagField, BitVec.getLsbD_append, BitVec.getLsbD_ofBool]
  rw [fieldAt_getLsbD _ (by decide), bitAt_getLsbD _ (by decide)]
  interval_cases i <;> simp

theorem pccfgrValue_fields (c : Config) : fieldAt c.npc 0 = 0#29 ++ c.npc := by
  apply BitVec.eq_of_getLsbD_eq
  intro i hi
  show _ = BitVec.getLsbD (w := 29 + 3) _ i
  simp only [-Nat.reduceAdd, BitVec.getLsbD_append]
  rw [fieldAt_getLsbD _ (by decide)]
  interval_cases i <;> simp

theorem vr2Value_fields (c : Config) : fieldAt c.vr2Cpuid 24 ||| fieldAt c.vr2Ver 0 = c.vr2Cpuid ++ c.vr2Ver := by
  apply BitVec.eq_of_getLsbD_eq
  intro i hi
  show _ = BitVec.getLsbD (w := 8 + 24) _ i
  simp only [-Nat.reduceAdd, BitVec.getLsbD_or, BitVec.getLsbD_append]
  repeat rw [fieldAt_getLsbD _ (by decide)]
  interval_cases i <;> simp

theorem avrValue_fields (c : Config) : 0x01020000 ||| fieldAt c.avrRev 8 = 1#8 ++ 2#8 ++ c.avrRev ++ 0#8 := by
  apply BitVec.eq_of_getLsbD_eq
  intro i hi
  show _ = BitVec.getLsbD (w := 8 + 8 + 8 + 8) _ i
  simp only [-Nat.reduceAdd, BitVec.getLsbD_or, BitVec.getLsbD_append]
  rw [fieldAt_getLsbD _ (by decide)]
  interval_cases i <;> simp

/-! ## What the two moves can do -/

/-- A read changes at most how many free values have been drawn. -/
theorem State.readSprAt_rest (s : State) (r : Option Spr) :
    (s.readSprAt r).2 = { s with freeCtr := (s.readSprAt r).2.freeCtr } := by
  unfold State.readSprAt
  split
  · rfl
  · split
    · rename_i r _
      cases r <;> simp only [State.readSpr]
      case npc => unfold State.readNpc; split <;> rfl
      case ppc => unfold State.readPpc; split <;> rfl
      case pccr => split <;> rfl
    · rfl

/-- In supervisor mode every address may be accessed. -/
theorem mayAccess_supervisor {s : State} (h : s.sr.getLsbD 0 = true) (r : Option Spr) : mayAccess s r = true := by
  simp [mayAccess, State.sm, h]

/-- `l.mfspr` of an address that may be accessed writes what is read there, and completes. -/
theorem execLMfspr_run {s : State} {rd ra : Reg} {k : BitVec 16} (h : Ready (.lMfspr rd ra k) s)
    (ha : mayAccess s (sprAt s.cfg (s.sprAddress ra k)) = true) (hr : s.regMissing rd = false) :
    exec (.lMfspr rd ra k) s =
      .next (((s.readSprAt (sprAt s.cfg (s.sprAddress ra k))).2.setGpr rd
        (s.readSprAt (sprAt s.cfg (s.sprAddress ra k))).1).advance) := by
  show execLMfspr rd ra k s = _
  rw [execLMfspr, issue_run h, if_pos ha, hr]
  rfl

/-- `l.mtspr` to an address that may be accessed writes there, and completes. -/
theorem execLMtspr_run {s : State} {ra rb : Reg} {k : BitVec 16} (h : Ready (.lMtspr ra rb k) s)
    (ha : mayAccess s (sprAt s.cfg (s.sprAddress ra k)) = true) (hr : s.regMissing rb = false) :
    exec (.lMtspr ra rb k) s =
      .next ((s.writeSprAt (sprAt s.cfg (s.sprAddress ra k)) (s.gpr rb)).finishMtspr
        (sprAt s.cfg (s.sprAddress ra k)) (s.gpr rb)) := by
  show execLMtspr ra rb k s = _
  rw [execLMtspr, issue_run h, if_pos ha, hr]
  rfl

/-- Neither move reaches an address that may not be accessed. -/
theorem exec_spr_closed {s : State} {r ra : Reg} {k : BitVec 16}
    (ha : mayAccess s (sprAt s.cfg (s.sprAddress ra k)) = false) :
    (Ready (.lMfspr r ra k) s → exec (.lMfspr r ra k) s = .next (s.enter .illegal s.pc)) ∧
    (Ready (.lMtspr ra r k) s → exec (.lMtspr ra r k) s = .next (s.enter .illegal s.pc)) := by
  refine ⟨fun h => ?_, fun h => ?_⟩
  · show execLMfspr r ra k s = _
    rw [execLMfspr, issue_run h, ha]
    rfl
  · show execLMtspr ra r k s = _
    rw [execLMtspr, issue_run h, ha]
    rfl

/-! ## Other cores -/

/-- What messages of other cores change: the OMPIC, the latches that its line sets, and the reservation. -/
theorem State.foreignMessages_rest (s : State) (ms : List (Nat × Word32)) :
    s.foreignMessages ms = { s with
      ompic := (s.foreignMessages ms).ompic, picLatch := (s.foreignMessages ms).picLatch
      resv := (s.foreignMessages ms).resv } := by
  have key : ∀ (ms : List (Nat × Word32)) (s : State), ms.foldl State.foreignMessage s = { s with
      ompic := (ms.foldl State.foreignMessage s).ompic, picLatch := (ms.foldl State.foreignMessage s).picLatch
      resv := (ms.foldl State.foreignMessage s).resv } := by
    intro ms
    induction ms with
    | nil => intro s; rfl
    | cons m ms ih =>
      intro s
      have hm : s.foreignMessage m = { s with
          ompic := (s.foreignMessage m).ompic, picLatch := (s.foreignMessage m).picLatch
          resv := (s.foreignMessage m).resv } := by
        unfold State.foreignMessage
        split <;> rfl
      rw [List.foldl_cons]
      have h := ih (s.foreignMessage m)
      rw [hm] at h ⊢
      exact h
  unfold State.foreignMessages
  split
  · exact key ms s
  · rfl

/-- They leave the configuration alone. -/
@[simp] theorem State.foreignMessages_cfg (s : State) (ms : List (Nat × Word32)) : (s.foreignMessages ms).cfg = s.cfg := by
  rw [State.foreignMessages_rest]

end Sys2Proof.Machine
end

