-- ==== Sys2Proof/Laws/Statements.lean ====
section
/-! SUPPORT. The statements' own wordings (Safety.lean) and the model's operations are the same: the byte order, the floating-point
environment and flags, the comparison of a debug pair, the record of replaced instruction words, and the context of an exception. -/

namespace Sys2Proof.Machine

/-- The byte order of an operand (20_memory.md R203). -/
theorem operandOrder_eq (s : State) (bs : List Byte) : operandOrder s bs = s.dataOrder bs := by
  unfold operandOrder State.dataOrder State.littleEndian
  cases h : s.cfg.leeSupported <;> cases h2 : s.sr.getLsbD 7 <;> simp_all

/-- The effective address (43_orbis_loadstore.md R500): the offset may be extended to 64 bits before the sum is cut to XLEN. -/
theorem effAddr_eq (s : State) (ra : Reg) (i : BitVec 16) : s.effAddr ra i = trunc s.cfg.xlen (s.gpr ra + i.signExtend 64) := by
  unfold State.effAddr sext16
  cases s.cfg.xlen
  · simp only [trunc]
    bv_omega
  · rfl

/-! ## Floating point -/

theorem fpEnvironment_eq (s : State) : fpEnvironment s = s.fpEnv := rfl

theorem singleOperand_eq (s : State) (r : Reg) : singleOperand s r = s.fpReg .single r := rfl

theorem doubleOperand_eq (s : State) (r : Reg) : doubleOperand s r = s.fpReg .double r := by
  have : (s.gpr r).toNat % 2 ^ Fmt.double.width = (s.gpr r).toNat := Nat.mod_eq_of_lt (s.gpr r).isLt
  rw [doubleOperand, fpEnvironment_eq, State.fpReg, this]

theorem signalled_eq (r : FRes) (v : Word) : signalled r v = r.flagsAt v := by
  unfold signalled FRes.flagsAt
  rcases r with ⟨o, f⟩
  cases o <;> simp
  by_cases h : v = 0#64 <;> simp [h]

/-- The flags stand at bits 11:3 in the order of `FFlags.bits` (10_state.md R75). -/
theorem fpcsrFlags_eq (f : FFlags) : fpcsrFlags f = f.bits.setWidth 32 <<< 3 ∧ (fpcsrFlags f).extractLsb' 3 9 = f.bits := by
  rcases f with ⟨a, b, c, d, e, g, h, i, j⟩
  revert a b c d e g h i j
  decide +kernel

/-! ## Watchpoints -/

/-- The values of a field of three bits. -/
theorem three_bits : ∀ x : BitVec 3, x = 0 ∨ x = 1 ∨ x = 2 ∨ x = 3 ∨ x = 4 ∨ x = 5 ∨ x = 6 ∨ x = 7 := by decide

/-- What DCR[CT] selects (61_platform_units.md R991). -/
theorem selects_iff (x : Xlen) (o : Seen) (ct : BitVec 3) (w q : Nat) :
    Selects x o ct w q ↔ o.quantity x ct = some (w, q) := by
  rcases o with ⟨f, _ | ⟨st, ea, size, data⟩⟩ <;> unfold Selects Seen.quantity <;>
    rcases three_bits ct with h | h | h | h | h | h | h | h <;> subst h
  all_goals first
    | (simp [Option.filter]; done)
    | (simp [Option.filter]; grind)
    | (cases st <;> cases data <;> simp [Option.filter]; grind)

/-- `Match_n` (61_platform_units.md R986, R991). -/
theorem pairMatches_iff (s : State) (o : Seen) (n : BitVec 3) : PairMatches s o n ↔ s.dvrMatch o n = true := by
  unfold PairMatches State.dvrMatch
  simp only [selects_iff, Bool.and_eq_true, decide_eq_true_eq]
  apply and_congr Iff.rfl
  cases o.quantity s.cfg.xlen (BitVec.extractLsb' 5 3 (s.dcr.at n)) with
  | none => simp
  | some p =>
    rcases p with ⟨w, q⟩
    unfold compareDvr
    generalize BitVec.extractLsb' 1 3 (s.dcr.at n) = cc
    rcases three_bits cc with h | h | h | h | h | h | h | h <;> subst h <;> simp

/-- An instruction that has had its effect, as the statements say it, counts its watchpoints for sure. -/
theorem hadEffect_of {i : Instr} {s t : State} (h : HadEffect i s t) : s.hadEffect (some i) t = true := by
  rcases h with ⟨h1, h2⟩ | ⟨hr, h⟩
  · simp [State.hadEffect, h1, h2]
  · have he : s.endsInEntry i t = true := by
      rcases h with ⟨rfl, h⟩ | ⟨⟨k, rfl | rfl⟩, h⟩ | h
      · exact h
      · simp [State.endsInEntry, h]
      · simp [State.endsInEntry, h]
      · unfold State.endsInEntry
        split
        · cases h
        · cases h
        · cases h
        · exact h
    simp [State.hadEffect, hr.2.1, hr.2.2, he]

/-! ## The record of replaced instruction words -/

/-- A data cache block written back moves the record as the statements say it. -/
theorem writeBackBlock_moves (s : State) (v : Word) :
    BlockMoves s (s.writeBackBlock v) .load v s.cfg.dc.cbs [.stored] .writtenBack := by
  constructor
  · intro l a h1 h2
    simp [State.writeBackBlock, State.blockAddress, h1, h2, StaleWord.inBlock]
  · intro h
    unfold State.writeBackBlock State.blockAddress
    split <;> simp_all

/-- An instruction cache block invalidated moves the record as the statements say it. -/
theorem invalidateInsnBlock_moves (s : State) (v : Word) :
    BlockMoves s (s.invalidateInsnBlock v) .fetch v s.cfg.ic.cbs [.synced, .flushed] .invalidated := by
  constructor
  · intro l a h1 h2
    simp [State.invalidateInsnBlock, State.blockAddress, h1, h2, StaleWord.inBlock]
  · intro h
    unfold State.invalidateInsnBlock State.blockAddress
    split <;> simp_all

/-! ## Exceptions -/

/-- The context that receives the saved state (60_exceptions.md R880, R881, R883). -/
theorem entryCtx_eq (s : State) :
    s.entryCtx = if s.cfg.nsgf ≠ 0 ∧ s.sr.getLsbD 8 = true then
      (if s.sr.extractLsb' 28 4 = s.cfg.nsgf then s.sr.extractLsb' 28 4 else s.sr.extractLsb' 28 4 + 1) else 0 := by
  unfold State.entryCtx State.contextsUsed State.fcs State.cid
  by_cases h : s.cfg.nsgf = 0 <;> cases h2 : s.sr.getLsbD 8 <;> simp_all

/-- All contexts are used (60_exceptions.md R883). -/
theorem contextsUsed_iff (s : State) :
    s.contextsUsed = true ↔ (s.cfg.nsgf ≠ 0 ∧ s.sr.getLsbD 8 = true) ∧ s.sr.extractLsb' 28 4 = s.cfg.nsgf := by
  simp [State.contextsUsed, State.fcs, State.cid, and_comm]

end Sys2Proof.Machine
end

