-- ==== Sys2Proof/Laws/Vector.lean ====
section
/-! SUPPORT. Laws of lanes: each lane of a result is what was put there. -/

namespace Sys2Proof.Machine

/-- No bit stands above the lanes. -/
theorem ofLanes_above {w : Nat} (f : Nat → BitVec w) (n b : Nat) (hb : w * n ≤ b) :
    (ofLanes w f n).getLsbD b = false := by
  induction n with
  | zero => simp [ofLanes]
  | succ n ih =>
    have hm : w * (n + 1) = w * n + w := Nat.mul_succ w n
    simp only [ofLanes, BitVec.getLsbD_or, ih (by omega), Bool.false_or, BitVec.getLsbD_shiftLeft,
      BitVec.getLsbD_setWidth]
    rw [BitVec.getLsbD_of_ge (f n) _ (by omega)]
    simp

/-- Lane `i` of a value built from lanes, where all lanes fit a register. -/
theorem lane_ofLanes {w n i : Nat} (f : Nat → BitVec w) (hn : w * n ≤ 64) (hi : i < n) :
    lane w (ofLanes w f n) i = f i := by
  induction n with
  | zero => omega
  | succ n ih =>
    have hm : w * (n + 1) = w * n + w := Nat.mul_succ w n
    have hle : w * i ≤ w * n := Nat.mul_le_mul_left w (Nat.le_of_lt_succ hi)
    apply BitVec.eq_of_getLsbD_eq
    intro b hb
    have hb64 : w * i + b < 64 := by omega
    simp only [lane, ofLanes, BitVec.getLsbD_extractLsb', BitVec.getLsbD_or, BitVec.getLsbD_shiftLeft,
      BitVec.getLsbD_setWidth, hb, decide_true, Bool.true_and, hb64]
    by_cases h : i = n
    · subst h
      rw [ofLanes_above f i _ (by omega), show w * i + b - w * i = b by omega]
      simp [show b < 64 by omega]
    · have hlt : i < n := by omega
      have hs : w * i + w ≤ w * n := by
        have := Nat.mul_le_mul_left w (Nat.succ_le_of_lt hlt)
        rw [Nat.mul_succ] at this; exact this
      have hih := congrArg (fun v => v.getLsbD b) (ih (by omega) hlt)
      simp only [lane, BitVec.getLsbD_extractLsb', hb, decide_true, Bool.true_and] at hih
      rw [hih]
      simp [show w * i + b < w * n by omega]

/-- Lane `i` of a lane-by-lane operation, for a width whose lanes fit a register. -/
theorem lane_lanes2 {w i : Nat} (f : BitVec w → BitVec w → BitVec w) (a b : Word)
    (hi : i < laneCount w) : lane w (lanes2 w f a b) i = f (lane w a i) (lane w b i) :=
  lane_ofLanes _ (Nat.mul_div_le 64 w) hi

end Sys2Proof.Machine
end

