-- ==== Sys2Proof/Tests/Slice0.lean ====
section
/-! SUPPORT. Tests: the example words of the spec, ill-formed terms that the checks refuse, vectors of 95_test_vectors.md and of
the instruction rules, and for every statement with hypotheses a state and operands that meet them. -/

namespace Sys2Proof.Tests

set_option Elab.async false

open Sys2Proof Sys2Proof.Machine

/-! ## Decoding -/

/-- Each word decodes to its instruction, and the instruction encodes to the word. -/
def words (ps : List (Word32 × Instr)) : Bool :=
  ps.all fun p => decide (decodeWord p.1 = some p.2) && decide (encode p.2 = p.1)

/-- The example words of 40_orbis_arith.md: each decodes to its instruction, which encodes to it. -/
theorem test_decode_arith : words [
    (0xE0642800, .lAdd 3 4 5), (0xE0642801, .lAddc 3 4 5), (0x9C64FFFF, .lAddi 3 4 65535),
    (0xA0640001, .lAddic 3 4 1), (0xE0642802, .lSub 3 4 5), (0xE0642B06, .lMul 3 4 5),
    (0xB064FFFE, .lMuli 3 4 65534), (0xE0642B0B, .lMulu 3 4 5), (0xE0642B09, .lDiv 3 4 5),
    (0xE0642B0A, .lDivu 3 4 5), (0xC4042801, .lMac 4 5), (0x4C04FFFD, .lMaci 4 65533), (0xC4042803, .lMacu 4 5),
    (0xC4042802, .lMsb 4 5), (0xC4042804, .lMsbu 4 5), (0x18610000, .lMacrc 3), (0xE0042B07, .lMuld 4 5),
    (0xE0042B0C, .lMuldu 4 5), (0xE064280E, .lCmov 3 4 5), (0xE064000F, .lFf1 3 4), (0xE064010F, .lFl1 3 4)] = true := by decide +kernel

/-- The example words of 41_orbis_logic_shift.md: each decodes to its instruction, which encodes to it. -/
theorem test_decode_logic : words [
    (0xE0642803, .lAnd 3 4 5), (0xA464FF00, .lAndi 3 4 65280), (0xE0642804, .lOr 3 4 5),
    (0xA8648000, .lOri 3 4 32768), (0xE0642805, .lXor 3 4 5), (0xAC64FFFF, .lXori 3 4 65535),
    (0xE0642808, .lSll 3 4 5), (0xB8640004, .lSlli 3 4 4), (0xE0642848, .lSrl 3 4 5), (0xB8640044, .lSrli 3 4 4),
    (0xE0642888, .lSra 3 4 5), (0xB8640084, .lSrai 3 4 4), (0xE06428C8, .lRor 3 4 5), (0xB86400C8, .lRori 3 4 8),
    (0xE064004C, .lExtbs 3 4), (0xE06400CC, .lExtbz 3 4), (0xE064000C, .lExths 3 4), (0xE064008C, .lExthz 3 4),
    (0xE064000D, .lExtws 3 4), (0xE064004D, .lExtwz 3 4), (0x18601234, .lMovhi 3 4660)] = true := by decide +kernel

/-- The example words of 42_orbis_compare.md: each decodes to its instruction, which encodes to it. -/
theorem test_decode_compare : words [
    (0xE4042800, .lSfeq 4 5), (0xE4242800, .lSfne 4 5), (0xE4442800, .lSfgtu 4 5), (0xE4642800, .lSfgeu 4 5),
    (0xE4842800, .lSfltu 4 5), (0xE4A42800, .lSfleu 4 5), (0xE5442800, .lSfgts 4 5), (0xE5642800, .lSfges 4 5),
    (0xE5842800, .lSflts 4 5), (0xE5A42800, .lSfles 4 5), (0xBC04FFFF, .lSfeqi 4 65535),
    (0xBC24FFFF, .lSfnei 4 65535), (0xBC44FFFF, .lSfgtui 4 65535), (0xBC64FFFF, .lSfgeui 4 65535),
    (0xBC84FFFF, .lSfltui 4 65535), (0xBCA4FFFF, .lSfleui 4 65535), (0xBD44FFFF, .lSfgtsi 4 65535),
    (0xBD64FFFF, .lSfgesi 4 65535), (0xBD84FFFF, .lSfltsi 4 65535), (0xBDA4FFFF, .lSflesi 4 65535)] = true := by decide +kernel

/-- The example words of 43_orbis_loadstore.md: each decodes to its instruction, which encodes to it. -/
theorem test_decode_load_store : words [
    (0x8C640004, .lLbz 3 4 4), (0x90640004, .lLbs 3 4 4), (0x94640004, .lLhz 3 4 4), (0x98640004, .lLhs 3 4 4),
    (0x8464FFFC, .lLwz 3 4 65532), (0x88640004, .lLws 3 4 4), (0x80640008, .lLd 3 4 8), (0x6C640004, .lLwa 3 4 4),
    (0xD8042804, .lSb 4 5 4), (0xDC042804, .lSh 4 5 4), (0xD4042804, .lSw 4 5 4), (0xD0042808, .lSd 4 5 8),
    (0xCC042804, .lSwa 4 5 4)] = true := by decide +kernel

/-- The example words of 44_orbis_control_system.md: each decodes to its instruction, which encodes to it. -/
theorem test_decode_control : words [
    (0x00000004, .lJ 4), (0x04000008, .lJal 8), (0x44004800, .lJr 9), (0x48002800, .lJalr 5), (0x10000003, .lBf 3),
    (0x0FFFFFFE, .lBnf 67108862), (0x15000000, .lNop 0), (0x20000001, .lSys 1), (0x21000000, .lTrap 0),
    (0x24000000, .lRfe), (0xC0002811, .lMtspr 0 5 17), (0xB4600011, .lMfspr 3 0 17), (0x22000000, .lMsync),
    (0x23000000, .lCsync), (0x22800000, .lPsync), (0x70000000, .lCust1), (0x74000000, .lCust2),
    (0x78000000, .lCust3), (0x7C000000, .lCust4), (0xF0000000, .lCust5 0 0 0 0 0), (0xF4000000, .lCust6),
    (0xF8000000, .lCust7), (0xFC000000, .lCust8)] = true := by decide +kernel

/-- The example words of 45_orfpx.md: each decodes to its instruction, which encodes to it. -/
theorem test_decode_float : words [
    (0xC8642800, .lfAddS 3 4 5), (0xC8642801, .lfSubS 3 4 5), (0xC8642802, .lfMulS 3 4 5),
    (0xC8642803, .lfDivS 3 4 5), (0xC8642806, .lfRemS 3 4 5), (0xC8642807, .lfMaddS 3 4 5),
    (0xC8640004, .lfItofS 3 4), (0xC8640005, .lfFtoiS 3 4), (0xC8042808, .lfSfeqS 4 5), (0xC8042809, .lfSfneS 4 5),
    (0xC804280A, .lfSfgtS 4 5), (0xC804280B, .lfSfgeS 4 5), (0xC804280C, .lfSfltS 4 5), (0xC804280D, .lfSfleS 4 5),
    (0xC80428D0, .lfCust1S 4 5), (0xC8642810, .lfAddD 3 4 5), (0xC8642811, .lfSubD 3 4 5),
    (0xC8642812, .lfMulD 3 4 5), (0xC8642813, .lfDivD 3 4 5), (0xC8642816, .lfRemD 3 4 5),
    (0xC8642817, .lfMaddD 3 4 5), (0xC8640014, .lfItofD 3 4), (0xC8640015, .lfFtoiD 3 4), (0xC8042818, .lfSfeqD 4 5),
    (0xC8042819, .lfSfneD 4 5), (0xC804281A, .lfSfgtD 4 5), (0xC804281B, .lfSfgeD 4 5), (0xC804281C, .lfSfltD 4 5),
    (0xC804281D, .lfSfleD 4 5), (0xC80428E0, .lfCust1D 4 5)] = true := by decide +kernel

/-- The example words of 46_orvdx_a.md: each decodes to its instruction, which encodes to it. -/
theorem test_decode_vector_a : words [
    (0x28642830, .lvAddB 3 4 5), (0x28642831, .lvAddH 3 4 5), (0x28642832, .lvAddsB 3 4 5),
    (0x28642833, .lvAddsH 3 4 5), (0x28642834, .lvAdduB 3 4 5), (0x28642835, .lvAdduH 3 4 5),
    (0x28642836, .lvAddusB 3 4 5), (0x28642837, .lvAddusH 3 4 5), (0x28642810, .lvAllEqB 3 4 5),
    (0x28642811, .lvAllEqH 3 4 5), (0x28642812, .lvAllGeB 3 4 5), (0x28642813, .lvAllGeH 3 4 5),
    (0x28642814, .lvAllGtB 3 4 5), (0x28642815, .lvAllGtH 3 4 5), (0x28642816, .lvAllLeB 3 4 5),
    (0x28642817, .lvAllLeH 3 4 5), (0x28642818, .lvAllLtB 3 4 5), (0x28642819, .lvAllLtH 3 4 5),
    (0x2864281A, .lvAllNeB 3 4 5), (0x2864281B, .lvAllNeH 3 4 5), (0x28642820, .lvAnyEqB 3 4 5),
    (0x28642821, .lvAnyEqH 3 4 5), (0x28642822, .lvAnyGeB 3 4 5), (0x28642823, .lvAnyGeH 3 4 5),
    (0x28642824, .lvAnyGtB 3 4 5), (0x28642825, .lvAnyGtH 3 4 5), (0x28642826, .lvAnyLeB 3 4 5),
    (0x28642827, .lvAnyLeH 3 4 5), (0x28642828, .lvAnyLtB 3 4 5), (0x28642829, .lvAnyLtH 3 4 5),
    (0x2864282A, .lvAnyNeB 3 4 5), (0x2864282B, .lvAnyNeH 3 4 5), (0x28642838, .lvAnd 3 4 5),
    (0x28642839, .lvAvgB 3 4 5), (0x2864283A, .lvAvgH 3 4 5), (0x28642840, .lvCmpEqB 3 4 5),
    (0x28642841, .lvCmpEqH 3 4 5), (0x28642842, .lvCmpGeB 3 4 5), (0x28642843, .lvCmpGeH 3 4 5),
    (0x28642844, .lvCmpGtB 3 4 5), (0x28642845, .lvCmpGtH 3 4 5), (0x28642846, .lvCmpLeB 3 4 5),
    (0x28642847, .lvCmpLeH 3 4 5), (0x28642848, .lvCmpLtB 3 4 5), (0x28642849, .lvCmpLtH 3 4 5),
    (0x2864284A, .lvCmpNeB 3 4 5), (0x2864284B, .lvCmpNeH 3 4 5)] = true := by decide +kernel

/-- The example words of 47_orvdx_b.md: each decodes to its instruction, which encodes to it. -/
theorem test_decode_vector_b : words [
    (0x28642854, .lvMaddsH 3 4 5), (0x28642855, .lvMaxB 3 4 5), (0x28642856, .lvMaxH 3 4 5),
    (0x28642857, .lvMergeB 3 4 5), (0x28642858, .lvMergeH 3 4 5), (0x28642859, .lvMinB 3 4 5),
    (0x2864285A, .lvMinH 3 4 5), (0x2864285B, .lvMsubsH 3 4 5), (0x2864285C, .lvMulsH 3 4 5),
    (0x2864285D, .lvNand 3 4 5), (0x2864285E, .lvNor 3 4 5), (0x2864285F, .lvOr 3 4 5), (0x28642860, .lvPackB 3 4 5),
    (0x28642861, .lvPackH 3 4 5), (0x28642862, .lvPacksB 3 4 5), (0x28642863, .lvPacksH 3 4 5),
    (0x28642864, .lvPackusB 3 4 5), (0x28642865, .lvPackusH 3 4 5), (0x28642866, .lvPermN 3 4 5),
    (0x28642867, .lvRlB 3 4 5), (0x28642868, .lvRlH 3 4 5), (0x28642869, .lvSllB 3 4 5), (0x2864286A, .lvSllH 3 4 5),
    (0x2864286B, .lvSll 3 4 5), (0x2864286C, .lvSrlB 3 4 5), (0x2864286D, .lvSrlH 3 4 5),
    (0x2864286E, .lvSraB 3 4 5), (0x2864286F, .lvSraH 3 4 5), (0x28642870, .lvSrl 3 4 5),
    (0x28642871, .lvSubB 3 4 5), (0x28642872, .lvSubH 3 4 5), (0x28642873, .lvSubsB 3 4 5),
    (0x28642874, .lvSubsH 3 4 5), (0x28642875, .lvSubuB 3 4 5), (0x28642876, .lvSubuH 3 4 5),
    (0x28642877, .lvSubusB 3 4 5), (0x28642878, .lvSubusH 3 4 5), (0x28642879, .lvUnpackB 3 4 5),
    (0x2864287A, .lvUnpackH 3 4 5), (0x2864287B, .lvXor 3 4 5), (0x280000C0, .lvCust1), (0x280000D0, .lvCust2),
    (0x280000E0, .lvCust3), (0x280000F0, .lvCust4)] = true := by decide +kernel
/-! ## Bytes and words that are no instruction -/

/-- Fewer than four bytes are no instruction; 0x2C000000 matches no row (30_encoding.md R300, R331). -/
theorem test_decode_refuses :
    decodeBytes [0, 0, 0] = .error .tooShort ∧ decodeBytes [0x2C, 0, 0, 0] = .error (.unallocated 0x2C000000) ∧
    decodeTableWord 32 0xE0642800 = some (.lAdd 3 4 5) ∧ decodeTableWord 32 0x2C000000 = none := by
  decide +kernel

/-! ## Ill-formed terms -/

/-- `l.jalr r9` (44_orbis_control_system.md R555). -/
theorem test_wf_jalr : Instr.wf (.lJalr 9) = false ∧ Instr.wf (.lJalr 5) = true := by decide +kernel

/-- The configurations in use are legal. -/
theorem test_wf_config : Config.wf Config.reference = true ∧ Config.wf Config.full = true := by decide +kernel

/-- One illegal configuration for each check. -/
theorem test_wf_config_errors :
    Config.errors { Config.reference with orfpx64 := true } = [.subsetNeeds64] ∧
    Config.errors { Config.reference with absent := [3] } = [.classOneAbsent] ∧
    Config.errors { Config.reference with absent := [42] } = [.classOneAbsent] ∧
    Config.errors { Config.full with dc := { Config.noCache with ncw := 6 } } = [.cacheGeometry] ∧
    Config.errors { Config.full with ic := { Config.noCache with ncs := 11 } } = [.cacheGeometry] ∧
    Config.errors { Config.full with dmmu := { Config.noMmu with nae := 5 } } = [.atbEntries] ∧
    Config.errors { Config.full with unifiedMmu := true, immu := { Config.noMmu with nts := 1 } } = [.unifiedMmuParts] ∧
    Config.errors { Config.full with unifiedCache := true, icp := false } = [.unifiedCacheParts] ∧
    Config.errors { Config.reference with evbarReset := 0x1000 } = [.evbarUnaligned] ∧
    Config.errors { Config.reference with coreId := 1 } = [.coreIdRange] ∧
    Config.errors { Config.full with numCores := 8193 } = [.tooManyCores] ∧
    Config.errors { Config.full with paBits := 36 } = [.paBitsRange] ∧
    Config.errors { Config.full with ompicBase := some 2 } = [.ompicUnaligned] ∧
    Config.errors { Config.reference with vrVer := 0x20 } = [.versionRange] ∧
    Config.errors { Config.reference with vrCfg := 100 } = [.templateRange] := by decide +kernel

/-! ## One step -/

/-- A state at 0x2000 with some registers and SR. -/
def start (c : Config) (rs : List (Reg × Word)) (sr : Word32) : State :=
  rs.foldl (fun s r => s.setGpr r.1 r.2) { State.resetFor c with pc := 0x2000, sr := sr }

/-- What holds of the next state, if there is one. -/
def gives (r : Result) (p : State → Bool) : Bool :=
  match r with
  | .next t => p t
  | _ => false

/-- One instruction word of the reference machine: registers and SR before and after, `pc` four on. -/
def vec (w : Word32) (before : List (Reg × Word)) (sr : Word32) (after : List (Reg × Word)) (sr' : Word32) : Bool :=
  gives (executeWord w (start Config.reference before sr)) fun t =>
    after.all (fun r => t.gpr r.1 == r.2) && t.sr == sr' && t.pc == 0x2004

/-- One instruction word of the 64-bit machine on r4 and r5: r3 and FPCSR after. -/
def vec64 (w : Word32) (a b r : Word) (fpcsr : Word32) : Bool :=
  gives (executeWord w (start Config.full [(4, a), (5, b)] 0x8001)) fun t => t.gpr 3 == r && t.fpcsr == fpcsr

/-- 95_test_vectors.md T20, at most two vectors of each instruction. -/
theorem test_arith_vectors : (
    vec 0xE0642800 [(4, 0x00000001), (5, 0x00000002)] 0x8001 [(3, 0x00000003)] 0x8001 &&
    vec 0xE0642800 [(4, 0x7FFFFFFF), (5, 0x00000001)] 0x8001 [(3, 0x80000000)] 0x8801 &&
    vec 0xE0642801 [(4, 0xFFFFFFFF), (5, 0x00000000)] 0x8401 [(3, 0x00000000)] 0x8401 &&
    vec 0xE0642801 [(4, 0x7FFFFFFF), (5, 0x00000000)] 0x8401 [(3, 0x80000000)] 0x8801 &&
    vec 0x9C64FFFF [(4, 0x00000000)] 0x8001 [(3, 0xFFFFFFFF)] 0x8001 &&
    vec 0x9C647FFF [(4, 0x7FFF8001)] 0x8001 [(3, 0x80000000)] 0x8801 &&
    vec 0xA064FFFF [(4, 0x00000000)] 0x8401 [(3, 0x00000000)] 0x8401 &&
    vec 0xE0642802 [(4, 0x00000005), (5, 0x00000005)] 0x8001 [(3, 0x00000000)] 0x8001 &&
    vec 0xE0642802 [(4, 0x80000000), (5, 0x00000001)] 0x8001 [(3, 0x7FFFFFFF)] 0x8801 &&
    vec 0xE0642B06 [(4, 0xFFFFFFFF), (5, 0xFFFFFFFF)] 0x8001 [(3, 0x00000001)] 0x8001 &&
    vec 0xE0642B06 [(4, 0x80000000), (5, 0xFFFFFFFF)] 0x8001 [(3, 0x80000000)] 0x8801 &&
    vec 0xB0647FFF [(4, 0x00010001)] 0x8001 [(3, 0x7FFF7FFF)] 0x8001 &&
    vec 0xE0642B0B [(4, 0x00010000), (5, 0x0000FFFF)] 0x8001 [(3, 0xFFFF0000)] 0x8001 &&
    vec 0xE0642B0B [(4, 0x00010000), (5, 0x00010000)] 0x8801 [(3, 0x00000000)] 0x8C01 &&
    vec 0xE0642B09 [(4, 0x00000007), (5, 0xFFFFFFFE)] 0x8001 [(3, 0xFFFFFFFD)] 0x8001 &&
    vec 0xE0642B09 [(4, 0xFFFFFFF9), (5, 0xFFFFFFFE)] 0x8001 [(3, 0x00000003)] 0x8001 &&
    vec 0xE0642B0A [(4, 0xFFFFFFFF), (5, 0x00000010)] 0x8001 [(3, 0x0FFFFFFF)] 0x8001 &&
    vec 0xE0642B0A [(4, 0x00000007), (5, 0x00000009)] 0x8401 [(3, 0x00000000)] 0x8001) = true := by
  decide +kernel

/-- 95_test_vectors.md T22, at most two vectors of each instruction. -/
theorem test_move_find_vectors : (
    vec 0xE064280E [(4, 0x00000011), (5, 0x00000022)] 0x8201 [(3, 0x00000011)] 0x8201 &&
    vec 0xE064280E [(4, 0x00000011), (5, 0x00000022)] 0x8001 [(3, 0x00000022)] 0x8001 &&
    vec 0xE064000F [(4, 0x00000000)] 0x8001 [(3, 0x00000000)] 0x8001 &&
    vec 0xE064000F [(4, 0x00000001)] 0x8001 [(3, 0x00000001)] 0x8001 &&
    vec 0xE064010F [(4, 0x00000000)] 0x8001 [(3, 0x00000000)] 0x8001 &&
    vec 0xE064010F [(4, 0x00000001)] 0x8001 [(3, 0x00000001)] 0x8001) = true := by
  decide +kernel

/-- 95_test_vectors.md T24, at most two vectors of each instruction. -/
theorem test_logic_vectors : (
    vec 0xE0642803 [(4, 0xFFFF0000), (5, 0x0FF00FF0)] 0x8001 [(3, 0x0FF00000)] 0x8001 &&
    vec 0xA464FFFF [(4, 0xFFFFFFFF)] 0x8001 [(3, 0x0000FFFF)] 0x8001 &&
    vec 0xA4640000 [(4, 0xFFFFFFFF)] 0x8001 [(3, 0x00000000)] 0x8001 &&
    vec 0xE0640004 [(4, 0x12345678), (0, 0x00000000)] 0x8001 [(3, 0x12345678)] 0x8001 &&
    vec 0xA864FFFF [(4, 0x12340000)] 0x8001 [(3, 0x1234FFFF)] 0x8001 &&
    vec 0xA8608000 [(0, 0x00000000)] 0x8001 [(3, 0x00008000)] 0x8001 &&
    vec 0xE0642005 [(4, 0xDEADBEEF)] 0x8001 [(3, 0x00000000)] 0x8001 &&
    vec 0xAC647FFF [(4, 0xFFFFFFFF)] 0x8001 [(3, 0xFFFF8000)] 0x8001 &&
    vec 0xAC648000 [(4, 0x00000000)] 0x8001 [(3, 0xFFFF8000)] 0x8001 &&
    vec 0xE0642808 [(4, 0x00000001), (5, 0x0000001F)] 0x8001 [(3, 0x80000000)] 0x8001 &&
    vec 0xE0642808 [(4, 0x12345678), (5, 0x00000020)] 0x8001 [(3, 0x12345678)] 0x8001 &&
    vec 0xB864001F [(4, 0x00000003)] 0x8001 [(3, 0x80000000)] 0x8001 &&
    vec 0xB8640020 [(4, 0x12345678)] 0x8001 [(3, 0x12345678)] 0x8001 &&
    vec 0xE0642848 [(4, 0x80000000), (5, 0x0000001F)] 0x8001 [(3, 0x00000001)] 0x8001 &&
    vec 0xB864007F [(4, 0x80000000)] 0x8001 [(3, 0x00000001)] 0x8001 &&
    vec 0xE0642888 [(4, 0x80000000), (5, 0x0000001F)] 0x8001 [(3, 0xFFFFFFFF)] 0x8001 &&
    vec 0xE0642888 [(4, 0x7FFFFFFF), (5, 0x0000001F)] 0x8001 [(3, 0x00000000)] 0x8001 &&
    vec 0xB8640081 [(4, 0xFFFFFFFF)] 0x8001 [(3, 0xFFFFFFFF)] 0x8001 &&
    vec 0xE06428C8 [(4, 0x00000001), (5, 0x00000001)] 0x8001 [(3, 0x80000000)] 0x8001 &&
    vec 0xE06428C8 [(4, 0x12345678), (5, 0x00000000)] 0x8001 [(3, 0x12345678)] 0x8001 &&
    vec 0xB86400DC [(4, 0x12345678)] 0x8001 [(3, 0x23456781)] 0x8001 &&
    vec 0xB86400E4 [(4, 0x12345678)] 0x8001 [(3, 0x81234567)] 0x8001 &&
    vec 0xE064004C [(4, 0x0000017F)] 0x8001 [(3, 0x0000007F)] 0x8001 &&
    vec 0xE064004C [(4, 0x000000FF)] 0x8001 [(3, 0xFFFFFFFF)] 0x8001 &&
    vec 0xE06400CC [(4, 0xFFFFFFFF)] 0x8001 [(3, 0x000000FF)] 0x8001 &&
    vec 0xE064000C [(4, 0x00017FFF)] 0x8001 [(3, 0x00007FFF)] 0x8001 &&
    vec 0xE064000C [(4, 0x0000FFFF)] 0x8001 [(3, 0xFFFFFFFF)] 0x8001 &&
    vec 0xE064008C [(4, 0xFFFFFFFF)] 0x8001 [(3, 0x0000FFFF)] 0x8001 &&
    vec 0xE064000D [(4, 0x80000000)] 0x8001 [(3, 0x80000000)] 0x8001 &&
    vec 0xE064004D [(4, 0xFFFFFFFF)] 0x8001 [(3, 0xFFFFFFFF)] 0x8001 &&
    vec 0x1860FFFF [(3, 0x12345678)] 0x8001 [(3, 0xFFFF0000)] 0x8001 &&
    vec 0x18001234 [] 0x8001 [(0, 0x12340000), (3, 0x00000000)] 0x8001) = true := by
  decide +kernel

/-- 95_test_vectors.md T25, two columns. -/
theorem test_compare_vectors : (
    vec 0xE4042800 [(4, 0xFFFFFFFF), (5, 0x00000001)] 0x8001 [] 0x8001 &&
    vec 0xE4042800 [(4, 0x00000000), (5, 0xFFFFFFFF)] 0x8001 [] 0x8001 &&
    vec 0xE4242800 [(4, 0xFFFFFFFF), (5, 0x00000001)] 0x8001 [] 0x8201 &&
    vec 0xE4242800 [(4, 0x00000000), (5, 0xFFFFFFFF)] 0x8001 [] 0x8201 &&
    vec 0xE4442800 [(4, 0xFFFFFFFF), (5, 0x00000001)] 0x8001 [] 0x8201 &&
    vec 0xE4442800 [(4, 0x00000000), (5, 0xFFFFFFFF)] 0x8001 [] 0x8001 &&
    vec 0xE4642800 [(4, 0xFFFFFFFF), (5, 0x00000001)] 0x8001 [] 0x8201 &&
    vec 0xE4642800 [(4, 0x00000000), (5, 0xFFFFFFFF)] 0x8001 [] 0x8001 &&
    vec 0xE4842800 [(4, 0xFFFFFFFF), (5, 0x00000001)] 0x8001 [] 0x8001 &&
    vec 0xE4842800 [(4, 0x00000000), (5, 0xFFFFFFFF)] 0x8001 [] 0x8201 &&
    vec 0xE4A42800 [(4, 0xFFFFFFFF), (5, 0x00000001)] 0x8001 [] 0x8001 &&
    vec 0xE4A42800 [(4, 0x00000000), (5, 0xFFFFFFFF)] 0x8001 [] 0x8201 &&
    vec 0xE5442800 [(4, 0xFFFFFFFF), (5, 0x00000001)] 0x8001 [] 0x8001 &&
    vec 0xE5442800 [(4, 0x00000000), (5, 0xFFFFFFFF)] 0x8001 [] 0x8201 &&
    vec 0xE5642800 [(4, 0xFFFFFFFF), (5, 0x00000001)] 0x8001 [] 0x8001 &&
    vec 0xE5642800 [(4, 0x00000000), (5, 0xFFFFFFFF)] 0x8001 [] 0x8201 &&
    vec 0xE5842800 [(4, 0xFFFFFFFF), (5, 0x00000001)] 0x8001 [] 0x8201 &&
    vec 0xE5842800 [(4, 0x00000000), (5, 0xFFFFFFFF)] 0x8001 [] 0x8001 &&
    vec 0xE5A42800 [(4, 0xFFFFFFFF), (5, 0x00000001)] 0x8001 [] 0x8201 &&
    vec 0xE5A42800 [(4, 0x00000000), (5, 0xFFFFFFFF)] 0x8001 [] 0x8001) = true := by
  decide +kernel

/-- 95_test_vectors.md T26, two columns. -/
theorem test_compare_immediate_vectors : (
    vec 0xBC04FFFF [(4, 0xFFFFFFFF)] 0x8001 [] 0x8201 &&
    vec 0xBC04FFFF [(4, 0x00000000)] 0x8001 [] 0x8001 &&
    vec 0xBC24FFFF [(4, 0xFFFFFFFF)] 0x8001 [] 0x8001 &&
    vec 0xBC24FFFF [(4, 0x00000000)] 0x8001 [] 0x8201 &&
    vec 0xBC44FFFF [(4, 0xFFFFFFFF)] 0x8001 [] 0x8001 &&
    vec 0xBC44FFFF [(4, 0x00000000)] 0x8001 [] 0x8001 &&
    vec 0xBC64FFFF [(4, 0xFFFFFFFF)] 0x8001 [] 0x8201 &&
    vec 0xBC64FFFF [(4, 0x00000000)] 0x8001 [] 0x8001 &&
    vec 0xBC84FFFF [(4, 0xFFFFFFFF)] 0x8001 [] 0x8001 &&
    vec 0xBC84FFFF [(4, 0x00000000)] 0x8001 [] 0x8201 &&
    vec 0xBCA4FFFF [(4, 0xFFFFFFFF)] 0x8001 [] 0x8201 &&
    vec 0xBCA4FFFF [(4, 0x00000000)] 0x8001 [] 0x8201 &&
    vec 0xBD44FFFF [(4, 0xFFFFFFFF)] 0x8001 [] 0x8001 &&
    vec 0xBD44FFFF [(4, 0x00000000)] 0x8001 [] 0x8201 &&
    vec 0xBD64FFFF [(4, 0xFFFFFFFF)] 0x8001 [] 0x8201 &&
    vec 0xBD64FFFF [(4, 0x00000000)] 0x8001 [] 0x8201 &&
    vec 0xBD84FFFF [(4, 0xFFFFFFFF)] 0x8001 [] 0x8001 &&
    vec 0xBD84FFFF [(4, 0x00000000)] 0x8001 [] 0x8001 &&
    vec 0xBDA4FFFF [(4, 0xFFFFFFFF)] 0x8001 [] 0x8201 &&
    vec 0xBDA4FFFF [(4, 0x00000000)] 0x8001 [] 0x8001) = true := by
  decide +kernel

/-- The examples of 45_orfpx.md R610, R612, R613, R616: 1+2, 2*3, 1/2, 1/0 with DZF and INF, -1 to a float. -/
theorem test_float_vectors : (
    vec64 0xC8642800 0x3F800000 0x40000000 0x40400000 0 &&
    vec64 0xC8642802 0x40000000 0x40400000 0x40C00000 0 &&
    vec64 0xC8642803 0x3F800000 0x40000000 0x3F000000 0 &&
    vec64 0xC8642803 0x3F800000 0x00000000 0x7F800000 0xC00 &&
    vec64 0xC8640004 0xFFFFFFFF 0 0xBF800000 0) = true := by
  decide +kernel

/-- Vector T40 (95_test_vectors.md): the four rounding modes in FPCSR[2:1], and the flags of 0/0. -/
theorem test_float_modes :
    ([((0 : Word32), (0x40200000 : Word), (2 : Word), (0x100 : Word32)), (4, 0x40200000, 3, 0x104), (2, 0xC0200000, 0xFFFFFFFE, 0x102),
      (6, 0xC0200000, 0xFFFFFFFD, 0x106)].all fun c =>
        gives (executeWord 0xC8640005 { start Config.full [(4, c.2.1)] 0x8001 with fpcsr := c.1 })
          (fun t => t.gpr 3 == c.2.2.1 && t.fpcsr == c.2.2.2)) = true ∧
    gives (executeWord 0xC8642803 (start Config.full [] 0x8001)) (fun t => t.fpcsr == 0x240) = true := by
  decide +kernel

/-- The examples of 46_orvdx_a.md R692, R702, R725 and 47_orvdx_b.md R769, R779, R798. -/
theorem test_vector_vectors : (
    vec64 0x28642832 0x7F80FF0102030405 0x0180010102FE7FFB 0x7F80000204017F00 0 &&
    vec64 0x28642812 0x0102030405060708 0x01020304050607FF 0xFFFFFFFFFFFFFFFF 0 &&
    vec64 0x28642839 0x7F80FF0102030405 0x7F80010102FE7F06 0x7F80000102004105 0 &&
    vec64 0x2864285C 0x7FFF8000FFFF0003 0x7FFF8000000100FF 0x7FFF7FFFFFFF02FD 0 &&
    vec64 0x28642866 0xFEDCBA9876543210 0x0123456789ABCDEF 0x0123456789ABCDEF 0 &&
    vec64 0x28642879 0xFFFFFFFF8F7E0C91 0x1234567812345678 0xF8FF07FE00FCF901 0) = true := by
  decide +kernel

/-- The first instruction after reset is the one placed where it is fetched (0x00000100, 60_exceptions.md R842): `l.addi r3,r4,-1`. -/
theorem test_first_instruction :
    gives (step (State.reset.withFetchWord 32 0x9C64FFFF)) (fun t => t.gpr 3 == 0xFFFFFFFF && t.pc == 0x104) = true := by
  decide +kernel

/-- A system call in user mode: EPCR the next instruction, ESR the old SR, SR supervisor, `pc` the vector
(60_exceptions.md R855, R860-R864). -/
theorem test_system_call :
    gives (executeWord 0x20000001 (start Config.reference [] 0x8006)) (fun t =>
      t.pc == 0xC00 && t.epcr.at 0 == 0x2004 && t.esr.at 0 == 0x8006 && t.sr == 0x8001) = true := by
  decide +kernel

/-- A doubleword stored and loaded back: the most significant byte lies lowest (20_memory.md R202, 95_test_vectors.md T13). -/
theorem test_doubleword :
    gives (exec (.lSd 4 5 8) (start Config.full [(4, 0x3000), (5, 0x0102030405060708)] 0x8001)) (fun t =>
      t.mem.read 0x3008 == 1 && t.mem.read 0x300F == 8 &&
      gives (exec (.lLd 3 4 8) t) (fun u => u.gpr 3 == 0x0102030405060708)) = true := by
  decide +kernel


/-- The coherence sequence for an instruction word at 0x3000 (vector T15), one instruction each: write back, wait, invalidate,
flush the pipeline; what a fetch may still see of the old word goes with the last. -/
theorem test_coherence_sequence :
    let s := start Config.full [(4, 0x3000)] 0x8001
    let w (g : Coherence) : StaleWord := { addr := 0x3000, old := 0x15000000, stage := g }
    gives (executeWord 0xC0602004 { s with stale := [w .stored] }) (fun t => t.stale == [w .writtenBack]) = true ∧
    gives (executeWord 0x23000000 { s with stale := [w .writtenBack] }) (fun t => t.stale == [w .synced]) = true ∧
    gives (executeWord 0xC0802002 { s with stale := [w .synced] }) (fun t => t.stale == [w .invalidated]) = true ∧
    gives (executeWord 0x22800000 { s with stale := [w .invalidated, w .stored, w .synced] })
      (fun t => t.stale == [w .stored, w .flushed]) = true ∧
    gives (executeWord 0xC0802002 { s with stale := [w .flushed] }) (fun t => t.stale == [w .invalidated]) = true ∧
    gives (exec (.lSw 4 5 0) s) (fun t => t.stale == [{ addr := 0x3000, old := 0, stage := .stored }]) = true := by
  decide +kernel

/-- DCBWR moves the replaced word of the named block of 32 bytes, named by its last byte, and leaves that of the next one; where its
address does not translate, with the data MMU on and no entry, it leaves both (20_memory.md R275, R280). -/
theorem test_block_writes :
    let s := { start Config.full [(4, 0x301F)] 0x8001 with
      stale := [{ addr := 0x3000, old := 1, stage := .stored }, { addr := 0x3020, old := 2, stage := .stored }] }
    gives (executeWord 0xC0602004 s) (fun t => t.stale.map StaleWord.stage == [.writtenBack, .stored]) = true ∧
    gives (executeWord 0xC0602004 { s with sr := 0x8021 }) (fun t => t.stale == s.stale) = true := by
  decide +kernel

/-- Without denormals the remainder of 3 * 2^-127 by 2^-126 is -2^-127, or 2^-127 truncated, flushed to a zero that is not inexact
(45_orfpx.md R606). -/
theorem test_rem_never_inexact :
    let e : FEnv := { mode := .nearest, tinyAfter := true, denormals := false }
    fpRem .single e .ieee (.num false 3 (-127)) (.num false 1 (-126)) = { out := .bits 0x80000000, flags := { zf := true } } ∧
    fpRem .single e .trunc (.num false 3 (-127)) (.num false 1 (-126)) = { out := .bits 0, flags := { zf := true } } := by
  decide +kernel

/-- The full machine at 0x2000 with pair 0 comparing the fetch address with 0x2000, and counter 0 enabled. -/
def watcher : State :=
  { start Config.full [] 0x8001 with
    dcr := (Bank.fill 3 0).put 0 0x22, dvr := (Bank.fill 3 0).put 0 0x2000, dmr2 := 1 }

/-- An instruction fetched at 0x2000 counts once, one fetched elsewhere does not; a doubled comparison with a load's address
(61_platform_units.md R986, R991, R994). -/
theorem test_watchpoint_counts :
    (watcher.countedDwcr { fetchEa := 0x2000, access := none } 0 0 = 1 ∧
      watcher.countedDwcr { fetchEa := 0x2004, access := none } 0 0 = 0 ∧
      watcher.countedDwcr { fetchEa := 0x2000, access := none } 0 1 = 0) ∧
    State.dvrMatch { watcher with dcr := (Bank.fill 3 0).put 0 0x46, dvr := (Bank.fill 3 0).put 0 0x3004 }
      { fetchEa := 0x2000, access := some { store := false, ea := 0x3004, size := 4, data := none } } 0 = true := by
  decide +kernel

/-- `l.rfe`, `l.sys`, a store in a taken slot and an addition that overflows have their effect, though three of them end at another address; a
load that misses the TLB, `l.rfe` in user mode and `l.trap` that stops for the debugger have not (61_platform_units.md R986). -/
theorem test_had_effect :
    let ends := fun (s : State) (i : Instr) => gives (exec i s) (s.hadEffect (some i))
    let small : State := { watcher with sr := 0x9001, gprs := (Bank.fill 9 0).put 4 0x7FFFFFFFFFFFFFFF }
    (ends watcher .lRfe && ends watcher (.lSys 0) && ends small (.lAdd 3 4 4) &&
      ends { watcher with dsPending := true, hist := .slot true } (.lSw 0 5 0x3000)) = true ∧
    (ends { watcher with sr := 0x8021 } (.lLwz 3 0 0x3000) || ends { watcher with sr := 0x8000 } .lRfe ||
      ends { watcher with dsr := 0x2000 } (.lTrap 0)) = false := by
  decide +kernel

/-- The watching machine with DWCR0 = `w`. -/
def counter (w : Word32) : State := { watcher with dwcr := (Bank.fill 1 0).put 0 w }

/-- An instruction fetched at 0x2000. -/
def fetched : Seen := { fetchEa := 0x2000, access := none }

/-- COUNT reaching MATCH fires watchpoint 8, whatever the free value is; a count that is not there yet, or was there before, does
not; as a level the last does (61_platform_units.md R987, R992, R994). -/
theorem test_counter_match :
    (counter 0x00010000).watchpoint fetched 0 8 = true ∧ (counter 0x00010000).watchpoint fetched (BitVec.allOnes 64) 8 = true ∧
    (counter 0x0000FFFF).watchpoint fetched 0 8 = true ∧ (counter 0x00020000).watchpoint fetched 0 8 = false ∧
    (counter 0).watchpoint fetched 0 8 = false ∧
    State.watchpoint { counter 0 with cfg := { Config.full with counterLevel := true } } fetched 0 8 = true := by
  decide +kernel

/-- Watchpoint 0 counts in counter 1, whose watchpoint 9 counts in counter 0, which then fires watchpoint 8. -/
theorem test_counter_chain :
    State.watchpoint { counter 0 with dmr2 := 7, dwcr := (Bank.fill 1 0x00010000) } fetched 0 8 = true := by
  decide +kernel

/-- Core 1 writes core 0's OMPIC control register (the message of R973): status, line, and the reservation on that word. -/
theorem test_foreign_message :
    let s := { start Config.full [] 0x8001 with resv := some 0x98000008 }
    (s.foreignMessages [(1, 0x4000BEEF)]).ompic = [0x4001BEEF, 0] ∧
    (s.foreignMessages [(1, 0x4000BEEF)]).irqLines = 2 ∧ (s.foreignMessages [(1, 0x4000BEEF)]).resv = none := by
  decide +kernel

/-- With this core's line up and edge-triggered: an ACK to its own control register and then a GEN from core 1 drop and raise it, so its latch
is set; the same two through one store do not (entry 24). -/
theorem test_foreign_messages_edge :
    let s := { start { Config.full with picEdge := 2 } [] 0x8001 with ompic := [0x40000000, 0] }
    (s.foreignMessages [(0, 0x80000000), (1, 0x4000BEEF)]).picLatch = 2 ∧
    (s.foreignMessages [(0, 0xC000BEEF)]).picLatch = 0 := by
  decide +kernel

/-- The environment cannot raise the OMPIC's line: with line 1 driven from outside and IRQ_PEND = 0 it is low (R972). -/
theorem test_ompic_line :
    State.irqLines { start Config.full [] 0x8001 with irqIn := 7, ompic := [0, 0] } = 5 ∧
    State.irqLines { start Config.full [] 0x8001 with irqIn := 5, ompic := [0x40000000, 0] } = 7 := by
  decide +kernel

/-- The full machine with one MMU and one cache for data and instructions (10_state.md R53). -/
def unified : Config := { Config.full with unifiedMmu := true, unifiedCache := true }

/-- Groups 1 and 2 name one set of registers, as do DCCR and ICCR; without unification they name two. EPCR15 exists with four
contexts (60_exceptions.md R880). -/
theorem test_unified_registers :
    unified.wf = true ∧ sprAt unified 0x1200 = some (.dtlbmr 0) ∧ sprAt unified 0x0A00 = some (.dtlbmr 0) ∧
    sprAt unified 0x2000 = some .dccr ∧ sprAt unified 0x2002 = some .icbir ∧
    sprAt Config.full 0x1200 = some (.itlbmr 0) ∧ sprAt Config.full 0x2000 = some .iccr ∧
    sprAt Config.full 0x002F = some (.epcr 15) ∧ Spr.present Config.full (.epcr 15) = true ∧
    Spr.present Config.reference (.epcr 1) = false := by decide +kernel

/-- In a unified cache the coherence sequence needs no invalidation: `l.psync` ends it once the update has finished (entry 45). -/
theorem test_unified_store :
    let w (g : Coherence) : StaleWord := { addr := 0x3000, old := 0, stage := g }
    gives (executeWord 0x22800000 { start unified [] 0x8001 with stale := [w .stored, w .synced] })
      (fun t => t.stale == [w .stored]) = true := by
  decide +kernel

/-- PMR takes the bits of the features that are implemented alone (61_platform_units.md R1020, entry 49). -/
theorem test_pmr_fields :
    gives (executeWord 0xC1002000 (start { Config.full with pmrFields := 0x30 } [(4, 0xFFFF)] 0x8001)) (fun t => t.pmr == 0x30) = true := by
  decide +kernel

/-- A wake-up from sleep mode clears SME and DME (61_platform_units.md R1022, entry 22). -/
theorem test_wake :
    (State.paused { start Config.full [] 0x8001 with pmr := 0x30, picmr := 4, irqIn := 4 }).map State.pmr = some 0 := by
  decide +kernel

/-! ## States and operands that meet the hypotheses of the statements -/

/-- Every instruction may have its effect on the full machine, where nothing blocks it. -/
theorem ready_full {s : State} (hc : s.cfg = Config.full) (hb : s.blocked = none) (i : Instr) : Ready i s := by
  refine ⟨hb, ?_, ?_⟩
  · rw [hc]
    unfold present
    have h : ((Instr.subset i).present Config.full) = true := by cases Instr.subset i <;> decide
    rw [h]
    rfl
  · have h : ∀ r, s.regMissing r = false := fun r => by simp [State.regMissing, hc, Config.full, Config.reference]
    simp [h]

/-- The full machine in supervisor mode at 0x2000, in straight-line code, with values in r4 and r5. -/
def full (a b : Word) : State :=
  { State.resetFor Config.full with
    pc := 0x2000, sr := 0x8001, hist := .straight, gprs := ((Bank.fill 9 0).put 4 a).put 5 b }

/-- Nothing blocks an instruction where SR[CE] and the debug registers are zero. -/
theorem unblocked {s : State} (hs : s.sr.getLsbD 8 = false) (h1 : s.dmr1 = 0) (h2 : s.dmr2 = 0) : s.blocked = none := by
  have : s.sr[8] = false := hs
  simp [State.blocked, State.contextBad, State.fcs, State.debugArmed, this, h1, h2]

/-- No exception is redirected where DSR is zero. -/
theorem not_redirected {s : State} (h : s.dsr = 0) (x : Exc) : s.redirects x = false := by simp [State.redirects, h]

theorem ready (a b : Word) (i : Instr) : Ready i (full a b) :=
  ready_full (by simp [full, State.resetFor]) (unblocked (by simp [full]) (by simp [full, State.resetFor]) (by simp [full, State.resetFor])) i

/-- The full machine in user mode. -/
def user (sr : Word32) : State := { full 0 0 with sr := sr }

theorem ready_watcher (i : Instr) : Ready i watcher := ready_full rfl rfl i

theorem ready_user (sr : Word32) (h : (user sr).blocked = none) (i : Instr) : Ready i (user sr) := ready_full rfl h i

/-- The invariant of a state that differs from a reset state in `pc` and `hist`. -/
theorem inv_at (c : Config) (pc : Word) (h : PcHistory) (hp : pc.extractLsb' 0 2 = 0) (hx : trunc c.xlen pc = pc) :
    Inv { State.resetFor c with pc := pc, hist := h } where
  mem := by simp [State.resetFor, Memory.wf]
  pcAligned := hp
  targetAligned := by simp [State.resetFor]
  pcWidth := hx
  targetWidth := by cases h : c.xlen <;> simp [State.resetFor, h, trunc]
  gprWidth i := by cases h : c.xlen <;> simp [State.resetFor, h, trunc]
  epcrWidth i := by cases h : c.xlen <;> simp [State.resetFor, h, trunc]
  eearWidth i := by cases h : c.xlen <;> simp [State.resetFor, h, trunc]
  srFixed := by simp [State.resetFor]
  srLee _ := by simp [State.resetFor]
  evbarLow := by
    apply BitVec.eq_of_getLsbD_eq
    intro i hi
    have : ∀ k < 32, ((0xFFFFE000 : Word32) &&& 0x1FFF).getLsbD k = false := by decide
    have := this i hi
    simp [State.resetFor, BitVec.and_assoc] at *
  aecrBits := by simp [State.resetFor]
  aesrBits := by simp [State.resetFor]
  fpcsrBits := by simp [State.resetFor]
  dsrBits := by simp [State.resetFor]
  drrBits := by simp [State.resetFor]
  pmrBits := by simp [State.resetFor]
  resvAligned _ a h := by simp [State.resetFor] at h
  ompicCores := by simp [State.resetFor]
  staleAligned e h := by simp [State.resetFor] at h
  staleCached _ := by simp [State.resetFor]
  noSlot _ := by simp [State.resetFor]

/-- A word of no row; an exception that no debug unit takes. -/
theorem witness_UnallocatedWordTraps :
    (∀ r ∈ opcodeTable, (0x2C000000 : Word32) &&& r.mask ≠ r.pattern) ∧ (full 0 0).redirects .illegal = false := by
  decide +kernel

/-- `lf.add.s` on the reference machine, which has no floating point; r16 where there are sixteen registers, of an addition and as the
data register of special-register moves, in supervisor mode and of MACLO in user mode. -/
theorem witness_AbsentInstructionTraps :
    (State.reset.blocked = none ∧ present State.reset.cfg (.lfAddS 3 4 5) = false ∧
      State.reset.redirects .illegal = false) ∧
    let s := State.resetFor { Config.reference with ngpr16 := true }
    s.blocked = none ∧ present s.cfg (.lAdd 3 16 5) = true ∧ s.cfg.ngpr16 = true ∧
      (16 : Reg) ∈ Instr.regsNow (.lAdd 3 16 5) ∧ s.redirects .range = false ∧
      present s.cfg (.lMfspr 16 0 0x2801) = true ∧ present s.cfg (.lMtspr 0 16 0x2801) = true ∧
      (0 : Reg).toNat < 16 ∧ 16 ≤ (16 : Reg).toNat ∧ s.sr.getLsbD 0 = true ∧
      { s with sr := 0x8000 }.blocked = none ∧ { s with sr := 0x8000 }.cfg.mp = true ∧
      (({ s with sr := 0x8000 }.gpr 0 ||| (0x2801 : BitVec 16).setWidth 64).setWidth 16 : BitVec 16) = 0x2801 := by
  decide +kernel

/-- The reset input asserted. -/
theorem witness_ResetValues :
    { full 0 0 with
      inputs := [{ ticks := 0, irq := 0, reset := true, writes := [], messages := [], debug := [] }] }.resetAsserted =
        true := by
  decide +kernel

/-- Four bytes at the top of a 32-bit space. -/
theorem witness_StoredValueReadsBack :
    Memory.wf [(0xFFFFFFFF, 7)] = true ∧ [0xFFFFFFFC, 0xFFFFFFFD, 0xFFFFFFFE, 0xFFFFFFFF].Nodup := by
  decide +kernel

/-- A step from a state with the invariant. -/
theorem witness_StepKeepsInv :
    Inv { State.resetFor Config.full with pc := 0x2000, hist := .entered } ∧
    ∃ t, step { State.resetFor Config.full with pc := 0x2000, hist := .entered } = .next t :=
  ⟨inv_at _ _ _ (by decide) rfl, _, rfl⟩

/-- Any next state will do. -/
theorem witness_StepKeepsConfig : ∃ t, step State.reset = .next t := ⟨_, rfl⟩

/-- The reset state fetches a word of zeros: `l.j 0`. The reference machine has no debug unit; on the full machine a counter may count
or not, before and after the instruction; an uncombined watchpoint. -/
theorem witness_StepRunsDecoded :
    (State.reset.resetAsserted = false ∧ State.reset.environment.debugStopped = false ∧
      State.reset.environment.paused = none ∧ State.reset.environment.blocked = none ∧
      State.reset.environment.interrupt = none ∧ State.reset.environment.fetch = .ok (0, State.reset) ∧
      decodeWord 0 = some (.lJ 0) ∧ (State.reset.cfg.dup && State.reset.cfg.wpci) = false) ∧
    (watcher.resetAsserted = false ∧ watcher.environment.debugStopped = false ∧ watcher.environment.paused = none ∧
      watcher.environment.blocked = none ∧ watcher.environment.interrupt = none ∧
      watcher.environment.fetch = .ok (0, watcher) ∧ watcher.watching = true ∧
      ∃ v, exec (.lJ 0) watcher.draw.2 = .next v ∧ v.watching = true ∧ HadEffect (.lJ 0) watcher v) ∧
    (∃ v, exec .lRfe watcher.draw.2 = .next v ∧ v.watching = true ∧ HadEffect .lRfe watcher v) ∧
    (full 0 0).watching = false ∧ (∃ v, exec (.lJ 0) (full 0 0) = .next v ∧ v.watching = false) ∧
    (watcher.dmr1.extractLsb' (2 * 7) 2 = 0 ∧ watcher.dmr1.extractLsb' (2 * 8) 2 = 0 ∧
      (watcher.dwcr.at 0).extractLsb' 0 16 = (watcher.dwcr.at 0).extractLsb' 16 16 ∧
      (((Bank.fill 1 0).put 0 0x00010000 : Bank 1 Word32).at 0).extractLsb' 0 16 ≠
        (((Bank.fill 1 0).put 0 0x00010000 : Bank 1 Word32).at 0).extractLsb' 16 16) :=
  ⟨⟨rfl, rfl, rfl, rfl, rfl, rfl, by decide +kernel, rfl⟩,
   ⟨rfl, rfl, rfl, rfl, rfl, rfl, rfl, _, rfl, rfl, .inl ⟨by decide, rfl⟩⟩,
   ⟨_, rfl, rfl, .inr ⟨ready_watcher .lRfe, .inl ⟨rfl, rfl⟩⟩⟩, rfl, ⟨_, rfl, rfl⟩, by decide +kernel⟩

/-- What a load and a store offer to the comparators, and a signed comparison with a negative value that holds where the unsigned one
does not (61_platform_units.md R991). -/
theorem witness_StepRunsDecoded_pairs :
    (∃ r, (full 0x3000 0).memRead ((full 0x3000 0).effAddr 4 0) 4 = .ok r) ∧
    (let s := fun (dcr : Word32) => { watcher with dcr := (Bank.fill 3 0).put 7 dcr, dvr := (Bank.fill 3 0).put 7 0xFFFFFFFE }
     (s 0xF8).dvrMatch { fetchEa := 0, access := some { store := false, ea := 0, size := 4, data := some 5 } } 7 = true ∧
     (s 0xE8).dvrMatch { fetchEa := 0, access := some { store := false, ea := 0, size := 4, data := some 5 } } 7 = false) :=
  ⟨⟨_, rfl⟩, by decide +kernel⟩

/-- A 32-bit machine with an instruction cache that has kept an old word of address 0x100. -/
def kept (g : Coherence) : State :=
  { State.resetFor { Config.reference with icp := true } with stale := [{ addr := 0x100, old := 0x15000000, stage := g }] }

/-- A 32-bit machine with an instruction MMU and 4 Kbytes of memory. -/
def fetching (sr : Word32) (pc : Word) : State :=
  { State.resetFor { Config.reference with imp := true, ram := [{ base := 0, size := 4096 }] } with sr := sr, pc := pc }

/-- The reset vector, and the last word of the address space; no replaced word, and one that the fetch may still see; an
empty TLB, and an address with no memory behind it. -/
theorem witness_FetchReadsMemory :
    (    State.reset.cfg.xlen = .x32 ∧ State.reset.translates .fetch = false ∧
    (∀ pc ∈ [0x100, 0xFFFFFFFC], pc < 2 ^ 32 ∧ pc % 4 = 0 ∧
      ∀ k < 4, byteValid State.reset.cfg (pc + k) = true ∧ inOmpic State.reset.cfg (pc + k) = false) ∧
    State.reset.stale = [] ∧ (kept .stored).cfg.xlen = .x32 ∧ (kept .stored).translates .fetch = false ∧
    (kept .stored).pc.toNat = 0x100 ∧ (kept .stored).stale.map StaleWord.addr = [0x100] ∧
    ∀ k < 4, byteValid (kept .stored).cfg (0x100 + k) = true ∧ inOmpic (kept .stored).cfg (0x100 + k) = false) ∧
    ((fetching 0x8041 0x2000).redirects .itlbMiss = false ∧ (fetching 0x8001 0x2000).redirects .busError = false ∧
      Machine.translate (fetching 0x8041 0x2000) .fetch 0x2000 4 = .raise .itlbMiss 0x2000 ∧
      Machine.translate (fetching 0x8001 0x2000) .fetch 0x2000 4 =
        .ok { addrs := [0x2000, 0x2001, 0x2002, 0x2003], cached := false, inhibited := false, state := fetching 0x8001 0x2000 } ∧
      byteValid (fetching 0x8001 0x2000).cfg 0x2000 = false) :=
  ⟨by decide +kernel, rfl, rfl, rfl, rfl, by decide +kernel⟩

/-- The reset state with SR, TTMR and the interrupt lines set; a line is unmasked. -/
def pending (sr ttmr irq : Word32) : State := { State.reset with sr := sr, ttmr := ttmr, irqIn := irq, picmr := 4 }

/-- The full machine with PMR `p` and the interrupt lines `q`, of which line 2 is unmasked. -/
def asleep (p q : Word32) : State := { full 0 0 with pmr := p, picmr := 4, irqIn := q }

/-- A core with neither a timer nor a PIC, whose TTMR and PICMR hold what those units would need, and the interrupt lines `q`. -/
def unitless (q : Word32) : State :=
  { State.resetFor { Config.reference with ttp := false, picp := false } with
    sr := 0x8007, ttmr := 0x10000000, irqIn := q }

/-- The timer's exception; the external interrupt with the timer's masked; neither, masked or not pending; suspend, sleep and doze
mode, each with the event that ends it and without; line 0 up and down without a PIC and a timer. -/
theorem witness_InterruptRecognition :
    (∀ s ∈ [pending 0x8003 0x10000000 4, pending 0x8005 0x10000000 4, pending 0x8001 0x10000000 4, pending 0x8005 0 0,
        unitless 1, unitless 4],
      s.debugStopped = false ∧ s.cfg.pmp = false ∧ s.blocked = none ∧
      s.redirects .tickTimer = false ∧ s.redirects .extInt = false) ∧
    (let s := pending 0x8003 0x10000000 4
     (s.sr.getLsbD 1 && (s.cfg.ttp && s.ttmr.getLsbD 28)) = true) ∧
    (let s := pending 0x8005 0x10000000 4
     s.cfg.picp = true ∧ (s.sr.getLsbD 1 && (s.cfg.ttp && s.ttmr.getLsbD 28)) = false ∧
       (s.sr.getLsbD 2 && ((s.irqLines &&& ~~~s.cfg.picEdge) ||| (s.picLatch &&& s.cfg.picEdge)) &&& s.picmr != 0) = true) ∧
    (pending 0x8001 0x10000000 4).sr.getLsbD 2 = false ∧
    (pending 0x8005 0 0).irqLines = 0 ∧
    ((unitless 1).cfg.ttp = false ∧ (unitless 1).cfg.picp = false ∧ (unitless 1).sr.getLsbD 2 = true ∧
      (unitless 1).irqLines.getLsbD 0 = true ∧ (unitless 4).irqLines.getLsbD 0 = false) ∧
    (∀ p q, (asleep p q).debugStopped = false ∧ (asleep p q).cfg.picp = true ∧ (asleep p q).cfg.pmp = true ∧
      (asleep p q).pmr = p) ∧
    ((asleep 0x30 0).picsr &&& (asleep 0x30 0).picmrValue = 0 ∧ (asleep 0x30 4).picsr &&& (asleep 0x30 4).picmrValue ≠ 0) ∧
    (0x80 : Word32).getLsbD 7 = true ∧ ((0x30 : Word32).getLsbD 7 = false ∧ (0x30 : Word32).getLsbD 5 = true) ∧
    ((0x10 : Word32).getLsbD 7 = false ∧ (0x10 : Word32).getLsbD 5 = false ∧ (0x10 : Word32).getLsbD 4 = true) :=
  ⟨by decide +kernel, by decide +kernel, by decide +kernel, by decide +kernel, by decide +kernel, by decide +kernel,
   fun _ _ => ⟨rfl, rfl, rfl, rfl⟩, by decide +kernel, by decide, by decide, by decide⟩

/-- Disabled; a one-shot at its match; restart mode one before its match, with and without IE; free-running at its match;
a one-shot one before its match. No input, a timer that counts, and each state of its wait. -/
theorem witness_TimerTickRule :
    State.reset.cfg.ttp = true ∧
    (0x20000003 : Word32).extractLsb' 30 2 = 0 ∧
    ((0xA0000003 : Word32).extractLsb' 30 2 = 2 ∧
      (0x10000003 : Word32).extractLsb' 0 28 = (0xA0000003 : Word32).extractLsb' 0 28) ∧
    ([(0x60000003 : Word32), 0x40000003].all fun m => m.extractLsb' 30 2 == 1 &&
      ((2 : Word32) + 1).extractLsb' 0 28 == m.extractLsb' 0 28) = true ∧
    (0xE0000003 : Word32).extractLsb' 30 2 = 3 ∧
    ((0xA0000003 : Word32).getLsbD 29 = true ∧ (0x40000003 : Word32).getLsbD 29 = false) ∧
    (2 : Word32).extractLsb' 0 28 ≠ (0xA0000003 : Word32).extractLsb' 0 28 ∧
    (∀ w ∈ [none, some 0, some 1], let s := { State.reset with ttmr := 0xE0000003, tickWait := w }
      s.inputs = [] ∧ s.timerRuns = true ∧ s.clockStopped = false) := by
  decide +kernel

/-- No exception is redirected where DSR is zero; in a delay slot or not, with and without fast context switching. -/
theorem witness_EntrySr_EntryEpcr_EntryFrame :
    (∀ x ∈ [Exc.busError, .syscall, .floatingPoint, .trap, .tickTimer],
      (full 0 0).redirects x = false ∧ { full 0 0 with dsPending := true }.redirects x = false) ∧
    { full 0 0 with sr := 0x8101 }.fcs = true ∧ (full 0 0).fcs = false := by
  decide +kernel

/-- DSR has the bit of Trap: `l.trap` stops the core with its DRR bit and leaves `pc`, and the next step changes nothing
(61_platform_units.md R995, R996). -/
theorem test_debug_stop :
    (let s := { full 0 0 with dsr := 0x2000 }
     s.redirects .trap = true ∧ Ready (.lTrap 0) s ∧
     exec (.lTrap 0) s = .next { s with drr := 0x2000, debugStopped := true }) ∧
    (let u := { full 0 0 with drr := 0x2000, debugStopped := true }
     u.resetAsserted = false ∧ step u = .next u) :=
  ⟨⟨rfl, ready_full rfl rfl _, rfl⟩, rfl, rfl⟩

/-- The first and the last exception redirected, by their bits of DSR. -/
theorem witness_EntryFrame :
    { full 0 0 with dsr := 2 }.redirects .busError = true ∧ { full 0 0 with dsr := 0x2000 }.redirects .trap = true ∧
    { full 0 0 with debugStopped := true }.debugStopped = true ∧
    { full 0 0 with debugStopped := true }.resetAsserted = false :=
  ⟨rfl, rfl, rfl, rfl⟩

/-- Fast context switching at the first context, at the last but one and with all contexts used, and not active with NSGF > 0 or NSGF = 0; an
exception that writes EEAR and one that does not (60_exceptions.md R880, R881, R883). -/
theorem witness_EntryFrame_contexts :
    let at_ := fun (sr : Word32) => { full 0 0 with sr := sr, eear := Bank.fill 4 0x77 }
    ((full 0 0).cfg.nsgf = 3 ∧ (∀ x ∈ [Exc.illegal, .syscall], (at_ 0x8101).redirects x = false)) ∧
    ((at_ 0x00008101).enter .illegal 4).sr.extractLsb' 28 4 = 1 ∧ ((at_ 0x20008101).enter .illegal 4).sr.extractLsb' 28 4 = 3 ∧
    ((at_ 0x20008101).enter .illegal 4).eear.at 3 = 4 ∧ ((at_ 0x20008101).enter .syscall 4).eear.at 3 = 0x77 ∧
    ((at_ 0x30008101).enter .illegal 4).sr.extractLsb' 28 4 = 3 ∧ ((at_ 0x30008101).enter .illegal 4).pc = 0xB00 ∧
    ((at_ 0x30008101).enter .illegal 4).eear.at 3 = 0x77 ∧ ((at_ 0x30008001).enter .illegal 4).sr.extractLsb' 28 4 = 3 ∧
    ((at_ 0x30008001).enter .illegal 4).eear.at 0 = 4 ∧ Config.reference.nsgf = 0 := by
  decide +kernel

/-- A machine without delay slots, with the invariant and an exception that is entered. -/
theorem witness_EntryEpcr :
    let s := { State.resetFor { Config.reference with nd := true } with pc := 0x2000, hist := .entered }
    Inv s ∧ s.cfg.nd = true ∧ s.redirects .syscall = false :=
  ⟨inv_at _ _ _ (by decide) rfl, rfl, rfl⟩

/-- A state with the invariant and an exception that is entered. -/
theorem witness_EntryThenReturn :
    Inv { State.resetFor Config.full with pc := 0x2000, hist := .entered } ∧
    { State.resetFor Config.full with pc := 0x2000, hist := .entered }.redirects .syscall = false :=
  ⟨inv_at _ _ _ (by decide) rfl, rfl⟩

/-- SR[OVE] = 0 and every arithmetic instruction ready. -/
theorem witness_AddResults_SubResult_MulResults_MacResults :
    (full 0x7FFFFFFFFFFFFFFF 1).ove = false ∧ ∀ i, Ready i (full 0x7FFFFFFFFFFFFFFF 1) :=
  ⟨rfl, ready _ _⟩

/-- The most negative dividend and the divisor -1. -/
theorem witness_DivResults :
    sval (full 0x8000000000000000 (-1)).cfg.xlen ((full 0x8000000000000000 (-1)).gpr 5) ≠ 0 ∧
    (full 0x8000000000000000 (-1)).gpr 5 ≠ 0 ∧ ∀ i, Ready i (full 0x8000000000000000 (-1)) :=
  ⟨by decide +kernel, by decide +kernel, ready _ _⟩

/-- A zero divisor. -/
theorem witness_DivByZero : (full 7 0).ove = false ∧ (full 7 0).gpr 5 = 0 ∧ ∀ i, Ready i (full 7 0) :=
  ⟨rfl, by decide +kernel, ready _ _⟩

/-- SR[OVE] = 1: the greatest number plus one on the reference machine, which has no AECR, and on the full machine with OVADDE set; a
condition that holds and one that does not. -/
theorem witness_OverflowTraps :
    (let s := start Config.reference [(4, 0x7FFFFFFF), (5, 1)] 0x9001
     (s.blocked = none ∧ present s.cfg (.lAdd 3 4 5) = true ∧ (Instr.regsNow (.lAdd 3 4 5)).any s.regMissing = false) ∧
     s.ove = true ∧ s.cfg.hasAecr = false ∧ s.redirects .range = false ∧
     gives (exec (.lAdd 3 4 5) { s with sr := s.sr &&& 0xFFFFEFFF }) (fun v => v.overflow) = true ∧
     gives (exec (.lMulu 3 4 5) { s with sr := s.sr &&& 0xFFFFEFFF }) (fun v => !v.carry && !v.overflow) = true) ∧
    (let s := { full 0x7FFFFFFFFFFFFFFF 1 with sr := 0x9001, aecr := 2 }
     s.ove = true ∧ s.cfg.hasAecr = true ∧ s.redirects .range = false ∧
     gives (exec (.lAdd 3 4 5) { s with sr := s.sr &&& 0xFFFFEFFF }) (fun v => v.overflow) = true) ∧
    ∀ i, Ready i { full 0x7FFFFFFFFFFFFFFF 1 with sr := 0x9001, aecr := 2 } :=
  ⟨by decide +kernel, by decide +kernel, ready_full rfl (unblocked rfl rfl rfl)⟩

/-- Statements whose only hypotheses are that the instruction is ready: moves, accumulator moves, logic, shifts, extensions, compares,
synchronisation, the custom space, the refused instructions, floating-point compares, vectors. -/
theorem witness_ready : ∀ i, Ready i (full 0x8000000000000000 3) := ready _ _

/-- The square of the most negative 64-bit number does not fit 64 bits: `l.muld` sets OV, and its product is 0 (40_orbis_arith.md R372). -/
theorem test_muld_overflow :
    gives (exec (.lMuld 4 5) (full 0x8000000000000000 0x8000000000000000))
      (fun t => t.overflow && t.machi == 0x00000000 && t.maclo == 0) = true ∧
    gives (exec (.lMuld 4 5) (full 0x8000000000000000 1)) (fun t => !t.overflow && t.machi == 0x80000000) = true := by
  decide +kernel

/-- The located bytes of an access to the full machine with the MMU off. -/
def bytesAt (s : State) (as : List Nat) : Located := { addrs := as, cached := false, inhibited := false, state := s }

/-- Loads and stores of each width reach their bytes; a byte at the top of the physical memory. -/
theorem witness_LoadResults_StoreResults :
    (∀ k ∈ [Access.load, .store],
      Reaches (full 0x3000 0) k ((full 0x3000 0).effAddr 4 1) 1 (bytesAt (full 0x3000 0) [0x3001]) ∧
      Reaches (full 0x3000 0) k ((full 0x3000 0).effAddr 4 2) 2 (bytesAt (full 0x3000 0) [0x3002, 0x3003]) ∧
      Reaches (full 0x3000 0) k ((full 0x3000 0).effAddr 4 4) 4
        (bytesAt (full 0x3000 0) [0x3004, 0x3005, 0x3006, 0x3007]) ∧
      Reaches (full 0x3000 0) k ((full 0x3000 0).effAddr 4 0xFFF8) 8
        (bytesAt (full 0x3000 0) [0x2FF8, 0x2FF9, 0x2FFA, 0x2FFB, 0x2FFC, 0x2FFD, 0x2FFE, 0x2FFF]) ∧
      Reaches (full 0x3000 0) k 0x7FFFFFFFF 1 (bytesAt (full 0x3000 0) [0x7FFFFFFFF])) ∧
    (∀ r, (full 0x3000 0).regMissing r = false) ∧ (full 0x3000 0).mem.wf = true ∧ ∀ i, Ready i (full 0x3000 0) := by
  refine ⟨?_, fun _ => rfl, rfl, ready _ _⟩
  intro k hk
  simp only [List.mem_cons, List.not_mem_nil, or_false] at hk
  rcases hk with rfl | rfl <;> exact
    ⟨⟨by decide +kernel, rfl, by decide +kernel⟩, ⟨by decide +kernel, rfl, by decide +kernel⟩,
     ⟨by decide +kernel, rfl, by decide +kernel⟩, ⟨by decide +kernel, rfl, by decide +kernel⟩,
     ⟨by decide +kernel, rfl, by decide +kernel⟩⟩

/-- A word of two bytes read big-endian, and little-endian with SR[LEE], which has no effect where it is not supported (20_memory.md
R203). -/
theorem test_byte_order :
    let s := fun (sr : Word32) (lee : Bool) =>
      { full 0x3000 0 with sr := sr, mem := [(0x3000, 0x12), (0x3001, 0x34)], cfg := { Config.full with leeSupported := lee } }
    gives (exec (.lLhz 3 4 0) (s 0x8001 true)) (fun t => t.gpr 3 == 0x1234) = true ∧
    gives (exec (.lLhz 3 4 0) (s 0x8081 true)) (fun t => t.gpr 3 == 0x3412) = true ∧
    gives (exec (.lLhz 3 4 0) (s 0x8081 false)) (fun t => t.gpr 3 == 0x1234) = true := by
  decide +kernel

/-- A status register of the OMPIC, and a control register, each a word of its own and uncached. -/
theorem witness_LoadResults_StoreResults_ompic :
    let s := full 0x98000000 0
    s.cfg.ompicBase = some 0x98000000 ∧ s.ompic.length = s.cfg.numCores ∧ 1 < s.cfg.numCores ∧
    (∀ q, s.regMissing q = false) ∧ s.mem.wf = true ∧ (∀ i, Ready i s) ∧
    ∀ i ∈ [(8 : BitVec 16), 12], misaligned s (s.effAddr 4 i) 4 = false ∧
      ∀ k ∈ [Access.load, .store], locate s k (s.effAddr 4 i) 4 =
        .ok (bytesAt s ((List.range 4).map fun j => 0x98000000 + i.toNat + j)) := by
  refine ⟨rfl, rfl, by decide, fun _ => rfl, rfl, ready _ _, ?_⟩
  intro i hi
  simp only [List.mem_cons, List.not_mem_nil, or_false] at hi
  rcases hi with rfl | rfl
  all_goals
    refine ⟨by decide +kernel, ?_⟩
    intro k hk
    simp only [List.mem_cons, List.not_mem_nil, or_false] at hk
    rcases hk with rfl | rfl <;> rfl

/-- A message to its own core through an edge-triggered OMPIC line: the line rises and its latch is set (61_platform_units.md R942, R971). -/
theorem witness_StoreResults_edge :
    let s := { full 0x98000000 0x40000001 with cfg := { Config.full with picEdge := 2 } }
    s.cfg.ompicIrq = 1 ∧ s.irqLines = 0 ∧ s.ompic.length = s.cfg.numCores ∧ s.regMissing 5 = false ∧ s.mem.wf = true ∧
    (s.blocked = none ∧ present s.cfg (.lSw 4 5 0) = true ∧ (Instr.regsNow (.lSw 4 5 0)).any s.regMissing = false) ∧
    misaligned s (s.effAddr 4 0) 4 = false ∧
    locate s .store (s.effAddr 4 0) 4 = .ok (bytesAt s [0x98000000, 0x98000001, 0x98000002, 0x98000003]) ∧
    gives (exec (.lSw 4 5 0) s) (fun t => t.irqLines == 2 && t.picLatch == 2) = true :=
  ⟨rfl, by decide +kernel, rfl, rfl, rfl, by decide +kernel, by decide +kernel, rfl, by decide +kernel⟩

/-- A reservation for the word at 0x3000, one for another word, and none. -/
def reserved (r : Option Nat) : State := { full 0x3000 0 with resv := r }

/-- The word at 0x3000 reserved, another, and none; an unaligned `l.lwa` where those are performed; writes that overlap the reserved
word and not; a reservation on core 1's OMPIC control register and its message. -/
theorem witness_AtomicPair :
    let as := [0x3000, 0x3001, 0x3002, 0x3003]
    as.any (inOmpic Config.full) = false ∧ (0x3000 : Word).toNat % 4 = 0 ∧
    (∀ r ∈ [some 0x3000, some 0x3004, none],
      misaligned (reserved r) ((reserved r).effAddr 4 0) 4 = false ∧
      locate (reserved r) .load ((reserved r).effAddr 4 0) 4 = .ok (bytesAt (reserved r) as) ∧
      Machine.translate (reserved r) .store ((reserved r).effAddr 4 0) 4 = .ok (bytesAt (reserved r) as) ∧
      (∀ q, (reserved r).regMissing q = false) ∧ (reserved r).mem.wf = true ∧ ∀ i, Ready i (reserved r)) ∧
    physValid Config.full as = true ∧ (reserved (some 0x3000)).resv = as.head? ∧
    (reserved (some 0x3004)).resv ≠ as.head? ∧ (reserved none).resv = none ∧
    (let s := start { Config.reference with unalignedSupported := true } [(4, 0x3001)] 0x8001
     misaligned s (s.effAddr 4 0) 4 = false ∧
     locate s .load (s.effAddr 4 0) 4 = .ok (bytesAt s [0x3001, 0x3002, 0x3003, 0x3004])) ∧
    (byteValid Config.full 0x3003 = true ∧ 0x3004 < 0x3005) ∧
    ((reserved (some (0x98000000 + 8 * 1))).cfg.ompicBase = some 0x98000000 ∧ 1 < Config.full.numCores) := by
  refine ⟨by decide +kernel, by decide, ?_, by decide +kernel, rfl, by decide, rfl, ⟨by decide +kernel, rfl⟩,
    by decide +kernel, rfl, by decide⟩
  intro r hr
  simp only [List.mem_cons, List.not_mem_nil, or_false] at hr
  rcases hr with rfl | rfl | rfl <;>
    exact ⟨by decide +kernel, rfl, rfl, fun _ => rfl, rfl, ready_full rfl (unblocked rfl rfl rfl)⟩

/-- A 32-bit machine with a data MMU: the entry for page 1 of way 0 maps it to page 2 for the supervisor's loads. -/
def mapped (dme : Bool) : State :=
  { start { Config.reference with dmp := true, dmmu := { Config.noMmu with nts := 6 } } []
      (if dme then 0x8021 else 0x8001) with
    dtlbmr := (Bank.fill 9 0).put 1 0x2001, dtlbtr := (Bank.fill 9 0).put 1 0x4100 }

/-- A 32-bit machine with r4 = 0x3000, either with no memory there or with sixteen registers. -/
def small (absent : Bool) : State :=
  { start (if absent then { Config.reference with ram := [{ base := 0, size := 4096 }] }
      else { Config.reference with ngpr16 := true }) [(4, 0x3000)] 0x8001 with resv := some 0x3000 }

/-- Misaligned addresses of each width, and an aligned one that an empty TLB misses; an entry that denies a store; no memory at the
address; a register number that does not exist; the same for `l.swa`, with a reservation for the absent word. -/
theorem witness_AccessTraps :
    ((full 0x3001 0).cfg.unalignedSupported = false ∧
      (∀ n ∈ [2, 4, 8], ((full 0x3001 0).effAddr 4 0).toNat % n ≠ 0) ∧
      (∀ n ∈ [1, 2, 4, 8], ((full 0x3000 0).effAddr 4 0).toNat % n = 0) ∧
      (∀ x ∈ [Exc.alignment, .dtlbMiss, .dataPageFault, .busError], (full 0x3000 0).redirects x = false) ∧
      (∀ i, Ready i (full 0x3001 0)) ∧ (∀ i, Ready i { full 0x3000 0 with sr := 0x8021 })) ∧
    (let s := { full 0x3000 0 with sr := 0x8021 }
     s.cfg.dmp = true ∧ s.sr.getLsbD 5 = true ∧ s.cfg.dmmu.htr = false ∧
     ∀ k ∈ [Access.load, .store], tlbHits s (s.mmu k) 0x3000 = [] ∧ atbHits s (s.mmu k) 0x3000 = []) ∧
    (let s := mapped true
     tlbHits s (s.mmu .store) 0x3FFC = [.tlb 1] ∧
     ((s.mmu .store).translateReg (.tlb 1)).getLsbD (permissionBit .store (.tlb 1) s.sm) = false) ∧
    ((∀ b, ∀ i ∈ [Instr.lLwz 20 4 0, .lSwa 4 20 0], (small b).blocked = none ∧ present (small b).cfg i = true ∧
        (Instr.regsNow i).any (small b).regMissing = false) ∧
      (∀ b, (small b).redirects .busError = false ∧ (small b).redirects .range = false ∧
        Machine.translate (small b) .load ((small b).effAddr 4 0) 4 = .ok (bytesAt (small b) [0x3000, 0x3001, 0x3002, 0x3003]) ∧
        Machine.translate (small b) .store ((small b).effAddr 4 0) 4 =
          .ok (bytesAt (small b) [0x3000, 0x3001, 0x3002, 0x3003])) ∧
      byteValid (small true).cfg 0x3000 = false ∧ (small false).regMissing 20 = true ∧
      physValid (small false).cfg [0x3000, 0x3001, 0x3002, 0x3003] = true ∧
      [0x3000, 0x3001, 0x3002, 0x3003].any (inOmpic (small false).cfg) = false) :=
  ⟨⟨rfl, by decide +kernel, by decide +kernel, by decide +kernel, ready _ _, ready_full rfl rfl⟩, by decide +kernel,
   by decide +kernel, by decide +kernel, fun b => by cases b <;> exact ⟨rfl, rfl, rfl, rfl⟩, by decide +kernel,
   by decide +kernel, by decide +kernel, by decide +kernel⟩

/-- The same for instructions. -/
def mappedCode (sr : Word32) : State :=
  { start { Config.reference with imp := true, immu := { Config.noMmu with nts := 6 } } [] sr with
    itlbmr := (Bank.fill 9 0).put 1 0x2001, itlbtr := (Bank.fill 9 0).put 1 0x4040 }

/-- The same with an instruction cache and an old word of the page, whose CI is `ci`, at stage `g` of the coherence sequence. -/
def keptPage (ci : Bool) (g : Coherence := .stored) : State :=
  let s := mappedCode 0x8041
  { s with
    cfg := { s.cfg with icp := true }, itlbtr := (Bank.fill 9 0).put 1 (if ci then 0x4042 else 0x4040)
    stale := [{ addr := 0x4000, old := 0x15000000, stage := g }] }

/-- A page with CI = 1 meets the hypotheses: the old word that only the instruction cache may hold cannot be fetched from it, but from
the same page with CI = 0; one that main memory may not hold yet, or the pipeline, can be fetched from both (20_memory.md R269, R286). -/
theorem witness_FetchReadsMemory_inhibited :
    (match Machine.translate (keptPage true .flushed) .fetch (trunc .x32 (keptPage true).pc) 4 with
      | .ok l => l.inhibited && l.addrs == [0x4000, 0x4001, 0x4002, 0x4003] &&
          l.addrs.all fun a => byteValid (keptPage true).cfg a && !inOmpic (keptPage true).cfg a
      | _ => false) = true ∧
    (match (keptPage true .flushed).fetch with
      | .ok r => r.1 == 0
      | _ => false) = true ∧
    ([(.stored, 1), (.writtenBack, 1), (.synced, 1), (.flushed, 0), (.invalidated, 1)].all fun c : Coherence × Nat =>
      ((keptPage true c.1).oldWords 0x4000 true).length == c.2 && ((keptPage false c.1).oldWords 0x4000 false).length == 1) = true := by
  decide +kernel

/-- `keptPage false` with the OMPIC's registers in the page that holds its instructions, and SR as given: the instruction cache on, or off. -/
def ompicCode (sr : Word32) : State :=
  let s := keptPage false
  { s with sr := sr, cfg := { s.cfg with ompicBase := some 0x4000, numCores := 2 }, ompic := [0x40010007, 0] }

/-- A located fetch from a page with CI = 0, of a replaced word and of another one; one of the full machine, XLEN = 64, untranslated; one from
the OMPIC's window uncached, of a status and of a control register, and one cached, which is refused. -/
theorem witness_FetchReadsMemory_located :
    ([((0x2000 : Word), 0x4000), (0x2004, 0x4004)].all fun c =>
      let s := { keptPage false with pc := c.1 }
      match Machine.translate s .fetch (trunc s.cfg.xlen s.pc) 4 with
      | .ok l => !l.inhibited && l.addrs == [c.2, c.2 + 1, c.2 + 2, c.2 + 3] &&
          l.addrs.all (fun a => byteValid s.cfg a && !inOmpic s.cfg a) && s.stale.any (fun e => e.addr == c.2) == (c.2 == 0x4000)
      | _ => false) = true ∧
    (match Machine.translate (full 0 0) .fetch (trunc .x64 (full 0 0).pc) 4 with
      | .ok l => !l.inhibited && l.addrs == [0x2000, 0x2001, 0x2002, 0x2003] &&
          l.addrs.all fun a => byteValid (full 0 0).cfg a && !inOmpic (full 0 0).cfg a
      | _ => false) = true ∧
    ([((0x2000 : Word), 0x4000), (0x2004, 0x4004)].all fun c =>
      [(0x8041 : Word32), 0x8051].all fun sr =>
        let s := { ompicCode sr with pc := c.1 }
        match Machine.translate s .fetch (trunc s.cfg.xlen s.pc) 4 with
        | .ok l => l.cached == (sr == 0x8051) && l.addrs == [c.2, c.2 + 1, c.2 + 2, c.2 + 3] &&
            l.addrs.all (fun a => byteValid s.cfg a && inOmpic s.cfg a)
        | _ => false) = true ∧
    (match State.fetch { ompicCode 0x8041 with pc := 0x2004 } with
      | .ok r => r.1 == 0x40010007
      | _ => false) = true := by decide +kernel

/-- The same for instructions in a unified MMU. -/
def mappedBoth : State :=
  { start { Config.reference with
      dmp := true, imp := true, unifiedMmu := true, dmmu := { Config.noMmu with nts := 6 }
      immu := { Config.noMmu with nts := 6 } } [] 0x8041 with
    dtlbmr := (Bank.fill 9 0).put 1 0x2001, dtlbtr := (Bank.fill 9 0).put 1 0x4040 }

/-- A 32-bit machine whose data MMU has two ways of one set and two areas: way 0 holds the 16-Mbyte page at 0x01000000, mapped to
0x02000000 for loads; way 1 the 8-Kbyte page at 0x01000000, valid if `twice`; area 0 holds 0x03000000, area 1 too if `twice`. -/
def mappedLarge (twice htr : Bool) : State :=
  { start { Config.reference with dmp := true, dmmu := { Config.noMmu with ntw := 1, nae := 2, htr := htr }, atbPpnBit := 10 } [] 0x8021 with
    dtlbmr := ((Bank.fill 9 0).put 0 0x01000003).put 128 (if twice then 0x01000001 else 0x01000000)
    dtlbtr := (Bank.fill 9 0).put 0 0x02000100
    datbmr := ((Bank.fill 2 0).put 0 0x03000001).put 1 (if twice then 0x03000001 else 0)
    datbtr := (Bank.fill 2 0).put 0 0x04000040 }

/-- The full machine, XLEN = 64, in supervisor mode with the data MMU on: area 0 is the 16 Mbytes at 0x03000000, mapped to 0x04000000. -/
def mappedWide : State :=
  { full 0 0 with
    sr := 0x8021, cfg := { Config.full with atbVpnBit := 10 }
    datbmr := (Bank.fill 2 0).put 0 0x03000001, datbtr := (Bank.fill 2 0).put 0 0x04000040 }

/-- Off; a miss; a hit that permits a load and not a store; a word that ends at the end of the page and one that leaves it. The same for
a fetch, which the supervisor's entry permits, in an MMU of its own and in a unified one. -/
theorem witness_TranslationOutcome :
    (mapped false).dme = false ∧ (mapped true).cfg.dmp = true ∧ (mapped true).sr.getLsbD 5 = true ∧
    (mapped true).cfg.dmmu.htr = false ∧
    (∀ k ∈ [Access.load, .store],
      tlbHits (mapped true) ((mapped true).mmu k) 0x4000 = [] ∧ atbHits (mapped true) ((mapped true).mmu k) 0x4000 = [] ∧
      tlbHits (mapped true) ((mapped true).mmu k) 0x3FFC = [.tlb 1]) ∧
    ((mapped true).dtlbmr.at 1).getLsbD 1 = false ∧ (0x3FFC : Word).toNat % 2 ^ 13 + 4 ≤ 2 ^ 13 ∧
    2 ^ 13 < (0x3FFE : Word).toNat % 2 ^ 13 + 4 ∧ (mapped true).sr.getLsbD 0 = true ∧
    ((mapped true).dtlbtr.at 1).getLsbD 8 = true ∧ ((mapped true).dtlbtr.at 1).getLsbD 9 = false ∧
    (let s := mappedCode 0x8041
     s.cfg.imp = true ∧ s.sr.getLsbD 6 = true ∧ s.cfg.unifiedMmu = false ∧ s.cfg.immu.htr = false ∧
     tlbHits s (s.mmu .fetch) 0x4000 = [] ∧ atbHits s (s.mmu .fetch) 0x4000 = [] ∧
     tlbHits s (s.mmu .fetch) 0x3FFC = [.tlb 1] ∧ (s.itlbmr.at 1).getLsbD 1 = false ∧
     (s.itlbtr.at 1).getLsbD 6 = true ∧ (s.itlbtr.at 1).getLsbD 7 = false ∧ s.sr.getLsbD 0 = true) ∧
    (let s := mappedBoth
     s.cfg.wf = true ∧ s.cfg.imp = true ∧ s.sr.getLsbD 6 = true ∧ s.cfg.unifiedMmu = true ∧
     s.cfg.dmmu.htr = false ∧ tlbHits s (s.mmu .fetch) 0x4000 = [] ∧ atbHits s (s.mmu .fetch) 0x4000 = [] ∧
     tlbHits s (s.mmu .fetch) 0x3FFC = [.tlb 1] ∧ (s.dtlbmr.at 1).getLsbD 1 = false ∧
     (s.dtlbtr.at 1).getLsbD 6 = true ∧ (s.dtlbtr.at 1).getLsbD 7 = false ∧ s.sr.getLsbD 0 = true) := by
  decide +kernel

/-- A 16-Mbyte page, its last byte, and the address a load finds there; an area of the ATB; two entries of the TLB, and of the ATB; no entry
with hardware reload. -/
theorem witness_TranslationOutcome_large :
    (let s := mappedLarge false false
     tlbHits s s.dataMmu 0x01FFFFFF = [.tlb 0] ∧ (s.dtlbmr.at 0).getLsbD 1 = true ∧ (s.dtlbtr.at 0).getLsbD 8 = true ∧
     (match Machine.translate s .load 0x01FFFFFC 4 with
      | .ok l => l.addrs == [0x02FFFFFC, 0x02FFFFFD, 0x02FFFFFE, 0x02FFFFFF]
      | _ => false) = true ∧
     tlbHits s s.dataMmu 0x03000004 = [] ∧ atbHits s s.dataMmu 0x03000004 = [.atb 0] ∧
     (s.datbtr.at 0).getLsbD 6 = true ∧ (s.datbtr.at 0).getLsbD 7 = false ∧
     (match Machine.translate s .load 0x03000004 4 with
      | .ok l => l.addrs == [0x04000004, 0x04000005, 0x04000006, 0x04000007]
      | _ => false) = true) ∧
    (let s := mappedLarge true true
     (tlbHits s s.dataMmu 0x01000000).length = 2 ∧ tlbHits s s.dataMmu 0x03000000 = [] ∧
     (atbHits s s.dataMmu 0x03000000).length = 2 ∧ tlbHits s s.dataMmu 0x05000000 = [] ∧
     atbHits s s.dataMmu 0x05000000 = [] ∧ s.dataMmu.cfg.htr = true) := by
  decide +kernel

/-- XLEN = 64: an area of the ATB, above bit 46 of the address too, and with the MMU off a window that holds an address and one that does
not. -/
theorem witness_TranslationOutcome_wide :
    (let s := mappedWide
     s.cfg.xlen = .x64 ∧ s.cfg.dmp = true ∧ s.sr.getLsbD 5 = true ∧ tlbHits s s.dataMmu 0x400003000000 = [] ∧
     atbHits s s.dataMmu 0x400003000000 = [.atb 0] ∧ (s.datbtr.at 0).getLsbD 6 = true) ∧
    (let c := { Config.full with eaMap := [{ ea := 0x200, pa := 0x600, size := 1 }] }
     untranslatedBytes c 0x1000 1 = [0x3000] ∧ untranslatedBytes c 0x1008 1 = [0x1008] ∧
     untranslatedBytes c 0x800001008 1 = [0x1008]) := by
  decide +kernel

/-- Outside a delay slot, with an aligned register target at the top of the address space. -/
theorem witness_JumpResults :
    (full 0 0xFFFFFFFFFFFFFFFC).dsPending = false ∧ ((full 0 0xFFFFFFFFFFFFFFFC).gpr 5).toNat % 4 = 0 ∧
    ∀ i, Ready i (full 0 0xFFFFFFFFFFFFFFFC) :=
  ⟨rfl, by decide +kernel, ready _ _⟩

/-- A misaligned register target; a delay slot in supervisor mode. -/
theorem witness_TransferStops :
    ((full 0 2).gpr 5).toNat % 4 ≠ 0 ∧ (full 0 2).redirects .alignment = false ∧ (∀ i, Ready i (full 0 2)) ∧
    ((full 0 4).gpr 5).toNat % 4 = 0 ∧ (full 0 4).sr.getLsbD 0 = true ∧
    ∀ i, Ready i { full 0 4 with dsPending := true } :=
  ⟨by decide +kernel, rfl, ready _ _, by decide +kernel, rfl, ready_full rfl rfl⟩

/-- Outside a slot, with an aligned register target; after the jump nothing blocks the instruction in the slot. -/
theorem witness_DelaySlotSequence :
    let s := { State.resetFor Config.full with pc := 0x2000, hist := .entered }
    Inv s ∧ s.cfg.nd = false ∧ s.dsPending = false ∧ (s.gpr 5).toNat % 4 = 0 ∧ (∀ i, Ready i s) ∧
    ∃ t, exec (.lJ 3) s = .next t ∧ t.redirects .syscall = false ∧ (∀ i, Ready i t) ∧
      ∃ u, exec (.lNop 0) t = .next u ∧ Completes t u :=
  ⟨inv_at _ _ _ (by decide) rfl, rfl, rfl, by decide +kernel, ready_full rfl rfl, _, rfl, rfl, ready_full rfl rfl, _, rfl,
   by decide +kernel, rfl, rfl⟩

/-- Supervisor and user mode, no exception redirected. -/
theorem witness_ExceptionInstructions :
    (∀ x ∈ [Exc.syscall, .trap, .illegal], (full 0 0).redirects x = false ∧ (user 0x8000).redirects x = false) ∧
    (full 0 0).sr.getLsbD 0 = true ∧ (full 0 0).dsPending = false ∧ (user 0x8000).sr.getLsbD 0 = false ∧
    (∀ i, Ready i (full 0 0)) ∧ ∀ i, Ready i (user 0x8000) :=
  ⟨by decide +kernel, rfl, rfl, rfl, ready _ _, ready_user _ rfl⟩

/-- Vector T33 (95_test_vectors.md): UPR, CPUCFGR, COREID and NUMCORES of the reference machine, and an absent DMMUCR. -/
theorem test_mfspr_vectors : (
    vec 0xB4600001 [] 0x8001 [(3, 0x521)] 0x8001 && vec 0xB4600002 [] 0x8001 [(3, 0x820)] 0x8001 &&
    vec 0xB4600080 [(3, 0x77)] 0x8001 [(3, 0)] 0x8001 && vec 0xB4600081 [] 0x8001 [(3, 1)] 0x8001 &&
    vec 0xB4600800 [(3, 0x77)] 0x8001 [(3, 0)] 0x8001) = true := by
  decide +kernel

/-- r0 holds zero, so each address listed is K; the units of the full machine are present; the last register of the last GPR set. -/
theorem witness_MfsprResults_MtsprResults_SrWrite :
    ([(0x0011 : BitVec 16), 0x0020, 0x0030, 0x0040, 0x0010, 0x0012, 0x0014, 0x000B, 0x000C, 0x000D, 0x2801, 0x2802,
      0x002F, 0x003F, 0x004F, 0x0000, 0x0001, 0x0002, 0x0003, 0x0004, 0x0005, 0x0006, 0x0007, 0x0008, 0x0009, 0x000A,
      0x0015 + (0 : BitVec 3).setWidth 16, 0x0015 + (7 : BitVec 3).setWidth 16, 0x001C, 0x0080, 0x0081, 0x1801, 0x1802, 0x1803,
      0x1804, 0x1805, 0x2001, 0x2002, 0x2003, 0x0A00, 0x0A00 + (63 : BitVec 7).setWidth 16, 0x1200 + (63 : BitVec 7).setWidth 16, 0x1800,
      0x2000, 0x4000, 0x4800, 0x5000, 0x5001, 0x0400 + (127 : BitVec 9).setWidth 16].all fun k =>
      (((full 0 0).gpr 0 ||| k.setWidth 64).setWidth 16 : BitVec 16) == k) = true ∧
    (127 : BitVec 9).toNat / 32 ≤ (full 0 0).cfg.nsgf.toNat ∧ (full 0 0).cfg.ngpr16 = false ∧
    (full 0 0).hist = .straight ∧ (full 0 0).sr.getLsbD 0 = true ∧ (∀ r, (full 0 0).regMissing r = false) ∧
    (full 0 0).cfg.orfpx32 = true ∧ (full 0 0).cfg.hasEvbar = true ∧ (full 0 0).cfg.hasAecr = true ∧
    (full 0 0).cfg.mp = true ∧ (full 0 0).cfg.picp = true ∧ (full 0 0).cfg.ttp = true ∧ (full 0 0).cfg.pmp = true ∧
    ((full 0 0).cfg.up = true ∧ (full 0 0).cfg.vrCfg.toNat < 50 ∧ (full 0 0).cfg.hasVr2 = true ∧
      (full 0 0).cfg.hasAvr = true ∧ (full 0 0).cfg.hasIsr = true ∧ (full 0 0).cfg.hasCoreRegs = true) ∧
    ∀ i, Ready i (full 0 0) :=
  ⟨by decide +kernel, by decide +kernel, rfl, rfl, rfl, fun _ => rfl, rfl, rfl, rfl, rfl, rfl, rfl, rfl,
   ⟨rfl, by decide +kernel, rfl, rfl, rfl, rfl⟩, ready _ _⟩

/-- The registers of the MMUs and caches are there, in the full machine and in the unified one. -/
theorem witness_MtsprResults_units :
    ∀ c ∈ [Config.full, unified],
      let s := State.resetFor c
      s.cfg.nsgf ≠ 0 ∧ s.cfg.dmp = true ∧ s.cfg.imp = true ∧ (63 : BitVec 7).toNat < 2 ^ s.cfg.dmmu.nts.toNat ∧
      (63 : BitVec 7).toNat < 2 ^ s.cfg.immu.nts.toNat ∧ s.cfg.dcp = true ∧ s.cfg.icp = true ∧
      s.cfg.dc.ccri = true ∧ s.cfg.ic.ccri = true ∧ s.sr.getLsbD 0 = true ∧ s.regMissing 5 = false ∧
      s.blocked = none ∧ present s.cfg (.lMtspr 0 5 0x1200) = true ∧
      (Instr.regsNow (.lMtspr 0 5 0x1200)).any s.regMissing = false := by decide +kernel

/-- The registers of the units of the full machine are there, each at an address that r0 OR K gives, the first and the last of each
bank; so are those of the unified machine. -/
theorem witness_MtsprResults_banks :
    ([(0x0800 : BitVec 16), 0x0801, 0x0802, 0x0804 + (3 : BitVec 2).setWidth 16, 0x0808 + (3 : BitVec 2).setWidth 16,
      0x0A00 + 0x100 * (1 : BitVec 2).setWidth 16 + (63 : BitVec 7).setWidth 16,
      0x0A80 + 0x100 * (1 : BitVec 2).setWidth 16 + (63 : BitVec 7).setWidth 16,
      0x1000, 0x1001, 0x1002, 0x1004 + (3 : BitVec 2).setWidth 16, 0x1008 + (3 : BitVec 2).setWidth 16,
      0x1200 + 0x100 * (1 : BitVec 2).setWidth 16 + (63 : BitVec 7).setWidth 16,
      0x1280 + 0x100 * (1 : BitVec 2).setWidth 16 + (63 : BitVec 7).setWidth 16,
      0x3000 + (7 : BitVec 3).setWidth 16, 0x3008 + (7 : BitVec 3).setWidth 16, 0x3010, 0x3011,
      0x3012 + (1 : BitVec 1).setWidth 16, 0x3014, 0x3015, 0x3800 + (7 : BitVec 3).setWidth 16,
      0x3808 + (7 : BitVec 3).setWidth 16, 0x4800, 0x4802].all fun k =>
      (((full 0 0).gpr 0 ||| k.setWidth 64).setWidth 16 : BitVec 16) == k) = true ∧
    ∀ c ∈ [Config.full, unified],
      (∀ m ∈ [c.dmmu, c.immu], m.cri = true ∧ m.pri = true ∧ m.teiri = true ∧ (3 : BitVec 2).toNat < m.nae.toNat ∧
        (1 : BitVec 2).toNat ≤ m.ntw.toNat ∧ (63 : BitVec 7).toNat < 2 ^ m.nts.toNat) ∧
      c.dup = true ∧ c.wpci = true ∧ (7 : BitVec 3).toNat ≤ c.ndp.toNat ∧ c.pcup = true ∧
      (7 : BitVec 3).toNat ≤ c.npc.toNat ∧ c.picp = true ∧ ((State.resetFor c).pcmr.at 7).extractLsb' 4 22 = 0 := by
  decide +kernel

/-- A write of PICSR clears the written latch of an edge-triggered line, and shows a level as before; one of DTLBEIR takes V from the entry of
the address alone (61_platform_units.md R942, 20_memory.md R244). -/
theorem test_picsr_dtlbeir :
    gives (exec (.lMtspr 0 5 0x4802) { full 0 0xFFFFFFFF with picLatch := 0x80000000, irqIn := 4 })
      (fun t => t.picLatch == 0 && t.picsr == 4) = true ∧
    gives (exec (.lMtspr 0 5 0x0802)
        { mapped true with
          cfg := { (mapped true).cfg with dmmu := { Config.noMmu with nts := 6, ntw := 1, teiri := true } }
          gprs := (Bank.fill 9 0).put 5 0x3FFF, dtlbmr := ((Bank.fill 9 0).put 1 0x2001).put 129 0x82001 })
      (fun t => t.dtlbmr.at 1 == 0x2000 && t.dtlbmr.at 129 == 0x82001) = true := by
  decide +kernel

/-- An address with no register in the table (group 11), and EVBAR on the reference machine, which has none. -/
theorem witness_UnimplementedSpr :
    sprAt (full 0 0).cfg (((full 0 0).gpr 0 ||| (0x5800 : BitVec 16).setWidth 64).setWidth 16) = none ∧
    (full 0 0).sr.getLsbD 0 = true ∧ (full 0 0).regMissing 31 = false ∧
    sprAt State.reset.cfg ((State.reset.gpr 0 ||| (0x000B : BitVec 16).setWidth 64).setWidth 16) = some .evbar ∧
    Spr.present State.reset.cfg .evbar = false ∧ ∀ i, Ready i (full 0 0) :=
  ⟨by decide +kernel, rfl, rfl, by decide +kernel, rfl, ready _ _⟩

/-- Closed addresses without and with SR[SUMRA], the neighbours of each range of open ones among them; and the open addresses. -/
theorem witness_UserSprAccess_closed :
    ([0x8000, 0x18000].all fun sr =>
      [(0x0000 : BitVec 16), 0x000A, 0x000B, 0x000D, 0x0010, 0x0011, 0x0012, 0x0013, 0x0015, 0x001C, 0x0020, 0x004F, 0x0080, 0x0081,
        0x0400, 0x05FF, 0x0800, 0x0FFF, 0x1000, 0x17FF, 0x1800, 0x1803, 0x1806, 0x2000, 0x2004, 0x2800, 0x2803, 0x3000, 0x3015,
        0x37FF, 0x3808, 0x4000, 0x4800, 0x4802, 0x5000, 0x5002, 0x5800, 0xFFFF].all fun k =>
          !userOpen (user sr) k && (((user sr).gpr 0 ||| k.setWidth 64).setWidth 16 : BitVec 16) == k) = true ∧
    ([(0x0014 : BitVec 16), 0x3800, 0x3807, 0x5001].all fun k => !userOpen (user 0x8000) k && userOpen (user 0x18000) k) = true ∧
    ([(0x2801 : BitVec 16), 0x2802, 0x1801, 0x1802, 0x1804, 0x1805, 0x2001, 0x2002, 0x2003].all (userOpen (user 0x8000))) = true ∧
    (user 0x18000).redirects .illegal = false ∧ (∀ r, (user 0x18000).regMissing r = false) ∧
    userOpen (start Config.reference [] 0x18000) 0x1801 = false :=
  ⟨by decide +kernel, by decide +kernel, by decide +kernel, rfl, fun _ => rfl, by decide +kernel⟩

/-- User mode without and with SR[SUMRA]; each kind of address, the first and the last of each range. -/
theorem witness_UserSprAccess :
    ([(0x0011 : BitVec 16), 0x0020, 0x004F, 0x0400, 0x05FF, 0x4800, 0x5000, 0x2801, 0x2802, 0x5001,
      0x0014, 0x3800 + (7 : BitVec 3).setWidth 16, 0x1801, 0x1802, 0x1804, 0x1805, 0x2001, 0x2002, 0x2003].all fun k =>
      (((user 0x8000).gpr 0 ||| k.setWidth 64).setWidth 16 : BitVec 16) == k) = true ∧
    (user 0x8000).sr.getLsbD 0 = false ∧ (user 0x8000).sr.getLsbD 16 = false ∧
    (user 0x18000).sr.getLsbD 0 = false ∧ (user 0x18000).sr.getLsbD 16 = true ∧
    (user 0x8000).redirects .illegal = false ∧ (∀ r, (user 0x8000).regMissing r = false) ∧
    (user 0x8000).cfg.mp = true ∧ (user 0x8000).cfg.ttp = true ∧ (user 0x8000).cfg.orfpx32 = true ∧
    ((user 0x8000).cfg.pcup = true ∧ (7 : BitVec 3).toNat ≤ (user 0x8000).cfg.npc.toNat ∧
      ((user 0x8000).pcmr.at 7).extractLsb' 4 22 = 0) ∧
    ((user 0x8000).cfg.dcp = true ∧ (user 0x8000).cfg.dc.cbpri = true ∧ (user 0x8000).cfg.dc.cbfri = true ∧
      (user 0x8000).cfg.dc.cbwbri = true ∧ (user 0x8000).cfg.dc.cblri = true ∧ (user 0x8000).cfg.icp = true ∧
      (user 0x8000).cfg.ic.cbpri = true ∧ (user 0x8000).cfg.ic.cbiri = true ∧ (user 0x8000).cfg.ic.cblri = true) ∧
    (∀ i, Ready i (user 0x8000)) ∧
    ∀ i, Ready i (user 0x18000) :=
  ⟨by decide +kernel, rfl, rfl, rfl, rfl, rfl, fun _ => rfl, rfl, rfl, rfl, by decide +kernel,
   ⟨rfl, rfl, rfl, rfl, rfl, rfl, rfl, rfl, rfl⟩, ready_user _ rfl, ready_user _ rfl⟩

/-- A user-mode instruction that touches no memory, one that stores, one that loads, and one that enters supervisor mode. -/
theorem witness_UserModeProtected :
    (user 0x8000).sr.getLsbD 0 = false ∧
    ∀ i ∈ [Instr.lNop 0, .lSw 0 5 0x3000, .lLwz 3 0 0x3000, .lSys 0], gives (exec i (user 0x8000)) (fun _ => true) = true :=
  ⟨rfl, by decide +kernel⟩

/-- FPCSR[FPEE] = 0. -/
theorem witness_FpArithResults :
    (full 0x3F800000 0).fpcsr.getLsbD 0 = false ∧ ∀ i, Ready i (full 0x3F800000 0) := ⟨rfl, ready _ _⟩

/-- A NaN; a finite value that is not zero; a positive quotient; a result that overflows, one that does not, and a denormal one where
those are not supported; an integer in range and one out of range. -/
theorem witness_FpValueRules :
    (FVal.nan true).isNan = true ∧ (1 : Nat) ≠ 0 ∧ 0 < (1 : Nat) ∧ 0 < (3 : Nat) ∧
    (roundAt .nearest false 3 1 127 105).1 = 3 * 2 ^ 22 ∧ (roundAt .nearest false 3 1 0 (-22)).1 = 3 * 2 ^ 22 ∧
    (roundAt .nearest false 1 1 (-149) (-149)).1 = 1 ∧
    signedMan true (roundAt .nearest true 7 1 0 0).1 = -7 ∧ signedMan false (roundAt .nearest false 1 1 31 0).1 = 2 ^ 31 := by
  decide +kernel

/-- FPCSR[FPEE] = 1: 1/0 in single precision, an overflow of the greatest double times itself, a NaN to an integer, all of which trap;
the exact sum of 1 and 2, which does not. -/
theorem witness_FpTrap :
    (let s := { full 0x7FEFFFFFFFFFFFFF 0x7FEFFFFFFFFFFFFF with fpcsr := 1 }
     let u := { full 0x3F800000 0 with fpcsr := 1 }
     let w := { full 0x3F800000 0x40000000 with fpcsr := 1 }
     (∀ q ∈ [s, u, w], q.fpcsr.getLsbD 0 = true ∧ q.redirects .floatingPoint = false) ∧
     (FRes.flagsAt (fpDiv .single u.fpEnv (u.fpReg .single 4) (u.fpReg .single 5)) 0).bits &&& u.cfg.fpTrapMask ≠ 0 ∧
     (FRes.flagsAt (fpMul .double s.fpEnv (s.fpReg .double 4) (s.fpReg .double 5)) 0).bits &&& s.cfg.fpTrapMask ≠ 0 ∧
     (FRes.flagsAt (fpToInt .single s.fpEnv (s.fpReg .single 4)) 0).bits &&& s.cfg.fpTrapMask ≠ 0 ∧
     (FRes.flagsAt (fpAdd .single w.fpEnv (w.fpReg .single 4) (w.fpReg .single 5)) 0).bits &&& w.cfg.fpTrapMask = 0) ∧
    ∀ i, Ready i { full 0x3F800000 0x40000000 with fpcsr := 1 } :=
  ⟨by decide +kernel, ready_full rfl (unblocked rfl rfl rfl)⟩



end Sys2Proof.Tests
end

section
/-! PROOFS. The family 30_encoding.md: words of no row, and what taking an exception leaves. -/

namespace Sys2Proof.Machine

/-! ## Words of no row -/

/-- The decoder refuses exactly the words that fit no row of the opcode table (30_encoding.md R331). -/
theorem decodeWord_eq_none_iff {w : Word32} :
    decodeWord w = none ↔ ∀ r ∈ opcodeTable, w &&& r.mask ≠ r.pattern := by
  have hfind : decodeWord w = none ↔ opcodeTable.find? (fun r => r.hits w) = none := by
    unfold decodeWord
    split <;> simp_all
  rw [hfind, List.find?_eq_none]
  simp only [OpRow.hits, beq_iff_eq, ne_eq]

/-- A word that does not decode is an Illegal Instruction at its own address, whatever else the state holds. -/
theorem executeWord_of_decodeWord_none {w : Word32} (h : decodeWord w = none) (s : State) :
    executeWord w s = .next (s.enter .illegal s.pc) := by
  simp only [executeWord, h, State.raise]

/-! ## Taking an exception -/

/-- Where the debug unit does not take the exception, the entry procedure leaves what `Enters` says (60_exceptions.md
R860-R864). -/
theorem State.enters_enter {s : State} {x : Exc} (h : s.redirects x = false) (ea : Word) :
    Enters s (s.enter x ea) x ea := by
  rw [State.enter_eq h]
  exact ⟨rfl, rfl, rfl, rfl, rfl, rfl, rfl, rfl, rfl, fun _ => rfl⟩

/-! ## The obligation -/

/-- Settles O5: such a word does not decode, so that `executeWord` enters Illegal Instruction with the word's address. -/
theorem unallocatedWordTraps : Obligations.UnallocatedWordTraps := by
  intro s w hrows hdebug
  have hnone : decodeWord w = none := decodeWord_eq_none_iff.mpr hrows
  exact ⟨s.enter .illegal s.pc, executeWord_of_decodeWord_none hnone s, State.enters_enter hdebug s.pc⟩

end Sys2Proof.Machine
end

section
/-! PROOFS. The family 60_exceptions.md: the vector addresses. -/

namespace Sys2Proof.Machine

/-! ## The vector of an exception -/

/-- The vector of an exception from its offset in Table 6-2 (60_exceptions.md R842, R864). -/
theorem State.vectorAddress_of_offset (s : State) (x : Exc) {off : Word32}
    (hoff : BitVec.ofNat 32 (x.number * 256) = off) : s.vectorAddress x = zext32 (s.vectorBase ||| off) := by
  rw [State.vectorAddress, hoff]

/-! ## The vector of Reset -/

/-- EVBAR comes out of reset with its low bits already cleared, so that the mask of R864 changes nothing. -/
theorem State.resetFor_evbar_masked (c : Config) :
    (State.resetFor c).evbar &&& 0xFFFFE000 = c.evbarReset &&& 0xFFFFE000 := by
  simp only [State.resetFor, BitVec.and_assoc, BitVec.and_self]

/-- SR[EPH] is 0 out of reset (60_exceptions.md R845). -/
@[simp] theorem State.resetFor_eph (c : Config) : (State.resetFor c).eph = false := by
  simp [State.eph, State.resetFor]

/-- The base of a reset machine's vectors is that of EVBAR alone. -/
theorem State.resetFor_vectorBase (c : Config) :
    (State.resetFor c).vectorBase = if c.hasEvbar then c.evbarReset &&& 0xFFFFE000 else 0 := by
  have hcfg : (State.resetFor c).cfg = c := rfl
  rw [State.vectorBase, hcfg, State.resetFor_evbar_masked, State.resetFor_eph]
  exact BitVec.or_zero

/-- A reset machine starts at offset 0x100 from its own vector base. -/
theorem State.resetFor_pc (c : Config) : (State.resetFor c).pc = zext32 ((State.resetFor c).vectorBase ||| 0x100) := by
  rw [State.resetFor_vectorBase]
  rfl

/-! ## The obligation -/

/-- Settles O19: the vector of Reset by what EVBAR and SR hold there, the others by each exception's number. -/
theorem vectorAddresses : Obligations.VectorAddresses := by
  refine ⟨State.resetFor_pc, fun s => ?_⟩
  have vector := s.vectorAddress_of_offset
  exact ⟨vector .busError rfl, vector .dataPageFault rfl, vector .insnPageFault rfl, vector .tickTimer rfl,
    vector .alignment rfl, vector .illegal rfl, vector .extInt rfl, vector .dtlbMiss rfl, vector .itlbMiss rfl,
    vector .range rfl, vector .syscall rfl, vector .floatingPoint rfl, vector .trap rfl⟩

end Sys2Proof.Machine
end

section
/-! PROOFS. The encoding round trip: the row of an instruction reads its operands back, reserved bits are outside every field, and the
bytes of a word are the word. -/

namespace Sys2Proof.Laws

/-! ## Bits outside a mask -/

/-- A part of a word is zero where a mask that covers the part finds no bit. -/
theorem extractLsb'_outside {w m : Word32} {lo n : Nat} (hm : m.extractLsb' lo n = BitVec.allOnes n) (h : w &&& m = 0) :
    w.extractLsb' lo n = 0 := by
  have := congrArg (BitVec.extractLsb' lo n) h
  simpa [BitVec.extractLsb'_and, hm, BitVec.and_allOnes] using this

/-- No bit in a mask, none in a part of it. -/
theorem and_sub {w m p : Word32} (h : w &&& m = 0) (hp : m &&& p = p) : w &&& p = 0 := by
  rw [← hp, ← BitVec.and_assoc, h]
  exact BitVec.zero_and

/-! ## The row of an instruction -/

/-- Every encoding fits the row of its instruction (30_encoding.md R300-R304). -/
theorem fits (i : Instr) : Fits.Statement i := by
  cases i
  exacts [
    Fits.lAdd _ _ _, Fits.lAddc _ _ _, Fits.lAddi _ _ _, Fits.lAddic _ _ _, Fits.lSub _ _ _, Fits.lMul _ _ _,
    Fits.lMuli _ _ _, Fits.lMulu _ _ _, Fits.lDiv _ _ _, Fits.lDivu _ _ _, Fits.lMac _ _, Fits.lMaci _ _,
    Fits.lMacu _ _, Fits.lMsb _ _, Fits.lMsbu _ _, Fits.lMacrc _, Fits.lMuld _ _, Fits.lMuldu _ _, Fits.lCmov _ _ _,
    Fits.lFf1 _ _, Fits.lFl1 _ _, Fits.lAnd _ _ _, Fits.lAndi _ _ _, Fits.lOr _ _ _, Fits.lOri _ _ _,
    Fits.lXor _ _ _, Fits.lXori _ _ _, Fits.lSll _ _ _, Fits.lSlli _ _ _, Fits.lSrl _ _ _, Fits.lSrli _ _ _,
    Fits.lSra _ _ _, Fits.lSrai _ _ _, Fits.lRor _ _ _, Fits.lRori _ _ _, Fits.lExtbs _ _, Fits.lExtbz _ _,
    Fits.lExths _ _, Fits.lExthz _ _, Fits.lExtws _ _, Fits.lExtwz _ _, Fits.lMovhi _ _, Fits.lSfeq _ _,
    Fits.lSfne _ _, Fits.lSfgtu _ _, Fits.lSfgeu _ _, Fits.lSfltu _ _, Fits.lSfleu _ _, Fits.lSfgts _ _,
    Fits.lSfges _ _, Fits.lSflts _ _, Fits.lSfles _ _, Fits.lSfeqi _ _, Fits.lSfnei _ _, Fits.lSfgtui _ _,
    Fits.lSfgeui _ _, Fits.lSfltui _ _, Fits.lSfleui _ _, Fits.lSfgtsi _ _, Fits.lSfgesi _ _, Fits.lSfltsi _ _,
    Fits.lSflesi _ _, Fits.lLbz _ _ _, Fits.lLbs _ _ _, Fits.lLhz _ _ _, Fits.lLhs _ _ _, Fits.lLwz _ _ _,
    Fits.lLws _ _ _, Fits.lLd _ _ _, Fits.lLwa _ _ _, Fits.lSb _ _ _, Fits.lSh _ _ _, Fits.lSw _ _ _, Fits.lSd _ _ _,
    Fits.lSwa _ _ _, Fits.lJ _, Fits.lJal _, Fits.lJr _, Fits.lJalr _, Fits.lBf _, Fits.lBnf _, Fits.lNop _,
    Fits.lSys _, Fits.lTrap _, Fits.lRfe, Fits.lMtspr _ _ _, Fits.lMfspr _ _ _, Fits.lMsync, Fits.lCsync,
    Fits.lPsync, Fits.lfAddS _ _ _, Fits.lfSubS _ _ _, Fits.lfMulS _ _ _, Fits.lfDivS _ _ _, Fits.lfRemS _ _ _,
    Fits.lfMaddS _ _ _, Fits.lfItofS _ _, Fits.lfFtoiS _ _, Fits.lfSfeqS _ _, Fits.lfSfneS _ _, Fits.lfSfgtS _ _,
    Fits.lfSfgeS _ _, Fits.lfSfltS _ _, Fits.lfSfleS _ _, Fits.lfCust1S _ _, Fits.lfAddD _ _ _, Fits.lfSubD _ _ _,
    Fits.lfMulD _ _ _, Fits.lfDivD _ _ _, Fits.lfRemD _ _ _, Fits.lfMaddD _ _ _, Fits.lfItofD _ _, Fits.lfFtoiD _ _,
    Fits.lfSfeqD _ _, Fits.lfSfneD _ _, Fits.lfSfgtD _ _, Fits.lfSfgeD _ _, Fits.lfSfltD _ _, Fits.lfSfleD _ _,
    Fits.lfCust1D _ _, Fits.lvAddB _ _ _, Fits.lvAddH _ _ _, Fits.lvAddsB _ _ _, Fits.lvAddsH _ _ _,
    Fits.lvAdduB _ _ _, Fits.lvAdduH _ _ _, Fits.lvAddusB _ _ _, Fits.lvAddusH _ _ _, Fits.lvAllEqB _ _ _,
    Fits.lvAllEqH _ _ _, Fits.lvAllGeB _ _ _, Fits.lvAllGeH _ _ _, Fits.lvAllGtB _ _ _, Fits.lvAllGtH _ _ _,
    Fits.lvAllLeB _ _ _, Fits.lvAllLeH _ _ _, Fits.lvAllLtB _ _ _, Fits.lvAllLtH _ _ _, Fits.lvAllNeB _ _ _,
    Fits.lvAllNeH _ _ _, Fits.lvAnyEqB _ _ _, Fits.lvAnyEqH _ _ _, Fits.lvAnyGeB _ _ _, Fits.lvAnyGeH _ _ _,
    Fits.lvAnyGtB _ _ _, Fits.lvAnyGtH _ _ _, Fits.lvAnyLeB _ _ _, Fits.lvAnyLeH _ _ _, Fits.lvAnyLtB _ _ _,
    Fits.lvAnyLtH _ _ _, Fits.lvAnyNeB _ _ _, Fits.lvAnyNeH _ _ _, Fits.lvAnd _ _ _, Fits.lvAvgB _ _ _,
    Fits.lvAvgH _ _ _, Fits.lvCmpEqB _ _ _, Fits.lvCmpEqH _ _ _, Fits.lvCmpGeB _ _ _, Fits.lvCmpGeH _ _ _,
    Fits.lvCmpGtB _ _ _, Fits.lvCmpGtH _ _ _, Fits.lvCmpLeB _ _ _, Fits.lvCmpLeH _ _ _, Fits.lvCmpLtB _ _ _,
    Fits.lvCmpLtH _ _ _, Fits.lvCmpNeB _ _ _, Fits.lvCmpNeH _ _ _, Fits.lvMaddsH _ _ _, Fits.lvMaxB _ _ _,
    Fits.lvMaxH _ _ _, Fits.lvMergeB _ _ _, Fits.lvMergeH _ _ _, Fits.lvMinB _ _ _, Fits.lvMinH _ _ _,
    Fits.lvMsubsH _ _ _, Fits.lvMulsH _ _ _, Fits.lvNand _ _ _, Fits.lvNor _ _ _, Fits.lvOr _ _ _,
    Fits.lvPackB _ _ _, Fits.lvPackH _ _ _, Fits.lvPacksB _ _ _, Fits.lvPacksH _ _ _, Fits.lvPackusB _ _ _,
    Fits.lvPackusH _ _ _, Fits.lvPermN _ _ _, Fits.lvRlB _ _ _, Fits.lvRlH _ _ _, Fits.lvSllB _ _ _,
    Fits.lvSllH _ _ _, Fits.lvSll _ _ _, Fits.lvSrlB _ _ _, Fits.lvSrlH _ _ _, Fits.lvSraB _ _ _, Fits.lvSraH _ _ _,
    Fits.lvSrl _ _ _, Fits.lvSubB _ _ _, Fits.lvSubH _ _ _, Fits.lvSubsB _ _ _, Fits.lvSubsH _ _ _,
    Fits.lvSubuB _ _ _, Fits.lvSubuH _ _ _, Fits.lvSubusB _ _ _, Fits.lvSubusH _ _ _, Fits.lvUnpackB _ _ _,
    Fits.lvUnpackH _ _ _, Fits.lvXor _ _ _, Fits.lvCust1, Fits.lvCust2, Fits.lvCust3, Fits.lvCust4, Fits.lCust1,
    Fits.lCust2, Fits.lCust3, Fits.lCust4, Fits.lCust5 _ _ _ _ _, Fits.lCust6, Fits.lCust7, Fits.lCust8]

/-! ## Fields of words that leave them zero -/

theorem fieldD_outside {w : Word32} (h : w &&& 0x03E00000 = 0) : fieldD w = 0 := extractLsb'_outside (by decide) h
theorem fieldA_outside {w : Word32} (h : w &&& 0x001F0000 = 0) : fieldA w = 0 := extractLsb'_outside (by decide) h
theorem fieldB_outside {w : Word32} (h : w &&& 0x0000F800 = 0) : fieldB w = 0 := extractLsb'_outside (by decide) h
theorem fieldI_outside {w : Word32} (h : w &&& 0x0000FFFF = 0) : fieldI w = 0 := extractLsb'_outside (by decide) h
theorem fieldN_outside {w : Word32} (h : w &&& 0x03FFFFFF = 0) : fieldN w = 0 := extractLsb'_outside (by decide) h
theorem fieldL_outside {w : Word32} (h : w &&& 0x0000003F = 0) : fieldL w = 0 := extractLsb'_outside (by decide) h
theorem fieldCL_outside {w : Word32} (h : w &&& 0x000007E0 = 0) : fieldCL w = 0 := extractLsb'_outside (by decide) h
theorem fieldCK_outside {w : Word32} (h : w &&& 0x0000001F = 0) : fieldCK w = 0 := extractLsb'_outside (by decide) h
theorem fieldS_outside {w : Word32} (h : w &&& 0x03E007FF = 0) : fieldS w = 0 := by
  have hi : w.extractLsb' 21 5 = 0 := fieldD_outside (and_sub h (by decide))
  have lo : w.extractLsb' 0 11 = 0 := extractLsb'_outside (m := 0x7FF) (by decide) (and_sub h (by decide))
  rw [fieldS, hi, lo]
  decide

/-! ## The round trip -/

/-- The row of an instruction reads back from its encoding every operand that `encode` put there. -/
theorem build_encode (i : Instr) : ∃ r, opcodeTable[Instr.row i]? = some r ∧ r.build (encode i) = i := by
  cases i <;> exact ⟨_, rfl, by
    simp (disch := decide) only [encode, fieldD_or, fieldA_or, fieldB_or, fieldI_or, fieldN_or, fieldL_or, fieldCL_or, fieldCK_or,
      fieldS_or, fieldD_bitsD, fieldD_bitsA, fieldD_bitsB, fieldA_bitsD, fieldA_bitsA, fieldA_bitsB, fieldB_bitsD, fieldB_bitsA,
      fieldB_bitsB, fieldI_bitsD, fieldI_bitsA, fieldS_bitsA, fieldS_bitsB, fieldL_bitsD, fieldL_bitsA, fieldD_bitsL, fieldA_bitsL,
      fieldL_bitsL, fieldD_bitsCL, fieldA_bitsCL, fieldB_bitsCL, fieldCL_bitsCL, fieldCK_bitsCL, fieldD_bitsCK, fieldA_bitsCK,
      fieldB_bitsCK, fieldCL_bitsCK, fieldCK_bitsCK, fieldCL_bitsD, fieldCL_bitsA, fieldCL_bitsB, fieldCK_bitsD, fieldCK_bitsA,
      fieldCK_bitsB, fieldD_bitsI, fieldA_bitsI, fieldI_bitsI, fieldN_bitsN, fieldS_bitsS, fieldA_bitsS, fieldB_bitsS,
      fieldD_outside, fieldA_outside, fieldB_outside, fieldI_outside, fieldN_outside, fieldL_outside, fieldS_outside,
      fieldCL_outside, fieldCK_outside, BitVec.ofNat_eq_ofNat, BitVec.zero_or, BitVec.or_zero]⟩

/-- Settles O1: an encoding fits the row of its instruction, and that row reads the operands back. -/
theorem decodeInvertsEncode : Obligations.DecodeInvertsEncode := by
  intro i
  obtain ⟨r, hrow, hfits⟩ := fits i
  obtain ⟨r', hrow', hbuild⟩ := build_encode i
  obtain rfl : r' = r := Option.some.inj (hrow'.symm.trans hrow)
  rw [decodeWord_of_row _ hrow hfits, hbuild]

/-- A word that fits the row of an instruction and holds its operands decodes to it. -/
theorem decodeWord_eq {w : Word32} (i : Instr) {r : OpRow} (hrow : opcodeTable[Instr.row i]? = some r)
    (hfits : w &&& r.mask = r.pattern) (hread : r.build w = i) : decodeWord w = some i := by
  rw [decodeWord_of_row _ hrow hfits, hread]

/-- Settles O4: each word fits the row of its instruction, which reads the operands from it. -/
theorem sampleWords : Obligations.SampleWords :=
  ⟨decodeWord_eq _ rfl rfl rfl, decodeWord_eq _ rfl rfl rfl, decodeWord_eq _ rfl rfl rfl, decodeWord_eq _ rfl rfl rfl,
    decodeWord_eq _ rfl rfl rfl, decodeWord_eq _ rfl rfl rfl, decodeWord_eq _ rfl rfl rfl, decodeWord_eq _ rfl rfl rfl,
    decodeWord_eq _ rfl rfl rfl, decodeWord_eq _ rfl rfl rfl, decodeWord_eq _ rfl rfl rfl⟩

/-! ## Bytes -/

/-- The four bytes of a word, put together again. -/
theorem wordBytes_append (w : Word32) :
    w.extractLsb' 24 8 ++ w.extractLsb' 16 8 ++ w.extractLsb' 8 8 ++ w.extractLsb' 0 8 = w := by
  apply BitVec.eq_of_getLsbD_eq
  intro k hk
  show BitVec.getLsbD (w := 8 + 8 + 8 + 8) _ k = _
  simp only [BitVec.getLsbD_append, BitVec.getLsbD_extractLsb']
  interval_cases k <;> simp

/-- Settles O2: the first four bytes are the word of the instruction, which decodes to it. -/
theorem bytesRoundTrip : Obligations.BytesRoundTrip := by
  intro i rest
  have hword := wordBytes_append (encode i)
  have hdec := decodeInvertsEncode i
  show decodeBytes (_ :: _ :: _ :: _ :: rest) = _
  simp only [decodeBytes, hword, hdec]

/-! ## Reserved bits -/

/-- A part of a word is unchanged by more bits that lie in a mask beside the part. -/
theorem and_disjoint {x m p : Word32} (h : m &&& p = 0) : (x &&& m) &&& p = 0 := by
  rw [BitVec.and_assoc, h]
  exact BitVec.and_zero

theorem fieldD_or_reserved (w x : Word32) {m : Word32} (h : m &&& 0x03E00000 = 0) : fieldD (w ||| (x &&& m)) = fieldD w := by
  rw [fieldD_or, fieldD_outside (and_disjoint h)]; exact BitVec.or_zero
theorem fieldA_or_reserved (w x : Word32) {m : Word32} (h : m &&& 0x001F0000 = 0) : fieldA (w ||| (x &&& m)) = fieldA w := by
  rw [fieldA_or, fieldA_outside (and_disjoint h)]; exact BitVec.or_zero
theorem fieldB_or_reserved (w x : Word32) {m : Word32} (h : m &&& 0x0000F800 = 0) : fieldB (w ||| (x &&& m)) = fieldB w := by
  rw [fieldB_or, fieldB_outside (and_disjoint h)]; exact BitVec.or_zero
theorem fieldI_or_reserved (w x : Word32) {m : Word32} (h : m &&& 0x0000FFFF = 0) : fieldI (w ||| (x &&& m)) = fieldI w := by
  rw [fieldI_or, fieldI_outside (and_disjoint h)]; exact BitVec.or_zero
theorem fieldL_or_reserved (w x : Word32) {m : Word32} (h : m &&& 0x0000003F = 0) : fieldL (w ||| (x &&& m)) = fieldL w := by
  rw [fieldL_or, fieldL_outside (and_disjoint h)]; exact BitVec.or_zero

/-- Bits outside the mask of an instruction's row and outside its operands do not change what its word decodes to (30_encoding.md
R330). -/
theorem decodeWord_encode_or (i : Instr) {r : OpRow} (hrow : opcodeTable[Instr.row i]? = some r) {x m : Word32}
    (hmask : m &&& r.mask = 0) (hbuild : ∀ w, r.build (w ||| (x &&& m)) = r.build w) :
    decodeWord (encode i ||| (x &&& m)) = some i := by
  obtain ⟨r₁, hrow₁, hfits⟩ := fits i
  obtain ⟨r₂, hrow₂, hread⟩ := build_encode i
  obtain rfl : r₁ = r := Option.some.inj (hrow₁.symm.trans hrow)
  obtain rfl : r₂ = r₁ := Option.some.inj (hrow₂.symm.trans hrow)
  rw [decodeWord_of_row _ hrow (fits_or hfits (and_disjoint hmask)), hbuild, hread]

/-- Settles O3: in each of these formats the reserved bits lie outside the mask of the row and outside the fields it reads. -/
theorem reservedBitsIgnored : Obligations.ReservedBitsIgnored := by
  intro rd ra rb k l x
  refine ⟨?_, ?_, ?_, ?_, ?_, ?_, ?_, ?_, ?_, ?_, ?_, ?_, ?_, ?_, ?_, ?_, ?_, ?_, ?_, ?_⟩ <;>
    exact decodeWord_encode_or _ rfl (by decide) fun w => by
      simp (disch := decide) only [fieldD_or_reserved, fieldA_or_reserved, fieldB_or_reserved, fieldI_or_reserved, fieldL_or_reserved]

end Sys2Proof.Laws
end

section
/-! PROOFS. Bytes of a value in memory (20_memory.md R202). -/

namespace Sys2Proof.Machine

/-- A leading byte counts 256 for each byte after it. -/
theorem ofBytes_cons (b : Byte) (bs : List Byte) : ofBytes (b :: bs) = b.toNat * 256 ^ bs.length + ofBytes bs := by
  have acc : ∀ (bs : List Byte) (n : Nat),
      bs.foldl (fun n b => n * 256 + b.toNat) n = n * 256 ^ bs.length + ofBytes bs := by
    intro bs
    induction bs with
    | nil => intro n; simp [ofBytes]
    | cons c cs ih =>
      intro n
      have hc : ofBytes (c :: cs) = c.toNat * 256 ^ cs.length + ofBytes cs := by
        show cs.foldl _ (0 * 256 + c.toNat) = _
        rw [ih]; simp
      rw [List.foldl_cons, ih, hc, List.length_cons, pow_succ]
      ring
  show bs.foldl _ (0 * 256 + b.toNat) = _
  rw [acc]; simp

/-- The bytes of a value begin with its most significant one. -/
theorem toBytes_succ (n : Nat) (v : Word) : toBytes (n + 1) v = v.extractLsb' (8 * n) 8 :: toBytes n v := by
  unfold toBytes
  rw [List.range_succ_eq_map, List.map_cons, List.map_map]
  refine congrArg₂ List.cons rfl (List.map_congr_left fun i hi => ?_)
  show v.extractLsb' (8 * (n + 1 - 1 - (i + 1))) 8 = v.extractLsb' (8 * (n - 1 - i)) 8
  rw [show n + 1 - 1 - (i + 1) = n - 1 - i by omega]

@[simp] theorem length_toBytes (n : Nat) (v : Word) : (toBytes n v).length = n := by simp [toBytes]

/-- The number of the low `n` bytes of a value. -/
theorem ofBytes_toBytes (n : Nat) (v : Word) : ofBytes (toBytes n v) = v.toNat % 2 ^ (8 * n) := by
  induction n with
  | zero => simp [toBytes, ofBytes, Nat.mod_one]
  | succ n ih =>
    have h256 : (256 : Nat) ^ n = 2 ^ (8 * n) := by rw [pow_mul]; norm_num
    rw [toBytes_succ, ofBytes_cons, ih, length_toBytes, h256, BitVec.extractLsb'_toNat, Nat.shiftRight_eq_div_pow,
      show 8 * (n + 1) = 8 * n + 8 by ring, pow_add, Nat.mod_mul]
    ring

/-- Settles O7: the bytes stored are read back one by one, and their number is the value. -/
theorem storedValueReadsBack : Obligations.StoredValueReadsBack := by
  intro m as v hm hn
  refine ⟨?_, fun a ha => Memory.read_writeAll_outside hm _ fun c hc => ?_⟩
  · rw [Memory.read_writeAll_zip hm hn (length_toBytes _ _).symm, ofBytes_toBytes]
  · rintro rfl
    exact ha (List.of_mem_zip hc).1

end Sys2Proof.Machine
end

section
/-! PROOFS. What an instruction can answer, said once: the operations that compute in registers and flags (`Computes`), and the ways
in which any instruction ends (`Outcome`). -/

namespace Sys2Proof.Machine

/-! ## Computing in registers -/

/-- `u` is `s` after computing in registers: general registers of the current set, the flags F, CY and OV, the accumulator, the flags
of FPCSR, AESR where an arithmetic condition may trap, and the free values drawn. -/
structure Computes (s u : State) : Prop where
  rest : u = { s with
    gprs := u.gprs, sr := u.sr, machi := u.machi, maclo := u.maclo, fpcsr := u.fpcsr, aesr := u.aesr, freeCtr := u.freeCtr }
  gprs : ∀ j, u.gprs.at j = s.gprs.at j ∨
    ((∃ r, j = gprIndex s.ctx r) ∧ trunc s.cfg.xlen (u.gprs.at j) = u.gprs.at j)
  sr : SrOutside 0xE00 s u
  fpcsr : u.fpcsr &&& ~~~0xFF8 = s.fpcsr &&& ~~~0xFF8
  aesr : u.aesr &&& ~~~0x7F = s.aesr &&& ~~~0x7F
  aesrKept : u.aesr &&& s.aesr = s.aesr
  aesrChanged : u.aesr ≠ s.aesr → s.cfg.hasAecr = true ∧ s.ove = true

theorem Computes.cfg {s u : State} (h : Computes s u) : u.cfg = s.cfg := by
  rw [h.rest]

/-- A bit of SR outside the flags is as before. -/
theorem SrOutside.getLsbD {m : Word32} {s u : State} (h : SrOutside m s u) {n : Nat} (hn : n < 32) (hm : m.getLsbD n = false) :
    u.sr.getLsbD n = s.sr.getLsbD n := by
  have := congrArg (fun w => BitVec.getLsbD w n) h
  simpa only [BitVec.getLsbD_and, BitVec.getLsbD_not, hn, hm, decide_true, Bool.not_false, Bool.and_true] using this

theorem SrOutside.extractLsb' {m : Word32} {s u : State} (h : SrOutside m s u) {lo n : Nat} (hn : lo + n ≤ 32)
    (hm : ∀ k < n, m.getLsbD (lo + k) = false) : u.sr.extractLsb' lo n = s.sr.extractLsb' lo n := by
  apply BitVec.eq_of_getLsbD_eq
  intro k hk
  simp only [BitVec.getLsbD_extractLsb', hk, decide_true, Bool.true_and]
  exact h.getLsbD (by omega) (hm k hk)

theorem SrOutside.refl (m : Word32) (s : State) : SrOutside m s s := rfl

theorem SrOutside.trans {m : Word32} {s u v : State} (h₁ : SrOutside m s u) (h₂ : SrOutside m u v) : SrOutside m s v :=
  Eq.trans h₂ h₁

theorem Computes.ove {s u : State} (h : Computes s u) : u.ove = s.ove := h.sr.getLsbD (by decide) (by decide)

theorem Computes.ctx {s u : State} (h : Computes s u) : u.ctx = s.ctx :=
  State.ctx_congr (h.sr.getLsbD (by decide) (by decide)) (h.sr.extractLsb' (by decide) (by decide)) h.cfg

theorem Computes.refl (s : State) : Computes s s where
  rest := rfl
  gprs _ := .inl rfl
  sr := rfl
  fpcsr := rfl
  aesr := rfl
  aesrKept := BitVec.and_self
  aesrChanged h := absurd rfl h

theorem Computes.trans {s u v : State} (h₁ : Computes s u) (h₂ : Computes u v) : Computes s v where
  rest := by
    have h := h₂.rest
    rw [h₁.rest] at h
    exact h
  gprs j := by
    have h := h₂.gprs j
    rw [h₁.ctx, h₁.cfg] at h
    rcases h with h | h
    · rw [h]; exact h₁.gprs j
    · exact .inr h
  sr := h₁.sr.trans h₂.sr
  fpcsr := h₂.fpcsr.trans h₁.fpcsr
  aesr := h₂.aesr.trans h₁.aesr
  aesrKept := by
    rw [← h₁.aesrKept, ← BitVec.and_assoc, h₂.aesrKept]
  aesrChanged h := by
    by_cases hu : u.aesr = s.aesr
    · have := h₂.aesrChanged (hu ▸ h)
      rwa [h₁.cfg, h₁.ove] at this
    · exact h₁.aesrChanged hu

/-- An operation that writes SR within the flags alone computes. -/
theorem Computes.of_sr {s : State} {w : Word32} (h : w &&& ~~~0xE00 = s.sr &&& ~~~0xE00) : Computes s { s with sr := w } where
  rest := rfl
  gprs _ := .inl rfl
  sr := h
  fpcsr := rfl
  aesr := rfl
  aesrKept := BitVec.and_self
  aesrChanged h := absurd rfl h

theorem State.setFlag_computes (s : State) (b : Bool) : Computes s (s.setFlag b) :=
  .of_sr (setBit_outside _ _ _ _ (by decide) (by decide))

theorem State.setCarry_computes (s : State) (b : Bool) : Computes s (s.setCarry b) :=
  .of_sr (setBit_outside _ _ _ _ (by decide) (by decide))

theorem State.setOverflow_computes (s : State) (b : Bool) : Computes s (s.setOverflow b) :=
  .of_sr (setBit_outside _ _ _ _ (by decide) (by decide))

theorem State.setGpr_computes (s : State) (rd : Reg) (v : Word) : Computes s (s.setGpr rd v) where
  rest := by unfold State.setGpr State.setGprAt; split <;> rfl
  gprs j := by
    unfold State.setGpr State.setGprAt
    split
    · exact .inl rfl
    · by_cases hj : j = gprIndex s.ctx rd
      · subst hj
        exact .inr ⟨⟨rd, rfl⟩, by simp⟩
      · exact .inl (Bank.at_put_ne _ _ hj)
  sr := by simp [SrOutside]
  fpcsr := by simp
  aesr := by simp
  aesrKept := by simp
  aesrChanged h := absurd (by simp) h

/-- An operation that leaves the registers with a restricted range alone computes. -/
theorem Computes.of_free (s : State) (hi lo : Word32) (n : Nat) :
    Computes s { s with machi := hi, maclo := lo, freeCtr := n } where
  rest := rfl
  gprs _ := .inl rfl
  sr := rfl
  fpcsr := rfl
  aesr := rfl
  aesrKept := BitVec.and_self
  aesrChanged h := absurd rfl h

theorem State.setAcc_computes (s : State) (v : Word) : Computes s (s.setAcc v) := .of_free s _ _ _

theorem State.draw_computes (s : State) : Computes s s.draw.2 := .of_free s _ _ _

theorem State.fpOut_computes (s : State) (f : Fmt) (o : FOut) : Computes s (s.fpOut f o).2 := by
  cases o with
  | bits n => exact .refl s
  | quietNan => exact s.draw_computes
  | anyInt => exact s.draw_computes

theorem State.orFlags_computes (s : State) (fl : FFlags) : Computes s (s.orFlags fl) where
  rest := rfl
  gprs _ := .inl rfl
  sr := rfl
  fpcsr := by
    show (s.fpcsr ||| (fl.bits.setWidth 32 <<< 3)) &&& ~~~0xFF8 = s.fpcsr &&& ~~~0xFF8
    apply BitVec.eq_of_getLsbD_eq
    intro k hk
    have mask : ∀ k < 32, (~~~(0xFF8 : Word32)).getLsbD k = (decide (k < 3) || decide (12 ≤ k)) := by decide
    simp only [BitVec.getLsbD_and, BitVec.getLsbD_or, BitVec.getLsbD_shiftLeft, BitVec.getLsbD_setWidth, mask k hk]
    rcases Nat.lt_or_ge k 3 with h | h
    · simp [h]
    · rcases Nat.lt_or_ge k 12 with h' | h'
      · simp [show ¬ k < 3 by omega, show ¬ 12 ≤ k by omega]
      · rw [BitVec.getLsbD_of_ge fl.bits _ (by omega)]; simp
  aesr := rfl
  aesrKept := BitVec.and_self
  aesrChanged h := absurd rfl h

theorem AeBit.pos_lt (b : AeBit) : b.pos < 7 := by cases b <;> decide

/-- Setting bits of enabled conditions, one after the other, touches AESR's seven bits and clears none. -/
theorem recordAe_bits (s : State) (cs : List AeCond) (w : Word32) :
    let w' := cs.foldl (fun w c => if c.enabled s then setBit w c.bit.pos true else w) w
    w' &&& ~~~0x7F = w &&& ~~~0x7F ∧ w' &&& w = w ∧ (w' ≠ w → s.ove = true) := by
  induction cs generalizing w with
  | nil => exact ⟨rfl, BitVec.and_self, fun h => absurd rfl h⟩
  | cons c cs ih =>
    rw [List.foldl_cons]
    by_cases hc : c.enabled s = true
    · rw [if_pos hc]
      have hove : s.ove = true := by
        simp only [AeCond.enabled, Bool.and_eq_true] at hc
        exact hc.1.2
      have low : ∀ n < 7, (~~~(0x7F : Word32)).getLsbD n = false := by decide
      have hp := c.bit.pos_lt
      have hkeep : setBit w c.bit.pos true &&& w = w := by
        simp only [setBit, if_true]
        rw [BitVec.and_comm]
        ext k hk
        simp
        tauto
      obtain ⟨h₁, h₂, _⟩ := ih (setBit w c.bit.pos true)
      refine ⟨h₁.trans (setBit_outside _ _ _ _ (low _ hp) (by omega)), ?_, fun _ => hove⟩
      calc _ &&& w = _ &&& (setBit w c.bit.pos true &&& w) := by rw [hkeep]
        _ = w := by rw [← BitVec.and_assoc, h₂, hkeep]
    · rw [if_neg hc]; exact ih w

theorem State.recordAe_computes (s : State) (cs : List AeCond) : Computes s (s.recordAe cs) := by
  unfold State.recordAe
  split
  · rename_i hae
    obtain ⟨h₁, h₂, h₃⟩ := recordAe_bits s cs s.aesr
    exact { rest := rfl, gprs := fun _ => .inl rfl, sr := rfl, fpcsr := rfl, aesr := h₁, aesrKept := h₂
            aesrChanged := fun h => ⟨hae, h₃ h⟩ }
  · exact .refl s

/-! ## The ways an instruction ends -/

/-- Everything an instruction can leave when it answers with a next state. -/
inductive Outcome (i : Instr) (s : State) : State → Prop where
  /-- it has computed and completes -/
  | completed {u : State} : Computes s u → Outcome i s u.advance
  /-- it raises an exception, at once or after it has computed -/
  | raised {u : State} (x : Exc) (ea : Word) : Computes s u → Outcome i s (u.enter x ea)
  /-- a jump or branch, with its link written -/
  | transferred {u t : State} {taken : Bool} {target : Word} : Computes s u →
      (s.pc.extractLsb' 0 2 = 0 → target.extractLsb' 0 2 = 0) →
      trunc s.cfg.xlen target = target → u.transfer taken target = .next t → Outcome i s t
  /-- `l.rfe` -/
  | returned : s.sm = true → Outcome i s s.leave
  /-- `l.mtspr` -/
  | moved {r : Option Spr} (v : Word) : mayAccess s r = true → Outcome i s ((s.writeSprAt r v).finishMtspr r v)
  /-- a synchronisation -/
  | synchronised {es : List StaleWord} : (∀ e ∈ es, ∃ d ∈ s.stale, e.addr = d.addr) → Outcome i s { s with stale := es }.advance
  /-- a load -/
  | loaded {ra : Reg} {d : BitVec 16} {n : Nat} {r : Nat × Located} (rd : Reg) (v : Word) :
      Instr.dataAccess i = some (.load, ra, d, n) → s.memRead (s.effAddr ra d) n = .ok r →
      Outcome i s (r.2.state.setGpr rd v).advance
  /-- `l.lwa` -/
  | loadedReserving {ra : Reg} {d : BitVec 16} {r : Nat × Located} (rd : Reg) (v : Word) :
      Instr.dataAccess i = some (.load, ra, d, 4) → s.memRead (s.effAddr ra d) 4 = .ok r →
      Outcome i s ({ r.2.state.syncPoint.setGpr rd v with resv := reserve r.2.addrs }).advance
  /-- a store -/
  | stored {ra : Reg} {d : BitVec 16} {n : Nat} {v : Word} {u : State} :
      Instr.dataAccess i = some (.store, ra, d, n) → s.memWrite (s.effAddr ra d) n v = .ok u → Outcome i s u.advance
  /-- `l.swa` with its reservation -/
  | storedReserved {ra : Reg} {d : BitVec 16} {v : Word} {l : Located} {u : State} :
      Instr.dataAccess i = some (.store, ra, d, 4) → locate s .store (s.effAddr ra d) 4 = .ok l →
      l.state.syncPoint.storePhys l.addrs v l.cached = .ok u → Outcome i s (u.finishSwa true)
  /-- `l.swa` without -/
  | notStored {ra : Reg} {d : BitVec 16} {l : Located} :
      Instr.dataAccess i = some (.store, ra, d, 4) → translate s .store (s.effAddr ra d) 4 = .ok l →
      Outcome i s (l.state.syncPoint.finishSwa false)

/-! ## One lemma for each shared operation -/

section Operations
variable {i : Instr} {s t : State}

theorem Outcome.raise {x : Exc} {ea : Word} (h : s.raise x ea = .next t) : Outcome i s t := by
  cases h; exact .raised x ea (.refl s)

/-- An instruction ends as its own effect does, or with the exceptions of issue. -/
theorem Outcome.of_issue {k : State → Result} (h : issue i s k = .next t) (hk : k s = .next t → Outcome i s t) : Outcome i s t := by
  rcases issue_next h with ⟨_, h⟩ | rfl | rfl
  · exact hk h
  · exact .raised _ _ (.refl s)
  · exact .raised _ _ (.refl s)

theorem Outcome.of_attempt {α : Type} {a : Attempt α} {k : α → Result} (h : a.run s k = .next t)
    (hk : ∀ v, a = .ok v → k v = .next t → Outcome i s t) : Outcome i s t := by
  rcases Attempt.run_next h with ⟨v, hv, h⟩ | ⟨x, ea, _, rfl⟩
  · exact hk v hv h
  · exact .raised x ea (.refl s)

theorem Outcome.finishArith {u : State} {cs : List AeCond} (hu : Computes s u) (h : u.finishArith cs = .next t) : Outcome i s t := by
  rcases State.finishArith_next h with ⟨_, rfl⟩ | ⟨_, rfl⟩
  · exact .raised _ _ (hu.trans (u.recordAe_computes cs))
  · exact .completed hu

theorem Outcome.addOp {rd : Reg} {a b : Word} {c : Bool} (h : s.addOp rd a b c = .next t) : Outcome i s t :=
  .finishArith (((s.setGpr_computes rd _).trans (State.setCarry_computes _ _)).trans (State.setOverflow_computes _ _)) h

theorem Outcome.subOp {rd : Reg} {a b : Word} (h : s.subOp rd a b = .next t) : Outcome i s t :=
  .finishArith (((s.setGpr_computes rd _).trans (State.setCarry_computes _ _)).trans (State.setOverflow_computes _ _)) h

theorem Outcome.mulOp {rd : Reg} {a b : Word} (h : s.mulOp rd a b = .next t) : Outcome i s t :=
  .finishArith ((s.setGpr_computes rd _).trans (State.setOverflow_computes _ _)) h

theorem Outcome.muluOp {rd : Reg} {a b : Word} (h : s.muluOp rd a b = .next t) : Outcome i s t :=
  .finishArith ((s.setGpr_computes rd _).trans (State.setCarry_computes _ _)) h

theorem Outcome.divOp {rd : Reg} {a b : Word} (h : s.divOp rd a b = .next t) : Outcome i s t := by
  unfold State.divOp at h
  split at h
  · exact .finishArith ((s.draw_computes.trans (State.setGpr_computes _ rd _)).trans (State.setOverflow_computes _ _)) h
  · exact .finishArith ((s.setGpr_computes rd _).trans (State.setOverflow_computes _ _)) h

theorem Outcome.divuOp {rd : Reg} {a b : Word} (h : s.divuOp rd a b = .next t) : Outcome i s t := by
  unfold State.divuOp at h
  split at h
  · exact .finishArith ((s.draw_computes.trans (State.setGpr_computes _ rd _)).trans (State.setCarry_computes _ _)) h
  · exact .finishArith ((s.setGpr_computes rd _).trans (State.setCarry_computes _ _)) h

theorem Outcome.writeReg {rd : Reg} {v : Word} (h : s.writeReg rd v = .next t) : Outcome i s t := by
  cases h; exact .completed (s.setGpr_computes rd v)

theorem Outcome.writeFlag {b : Bool} (h : s.writeFlag b = .next t) : Outcome i s t := by
  cases h; exact .completed (s.setFlag_computes b)

theorem Outcome.vecFlag {p : Word → Word → Bool} {rd ra rb : Reg} (h : s.vecFlag p rd ra rb = .next t) : Outcome i s t := by
  cases h; exact .completed ((s.setFlag_computes _).trans (State.setGpr_computes _ rd _))

theorem Outcome.finishFp {f : Fmt} {rd : Reg} {r : FRes} (h : s.finishFp f rd r = .next t) : Outcome i s t := by
  have hu := ((s.fpOut_computes f r.out).trans (State.setGpr_computes _ rd (s.fpOut f r.out).1)).trans
    (State.orFlags_computes _ (r.flagsAt (s.fpOut f r.out).1))
  rcases State.finishFp_next h with rfl | rfl
  · exact .raised _ _ hu
  · exact .completed hu

theorem Outcome.accSigned {z : Int} (h : s.accSigned z = .next t) : Outcome i s t :=
  .finishArith ((s.setAcc_computes _).trans (State.setOverflow_computes _ _)) h

theorem Outcome.accUnsigned {v : Word} {c : Bool} (h : s.accUnsigned v c = .next t) : Outcome i s t :=
  .finishArith ((s.setAcc_computes _).trans (State.setCarry_computes _ _)) h

theorem Outcome.sync {es : List StaleWord} (hes : ∀ e ∈ es, ∃ d ∈ s.stale, e.addr = d.addr)
    (h : State.noEffect { s with stale := es } = .next t) : Outcome i s t := by
  cases h; exact .synchronised hes

theorem Outcome.loadOp {rd ra : Reg} {d : BitVec 16} {n : Nat} {ext : Nat → Word}
    (hi : Instr.dataAccess i = some (.load, ra, d, n)) (h : s.loadOp rd ra d n ext = .next t) : Outcome i s t := by
  rcases State.loadOp_next h with ⟨r, hr, _, rfl⟩ | ⟨x, ea, rfl⟩
  · exact .loaded rd _ hi hr
  · exact .raised x ea (.refl s)

theorem Outcome.storeOp {ra rb : Reg} {d : BitVec 16} {n : Nat}
    (hi : Instr.dataAccess i = some (.store, ra, d, n)) (h : s.storeOp ra rb d n = .next t) : Outcome i s t := by
  rcases State.storeOp_next h with ⟨u, hu, _, rfl⟩ | ⟨x, ea, rfl⟩
  · exact .stored hi hu
  · exact .raised x ea (.refl s)

end Operations

/-- The records of replaced words after a wait are those before it, at other stages. -/
theorem mem_synced {es : List StaleWord} {e : StaleWord} (h : e ∈ synced es) : ∃ d ∈ es, e.addr = d.addr := by
  obtain ⟨d, hd, rfl⟩ := List.mem_map.mp h
  exact ⟨d, hd, by split <;> rfl⟩

theorem mem_of_mem_flushedOld {c : Config} {es : List StaleWord} {e : StaleWord} (h : e ∈ flushedOld c es) :
    ∃ d ∈ es, e.addr = d.addr := by
  rcases mem_flushedOld.mp h with ⟨h, _⟩ | ⟨_, _, h⟩
  · exact ⟨e, h, rfl⟩
  · exact ⟨_, h, rfl⟩

/-! ## Transfers -/

/-- The sum of two multiples of four, cut to XLEN bits, is one. -/
theorem trunc_aligned (x : Xlen) {v : Word} (h : v.extractLsb' 0 2 = 0) : (trunc x v).extractLsb' 0 2 = 0 := by
  cases x with
  | x64 => exact h
  | x32 =>
    have : (trunc .x32 v).extractLsb' 0 2 = v.extractLsb' 0 2 := by
      apply BitVec.eq_of_getLsbD_eq
      intro k hk
      simp only [trunc, BitVec.getLsbD_extractLsb', BitVec.getLsbD_setWidth, hk, decide_true, Bool.true_and,
        show 0 + k < 64 by omega, show 0 + k < 32 by omega]
    rw [this, h]

theorem aligned_iff (v : Word) : v.extractLsb' 0 2 = 0 ↔ v.toNat % 4 = 0 := by
  rw [← BitVec.toNat_inj, BitVec.extractLsb'_toNat]
  simp

theorem add_aligned {v w : Word} (hv : v.extractLsb' 0 2 = 0) (hw : w.extractLsb' 0 2 = 0) : (v + w).extractLsb' 0 2 = 0 := by
  rw [aligned_iff] at *
  rw [BitVec.toNat_add]
  omega

theorem jumpOffset_aligned (x : Xlen) (n : BitVec 26) : (jumpOffset x n).extractLsb' 0 2 = 0 := by
  refine trunc_aligned x ?_
  apply BitVec.eq_of_getLsbD_eq
  intro k hk
  simp only [BitVec.getLsbD_extractLsb', BitVec.getLsbD_signExtend, hk, decide_true, Bool.true_and]
  rw [BitVec.getLsbD_append]
  simp [show k < 64 by omega, show k < 28 by omega, hk]

@[simp] theorem State.trunc_pcPlus (s : State) (d : Word) : trunc s.cfg.xlen (s.pcPlus d) = s.pcPlus d := trunc_trunc _ _

theorem State.pcPlus_aligned {s : State} (h : s.pc.extractLsb' 0 2 = 0) {d : Word} (hd : d.extractLsb' 0 2 = 0) :
    (s.pcPlus d).extractLsb' 0 2 = 0 := trunc_aligned _ (add_aligned h hd)

theorem State.jumpTarget_aligned (s : State) {n : BitVec 26} (h : s.pc.extractLsb' 0 2 = 0) :
    (s.jumpTarget n).extractLsb' 0 2 = 0 := State.pcPlus_aligned h (jumpOffset_aligned _ _)

section Instructions
variable {i : Instr} {s t : State}

theorem Outcome.link {target : Word} (ha : s.pc.extractLsb' 0 2 = 0 → target.extractLsb' 0 2 = 0)
    (hx : trunc s.cfg.xlen target = target) (h : s.linkAndTransfer target = .next t) : Outcome i s t :=
  .transferred (s.setGpr_computes 9 _) ha hx h

/-- A register target is checked before the jump. -/
theorem Outcome.toRegister {target : Word} {k : Word → Result}
    (h : (if targetMisaligned target then s.raise .alignment target else k target) = .next t)
    (hk : target.extractLsb' 0 2 = 0 → k target = .next t → Outcome i s t) : Outcome i s t := by
  split at h
  · exact .raise h
  · rename_i ha
    exact hk (by simpa [targetMisaligned] using ha) h

theorem Outcome.rfe (h : (if s.sm then (if s.dsPending then Host.Outcome.refused .jumpInDelaySlot else .next s.leave)
    else s.raise .illegal s.pc) = .next t) : Outcome i s t := by
  split at h
  · rename_i hsm
    split at h
    · cases h
    · cases h; exact .returned hsm
  · exact .raise h

/-- A special-register move is made where the mode may access the register and its general register exists. -/
theorem Outcome.sprMove {r : Option Spr} {rx : Reg} {u : State}
    (h : (if mayAccess s r then (if s.regMissing rx then s.raise .range 0 else .next u) else s.raise .illegal s.pc) = .next t)
    (hu : mayAccess s r = true → Outcome i s u) : Outcome i s t := by
  split at h
  · rename_i ha
    split at h
    · exact .raise h
    · cases h; exact hu ha
  · exact .raise h

theorem State.readSprAt_computes (s : State) (r : Option Spr) : Computes s (s.readSprAt r).2 := by
  rw [s.readSprAt_rest r]; exact .of_free s _ _ _

theorem Outcome.mfspr {rd ra : Reg} {k : BitVec 16}
    (h : (if mayAccess s (sprAt s.cfg (s.sprAddress ra k)) then
      (if s.regMissing rd then s.raise .range 0
       else .next (((s.readSprAt (sprAt s.cfg (s.sprAddress ra k))).2.setGpr rd
          (s.readSprAt (sprAt s.cfg (s.sprAddress ra k))).1).advance))
      else s.raise .illegal s.pc) = .next t) : Outcome i s t :=
  .sprMove h fun _ => .completed ((s.readSprAt_computes _).trans (State.setGpr_computes _ rd _))

theorem Outcome.mtspr {ra rb : Reg} {k : BitVec 16}
    (h : (if mayAccess s (sprAt s.cfg (s.sprAddress ra k)) then
      (if s.regMissing rb then s.raise .range 0
       else .next ((s.writeSprAt (sprAt s.cfg (s.sprAddress ra k)) (s.gpr rb)).finishMtspr
        (sprAt s.cfg (s.sprAddress ra k)) (s.gpr rb)))
      else s.raise .illegal s.pc) = .next t) : Outcome i s t :=
  .sprMove h (.moved _)

theorem Outcome.lwa {rd ra : Reg} {d : BitVec 16}
    (h : ((s.memRead (s.effAddr ra d) 4).run s fun r =>
      if s.regMissing rd then s.raise .range 0
      else .next ({ r.2.state.syncPoint.setGpr rd (zextLoad r.1) with resv := reserve r.2.addrs }).advance) = .next t) :
    Outcome (.lLwa rd ra d) s t := by
  refine .of_attempt h fun r hr h => ?_
  split at h
  · exact .raise h
  · cases h; exact .loadedReserving rd _ rfl hr

theorem Outcome.swa {ra rb : Reg} {d : BitVec 16}
    (h : (if (s.effAddr ra d).toNat % 4 != 0 then s.raise .alignment (s.effAddr ra d)
      else
        (translate s .store (s.effAddr ra d) 4).run s fun l =>
          if s.reserved l.addrs then
            if physValid s.cfg l.addrs then
              (l.state.syncPoint.storePhys l.addrs (s.gpr rb) l.cached).run s fun t =>
                if s.regMissing rb then s.raise .range 0 else .next (t.finishSwa true)
            else s.raise .busError (s.effAddr ra d)
          else if s.regMissing rb then s.raise .range 0
          else .next (l.state.syncPoint.finishSwa false)) = .next t) :
    Outcome (.lSwa ra rb d) s t := by
  split at h
  · exact .raise h
  · refine .of_attempt h fun l hl h => ?_
    split at h
    · split at h
      · rename_i hv
        have hloc : locate s .store (s.effAddr ra d) 4 = .ok l := by simp only [locate, hl, hv, if_true]
        refine .of_attempt h fun u hu h => ?_
        split at h
        · exact .raise h
        · cases h; exact .storedReserved rfl hloc hu
      · exact .raise h
    · split at h
      · exact .raise h
      · cases h; exact .notStored rfl hl

/-- Everything any instruction can answer with a next state. -/
theorem exec_outcome (h : exec i s = .next t) : Outcome i s t := by
  unfold exec at h
  cases i with
  | lAdd | lAddc | lAddi | lAddic => exact .of_issue h .addOp
  | lSub => exact .of_issue h .subOp
  | lMul | lMuli => exact .of_issue h .mulOp
  | lMulu => exact .of_issue h .muluOp
  | lDiv => exact .of_issue h .divOp
  | lDivu => exact .of_issue h .divuOp
  | lMac | lMaci | lMsb => exact .of_issue h .accSigned
  | lMacu | lMsbu => exact .of_issue h .accUnsigned
  | lMuld => exact .of_issue h (.finishArith ((s.setAcc_computes _).trans (State.setOverflow_computes _ _)))
  | lMuldu => exact .of_issue h (.finishArith ((s.setAcc_computes _).trans (State.setCarry_computes _ _)))
  | lMacrc =>
    refine .of_issue h fun h => ?_
    cases h
    exact .completed ((s.setGpr_computes _ _).trans (State.setAcc_computes _ _))
  | lCmov | lFf1 | lFl1 | lAnd | lAndi | lOr | lOri | lXor | lXori | lSll | lSlli | lSrl | lSrli | lSra | lSrai | lRor |
    lRori | lExtbs | lExtbz | lExths | lExthz | lExtws | lExtwz | lMovhi | lvAddB | lvAddH | lvAddsB | lvAddsH | lvAdduB
    | lvAdduH | lvAddusB | lvAddusH | lvAnd | lvAvgB | lvAvgH | lvCmpEqB | lvCmpEqH | lvCmpGeB | lvCmpGeH | lvCmpGtB |
    lvCmpGtH | lvCmpLeB | lvCmpLeH | lvCmpLtB | lvCmpLtH | lvCmpNeB | lvCmpNeH | lvMaxB | lvMaxH | lvMergeB | lvMergeH |
    lvMinB | lvMinH | lvMulsH | lvNand | lvNor | lvOr | lvPackB | lvPackH | lvPacksB | lvPacksH | lvPackusB | lvPackusH
    | lvPermN | lvRlB | lvRlH | lvSllB | lvSllH | lvSll | lvSrlB | lvSrlH | lvSraB | lvSraH | lvSrl | lvSubB | lvSubH |
    lvSubsB | lvSubsH | lvSubuB | lvSubuH | lvSubusB | lvSubusH | lvUnpackB | lvUnpackH | lvXor =>
    exact .of_issue h .writeReg
  | lSfeq | lSfne | lSfgtu | lSfgeu | lSfltu | lSfleu | lSfeqi | lSfnei | lSfgtui | lSfgeui | lSfltui | lSfleui | lSfgts
    | lSfges | lSflts | lSfles | lSfgtsi | lSfgesi | lSfltsi | lSflesi | lfSfeqS | lfSfneS | lfSfgtS | lfSfgeS | lfSfltS
    | lfSfleS | lfSfeqD | lfSfneD | lfSfgtD | lfSfgeD | lfSfltD | lfSfleD =>
    exact .of_issue h .writeFlag
  | lvAllEqB | lvAllEqH | lvAllGeB | lvAllGeH | lvAllGtB | lvAllGtH | lvAllLeB | lvAllLeH | lvAllLtB | lvAllLtH |
    lvAllNeB | lvAllNeH | lvAnyEqB | lvAnyEqH | lvAnyGeB | lvAnyGeH | lvAnyGtB | lvAnyGtH | lvAnyLeB | lvAnyLeH |
    lvAnyLtB | lvAnyLtH | lvAnyNeB | lvAnyNeH =>
    exact .of_issue h .vecFlag
  | lfAddS | lfSubS | lfMulS | lfDivS | lfRemS | lfAddD | lfSubD | lfMulD | lfDivD | lfRemD | lfItofS | lfFtoiS |
    lfItofD | lfFtoiD =>
    exact .of_issue h .finishFp
  | lfMaddS | lfMaddD | lvMaddsH | lvMsubsH => exact .of_issue h nofun
  | lCust1 | lCust2 | lCust3 | lCust4 | lCust5 | lCust6 | lCust7 | lCust8 | lfCust1S | lfCust1D | lvCust1 | lvCust2 |
    lvCust3 | lvCust4 | lSys | lTrap =>
    exact .of_issue h .raise
  | lLbz | lLbs | lLhz | lLhs | lLwz | lLws | lLd => exact .of_issue h (.loadOp rfl)
  | lSb | lSh | lSw | lSd => exact .of_issue h (.storeOp rfl)
  | lNop =>
    refine .of_issue h fun h => ?_
    cases h
    exact .completed (.refl s)
  | lMsync | lCsync => exact .of_issue h (.sync fun e => mem_synced)
  | lPsync => exact .of_issue h (.sync fun e => mem_of_mem_flushedOld)
  | lLwa => exact .of_issue h .lwa
  | lSwa => exact .of_issue h .swa
  | lJ | lBf | lBnf => exact .of_issue h (.transferred (.refl s) s.jumpTarget_aligned (s.trunc_pcPlus _))
  | lJal => exact .of_issue h (.link s.jumpTarget_aligned (s.trunc_pcPlus _))
  | lJr => exact .of_issue h fun h => .toRegister h fun ha => .transferred (.refl s) (fun _ => ha) (s.trunc_gpr _)
  | lJalr => exact .of_issue h fun h => .toRegister h fun ha => .link (fun _ => ha) (s.trunc_gpr _)
  | lRfe => exact .of_issue h .rfe
  | lMtspr => exact .of_issue h .mtspr
  | lMfspr => exact .of_issue h .mfspr

end Instructions

end Sys2Proof.Machine
end

section
/-! PROOFS. What every step keeps: the configuration, and the invariant. Each operation keeps them, so each outcome of an instruction
does, and so does a step. -/

namespace Sys2Proof.Machine

/-! ## The configuration -/

theorem Computes.advance_cfg {s u : State} (h : Computes s u) : u.advance.cfg = s.cfg := (State.advance_cfg u).trans h.cfg

@[simp] theorem State.settlePccr_cfg (s : State) (i : BitVec 3) : (s.settlePccr i).cfg = s.cfg := by
  unfold State.settlePccr; split <;> rfl

@[simp] theorem State.writeBackBlock_cfg (s : State) (ea : Word) : (s.writeBackBlock ea).cfg = s.cfg := by
  unfold State.writeBackBlock; split <;> rfl

@[simp] theorem State.invalidateInsnBlock_cfg (s : State) (ea : Word) : (s.invalidateInsnBlock ea).cfg = s.cfg := by
  unfold State.invalidateInsnBlock; split <;> rfl

@[simp] theorem State.writeSpr_cfg (s : State) (v : Word) (r : Spr) : (s.writeSpr v r).cfg = s.cfg := by
  cases r <;> simp only [State.writeSpr, State.setGprAt_cfg, State.writeBackBlock_cfg]
  case icbir => split <;> simp
  case pcmr => exact s.settlePccr_cfg _
  all_goals split <;> rfl

@[simp] theorem State.writeSprAt_cfg (s : State) (r : Option Spr) (v : Word) : (s.writeSprAt r v).cfg = s.cfg := by
  unfold State.writeSprAt
  split
  · rfl
  · split <;> simp

@[simp] theorem State.finishMtspr_cfg (s : State) (r : Option Spr) (v : Word) : (s.finishMtspr r v).cfg = s.cfg := by
  unfold State.finishMtspr
  split <;> simp

theorem translate_cfg {s : State} {k : Access} {ea : Word} {n : Nat} {l : Located} (h : translate s k ea n = .ok l) :
    l.state.cfg = s.cfg := by
  rcases translate_ok h with ⟨_, rfl⟩ | ⟨_, e, _, hs, _⟩
  · rfl
  · rw [hs, State.touch_cfg]

/-- What a store leaves: the OMPIC and the latches its line sets, or memory with the record of replaced words. -/
theorem State.storePhys_next {s t : State} {as : List Nat} {v : Word} {c : Bool} (h : s.storePhys as v c = .ok t) :
    (as.any (inOmpic s.cfg) = true ∧
      (t = { s with resv := cancelOverlap s.resv as } ∨
       ∃ i, t = ({ s with resv := cancelOverlap s.resv as }).setOmpic (ompicControl s.ompic i (lo32 v)))) ∨
    (as.any (inOmpic s.cfg) = false ∧ t = { s with
      resv := cancelOverlap s.resv as
      mem := s.mem.writeAll (as.zip (s.dataOrder (toBytes as.length v)))
      stale := s.noteStale as (firstStage s.cfg) }) := by
  unfold State.storePhys at h
  split at h
  · rename_i ho
    split at h
    · cases h; exact .inl ⟨ho, .inr ⟨_, rfl⟩⟩
    · cases h; exact .inl ⟨ho, .inl rfl⟩
    · cases h
  · rename_i ho
    cases h
    exact .inr ⟨Bool.eq_false_iff.mpr ho, rfl⟩

theorem State.storePhys_cfg {s t : State} {as : List Nat} {v : Word} {c : Bool} (h : s.storePhys as v c = .ok t) : t.cfg = s.cfg := by
  rcases State.storePhys_next h with ⟨_, rfl | ⟨i, rfl⟩⟩ | ⟨_, rfl⟩ <;> simp

theorem Outcome.cfg {i : Instr} {s t : State} (h : Outcome i s t) : t.cfg = s.cfg := by
  cases h with
  | completed hu => exact hu.advance_cfg
  | raised x ea hu => exact (State.enter_cfg _ x ea).trans hu.cfg
  | transferred hu _ _ ht =>
    obtain ⟨_, ⟨_, rfl⟩ | ⟨_, rfl⟩⟩ := State.transfer_next ht
    · exact hu.cfg
    · exact hu.cfg
  | returned => simp
  | moved v _ => simp
  | synchronised => simp
  | loaded rd v _ hr => simp [translate_cfg (locate_ok (State.memRead_ok hr).2.1).1]
  | loadedReserving rd v _ hr => simp [translate_cfg (locate_ok (State.memRead_ok hr).2.1).1]
  | stored _ hu =>
    obtain ⟨_, l, hl, hs⟩ := State.memWrite_ok hu
    simp [State.storePhys_cfg hs, translate_cfg (locate_ok hl).1]
  | storedReserved _ hl hs => simp [State.finishSwa, State.storePhys_cfg hs, translate_cfg (locate_ok hl).1]
  | notStored _ hl => simp [State.finishSwa, translate_cfg hl]

/-- No instruction changes the configuration. -/
theorem exec_cfg {i : Instr} {s t : State} (h : exec i s = .next t) : t.cfg = s.cfg := (exec_outcome h).cfg

/-- What a fetched word does: its instruction, or Illegal Instruction. -/
theorem executeWord_next {w : Word32} {s t : State} (h : executeWord w s = .next t) :
    (∃ i, Outcome i s t) ∨ t = s.enter .illegal s.pc := by
  unfold executeWord at h
  split at h
  · exact .inl ⟨_, exec_outcome h⟩
  · cases h; exact .inr rfl

/-- What a fetch and an execution leave: an exception of the fetch, or what a fetched word does in a state that differs from the fetched
one in the watchpoint counters and the free values drawn, up to those two again. -/
theorem fetchAndExecute_next {s t : State} (h : fetchAndExecute s = .next t) :
    (∃ x ea, t = s.enter x ea) ∨
    ∃ r d n u, s.fetch = .ok r ∧ executeWord r.1 { r.2 with dwcr := d, freeCtr := n } = .next u ∧
      t = { u with dwcr := t.dwcr, freeCtr := t.freeCtr } := by
  rcases Attempt.run_next h with ⟨r, hr, hw⟩ | ⟨x, ea, _, rfl⟩
  · obtain ⟨u, hu, ht⟩ := State.watched_next hw
    rw [State.watchBefore_rest] at hu
    exact .inr ⟨r, _, _, u, hr, hu, ht⟩
  · exact .inl ⟨x, ea, rfl⟩

theorem State.fetch_cfg {s : State} {r : Word32 × State} (h : s.fetch = .ok r) : r.2.cfg = s.cfg := by
  obtain ⟨l, hl, hs, _⟩ := State.fetch_ok h
  have hc := translate_cfg (locate_ok hl).1
  rcases hs with hs | hs <;> rw [hs, ← hc]

theorem fetchAndExecute_cfg {s t : State} (h : fetchAndExecute s = .next t) : t.cfg = s.cfg := by
  rcases fetchAndExecute_next h with ⟨x, ea, rfl⟩ | ⟨r, d, n, u, hr, hu, ht⟩
  · simp
  · have hc : u.cfg = r.2.cfg := by
      rcases executeWord_next hu with ⟨i, ho⟩ | rfl
      · exact ho.cfg
      · simp
    rw [ht]
    exact hc.trans (State.fetch_cfg hr)

theorem State.paused_next {s t : State} (h : s.paused = some t) :
    t = s ∨ t = { s with pmr := s.pmr &&& 0xFFFFFFCF } ∨ t = { s with pmr := setBit s.pmr 4 false } := by
  unfold State.paused at h
  repeat' split at h
  all_goals cases h <;> simp

/-- Everything the core's part of a step can leave. -/
theorem coreStep_next {s t : State} (h : coreStep s = .next t) :
    t = s ∨ s.paused = some t ∨ (∃ x, t = s.enter x 0) ∨ fetchAndExecute s = .next t := by
  rw [coreStep_eq] at h
  split at h
  · cases h; exact .inl rfl
  · split at h
    · rename_i hp
      cases h; exact .inr (.inl hp)
    · split at h
      · cases h
      · split at h
        · cases h; exact .inr (.inr (.inl ⟨_, rfl⟩))
        · exact .inr (.inr (.inr h))

theorem coreStep_cfg {s t : State} (h : coreStep s = .next t) : t.cfg = s.cfg := by
  rcases coreStep_next h with rfl | h | ⟨x, rfl⟩ | h
  · rfl
  · rcases State.paused_next h with rfl | rfl | rfl <;> rfl
  · simp
  · exact fetchAndExecute_cfg h

/-! ## The environment -/

@[simp] theorem State.debugWrites_nil (s : State) : s.debugWrites [] = s := rfl

/-- Whatever each write of a debug register keeps, the development interface keeps. -/
theorem State.debugWrites_keeps {P : State → Prop} (hP : ∀ s v r, P s → P (s.writeSpr v r)) (s : State)
    (ws : List (BitVec 11 × Word32)) (h : P s) : P (s.debugWrites ws) := by
  unfold State.debugWrites
  induction ws generalizing s with
  | nil => exact h
  | cons w ws ih =>
    rw [List.foldl_cons]
    refine ih _ ?_
    split
    · split
      · exact hP _ _ _ h
      · exact h
    · exact h

@[simp] theorem State.debugWrites_cfg (s : State) (ws : List (BitVec 11 × Word32)) : (s.debugWrites ws).cfg = s.cfg :=
  s.debugWrites_keeps (P := fun t => t.cfg = s.cfg) (fun _ _ _ h => (State.writeSpr_cfg _ _ _).trans h) ws rfl

/-- A tick changes the two timer registers only. -/
theorem State.timerTick_rest (s : State) : s.timerTick = { s with ttcr := s.timerTick.ttcr, ttmr := s.timerTick.ttmr } := by
  unfold State.timerTick
  split
  · split <;> rfl
  · rfl

theorem State.timerTicks_rest (n : Nat) (s : State) :
    State.timerTicks n s = { s with ttcr := (State.timerTicks n s).ttcr, ttmr := (State.timerTicks n s).ttmr } := by
  induction n generalizing s with
  | zero => rfl
  | succ n ih =>
    show State.timerTicks n s.timerTick = _
    have htick := s.timerTick_rest
    have h := ih s.timerTick
    refine h.trans ?_
    show _ = { s with ttcr := (State.timerTicks n s.timerTick).ttcr, ttmr := (State.timerTicks n s.timerTick).ttmr }
    generalize State.timerTicks n s.timerTick = u
    rw [htick]

/-- With no input the environment changes the timer, its wait and the free values drawn. -/
theorem State.freeTicks_rest (s : State) :
    s.freeTicks = { s with
      ttcr := s.freeTicks.ttcr, ttmr := s.freeTicks.ttmr, tickWait := s.freeTicks.tickWait, freeCtr := s.freeTicks.freeCtr } := by
  have wait : ∀ (s : State) (w : Nat), s.waitOrTick w = { s with
      ttcr := (s.waitOrTick w).ttcr, ttmr := (s.waitOrTick w).ttmr
      tickWait := (s.waitOrTick w).tickWait, freeCtr := (s.waitOrTick w).freeCtr } := by
    intro s w
    cases w with
    | zero =>
      unfold State.waitOrTick
      rw [State.timerTicks_rest]
    | succ n => rfl
  unfold State.freeTicks
  split
  · split
    · exact wait _ _
    · exact wait { s with freeCtr := s.freeCtr + 1 } _
  · rfl

theorem State.letTick_rest (s : State) (n : Nat) :
    s.letTick n = { s with ttcr := (s.letTick n).ttcr, ttmr := (s.letTick n).ttmr } := by
  unfold State.letTick
  split
  · rfl
  · exact State.timerTicks_rest n s

@[simp] theorem State.letTick_cfg (s : State) (n : Nat) : (s.letTick n).cfg = s.cfg := by rw [State.letTick_rest]

theorem State.environment_cfg (s : State) : s.environment.cfg = s.cfg := by
  unfold State.environment
  split
  · rw [State.freeTicks_rest]
  · simp [State.applyInput, State.setIrq, State.foreignWrites]

/-- Settles O11: the environment, a reset and every outcome of an instruction leave the configuration. -/
theorem stepKeepsConfig : Obligations.StepKeepsConfig := by
  intro s t h
  rw [step_eq] at h
  split at h
  · cases h
    exact s.environment_cfg
  · exact (coreStep_cfg h).trans s.environment_cfg

end Sys2Proof.Machine
end

section
/-! PROOFS. The invariant: it holds after reset, every operation keeps it, and so does every step. -/

namespace Sys2Proof.Machine

/-! ## Bits -/

/-- A word that agrees with another outside `m` meets the same conditions on bits outside `m`. -/
theorem and_congr_outside {v w m p : Word32} (h : v &&& ~~~m = w &&& ~~~m) (hp : ~~~m &&& p = p) : v &&& p = w &&& p := by
  rw [← hp, ← BitVec.and_assoc, h, BitVec.and_assoc]

/-- What a mask has cut away stays away in every disjoint mask. -/
theorem and_and_zero {w m p : Word32} (h : m &&& p = 0) : (w &&& m) &&& p = 0 := by
  rw [BitVec.and_assoc, h]
  exact BitVec.and_zero

theorem trunc_zext32 (x : Xlen) (w : Word32) : trunc x (zext32 w) = zext32 w := by
  cases x with
  | x64 => rfl
  | x32 => simp [trunc, zext32]

/-- Clearing the low two bits of an address of XLEN bits. -/
theorem clearLow_aligned (v : Word) : (v &&& ~~~3).extractLsb' 0 2 = 0 := by
  rw [BitVec.extractLsb'_and]
  exact BitVec.and_zero

theorem trunc_clearLow (x : Xlen) (v : Word) : trunc x (trunc x v &&& ~~~3) = trunc x v &&& ~~~3 := by
  cases x with
  | x64 => rfl
  | x32 =>
    apply BitVec.eq_of_getLsbD_eq
    intro k hk
    simp only [trunc, BitVec.getLsbD_setWidth, BitVec.getLsbD_and]
    by_cases h : k < 32 <;> simp [h, hk]

theorem zext32_low (w : Word32) : (zext32 w).extractLsb' 0 2 = w.extractLsb' 0 2 := by
  simp [zext32, BitVec.extractLsb'_setWidth_of_le]

/-- Every vector is a multiple of four. -/
theorem State.vector_aligned (s : State) {n : Word32} (hn : n.extractLsb' 0 2 = 0) :
    (zext32 (s.vectorBase ||| n)).extractLsb' 0 2 = 0 := by
  have hmask : (s.evbar &&& 0xFFFFE000#32).extractLsb' 0 2 = 0#2 := by
    rw [BitVec.extractLsb'_and]; exact BitVec.and_zero
  have hbase : s.vectorBase.extractLsb' 0 2 = 0#2 := by
    unfold State.vectorBase
    cases s.cfg.hasEvbar <;> cases s.eph <;> simp [hmask, BitVec.extractLsb'_or]
  rw [zext32_low, BitVec.extractLsb'_or, hbase, hn]
  exact BitVec.or_zero

theorem State.vectorAddress_aligned (s : State) (x : Exc) : (s.vectorAddress x).extractLsb' 0 2 = 0 :=
  s.vector_aligned (by cases x <;> decide)

/-! ## Reset -/

/-- The invariant after reset, whatever memory, replaced words and environment there are. -/
theorem Inv.reset (c : Config) : Inv (State.resetFor c) where
  mem := rfl
  pcAligned := by rw [State.resetFor_pc]; exact State.vector_aligned _ rfl
  targetAligned := rfl
  pcWidth := trunc_zext32 _ _
  targetWidth := trunc_zero _
  gprWidth i := by simp [State.resetFor]
  epcrWidth i := by simp [State.resetFor]
  eearWidth i := by simp [State.resetFor]
  srFixed := (by decide : (0x00008001 : Word32) &&& 0x0FFE8000 = 0x00008000)
  srLee _ := (by decide : (0x00008001 : Word32).getLsbD 7 = false)
  evbarLow := and_and_zero rfl
  aecrBits := BitVec.zero_and
  aesrBits := BitVec.zero_and
  fpcsrBits := BitVec.zero_and
  dsrBits := BitVec.zero_and
  drrBits := BitVec.zero_and
  pmrBits := BitVec.zero_and
  resvAligned _ _ h := nomatch h
  ompicCores := List.length_replicate
  staleAligned _ h := nomatch h
  staleCached _ := rfl
  noSlot _ := rfl

/-- Settles O9: the reset state of the reference configuration is one of those. -/
theorem resetInv : Obligations.ResetInv := ⟨Inv.reset _, Inv.reset⟩

/-! ## Instructions that compute -/

section Keeps
variable {s : State}

theorem Inv.computes {u : State} (hi : Inv s) (h : Computes s u) : Inv u := by
  have sr : ∀ m : Word32, ~~~0xE00 &&& m = m → u.sr &&& m = s.sr &&& m := fun m hm => and_congr_outside h.sr hm
  have lee := h.sr.getLsbD (n := 7) (by decide) (by decide)
  rw [h.rest]
  exact { hi with
    gprWidth := fun j => (h.gprs j).elim (fun e => by rw [e]; exact hi.gprWidth j) And.right
    srFixed := (sr _ (by decide)).trans hi.srFixed
    srLee := fun hl => lee.trans (hi.srLee hl)
    aesrBits := (and_congr_outside h.aesr (by decide)).trans hi.aesrBits
    fpcsrBits := (and_congr_outside h.fpcsr (by decide)).trans hi.fpcsrBits }

theorem four_aligned : (4 : Word).extractLsb' 0 2 = 0 := by decide
theorem eight_aligned : (8 : Word).extractLsb' 0 2 = 0 := by decide

theorem Inv.advance (hi : Inv s) : Inv s.advance := by
  unfold State.advance
  split
  · exact { hi with pcAligned := hi.targetAligned, pcWidth := hi.targetWidth, noSlot := fun _ => rfl }
  · exact { hi with pcAligned := State.pcPlus_aligned hi.pcAligned four_aligned, pcWidth := s.trunc_pcPlus 4 }

theorem Exc.dsrBit_lt (x : Exc) : x.dsrBit < 14 := by cases x <;> decide

theorem Bank.at_put_keeps {w : Nat} {α : Type} {P : α → Prop} {b : Bank w α} (hb : ∀ i, P (b.at i)) {j : BitVec w} {v : α} (hv : P v)
    (i : BitVec w) : P ((b.put j v).at i) := by
  rw [Bank.at_put]
  split
  · exact hv
  · exact hb i

/-- SR after the entry of an exception, bit by bit (60_exceptions.md R862). -/
theorem State.entrySr_getLsbD (s : State) (n : BitVec 4) {k : Nat} (hk : k < 32) :
    (s.entrySr n).getLsbD k =
      if k = 0 then true else if k = 1 ∨ k = 2 ∨ k = 5 ∨ k = 6 then false else if k = 13 then s.dsPending
      else if 28 ≤ k ∧ s.fcs = true then n.getLsbD (k - 28) else s.sr.getLsbD k := by
  unfold State.entrySr
  cases s.fcs <;> cases s.dsPending <;> interval_cases k <;> simp

/-- The bits of SR that an exception's entry leaves alone. -/
theorem State.entrySr_outside (s : State) (n : BitVec 4) : s.entrySr n &&& 0x0FFFDF98 = s.sr &&& 0x0FFFDF98 := by
  have mask : ∀ k < 32, (0x0FFFDF98 : Word32).getLsbD k = true → ¬ (k = 0 ∨ k = 1 ∨ k = 2 ∨ k = 5 ∨ k = 6 ∨ k = 13 ∨ 28 ≤ k) := by
    decide
  apply BitVec.eq_of_getLsbD_eq
  intro k hk
  rw [BitVec.getLsbD_and, BitVec.getLsbD_and, s.entrySr_getLsbD n hk]
  cases hm : (0x0FFFDF98 : Word32).getLsbD k with
  | false => simp
  | true =>
    have := mask k hk hm
    simp [show k ≠ 0 ∧ k ≠ 1 ∧ k ≠ 2 ∧ k ≠ 5 ∧ k ≠ 6 ∧ k ≠ 13 ∧ ¬ 28 ≤ k by omega]

theorem Inv.enter (hi : Inv s) (x : Exc) (ea : Word) : Inv (s.enter x ea) := by
  cases hx : s.redirects x with
  | true =>
    rw [State.enter_redirected hx]
    have hbit : ∀ n < 14, (0xFFFFC000#32).getLsbD n = false := by decide
    have hlt := x.dsrBit_lt
    exact { hi with drrBits := (setBit_outside _ _ _ _ (hbit _ hlt) (by omega)).trans hi.drrBits }
  | false =>
    rw [State.enter_eq hx]
    have hsr := s.entrySr_outside s.entryCtx
    have fixed : ∀ m : Word32, 0x0FFFDF98#32 &&& m = m → s.entrySr s.entryCtx &&& m = s.sr &&& m := fun m hm => by
      rw [← hm, ← BitVec.and_assoc, ← BitVec.and_assoc]; exact congrArg (· &&& m) hsr
    exact { hi with
      pcAligned := s.vectorAddress_aligned _
      pcWidth := trunc_zext32 _ _
      targetAligned := rfl
      targetWidth := trunc_zero _
      epcrWidth := Bank.at_put_keeps (P := fun v => trunc s.cfg.xlen v = v) hi.epcrWidth (trunc_trunc _ _)
      eearWidth := by
        dsimp only
        split
        · exact Bank.at_put_keeps (P := fun v => trunc s.cfg.xlen v = v) hi.eearWidth (trunc_trunc _ _)
        · exact hi.eearWidth
      srFixed := (fixed _ (by decide)).trans hi.srFixed
      srLee := fun hl => (s.entrySr_getLsbD s.entryCtx (k := 7) (by decide)).trans (hi.srLee hl)
      resvAligned := fun _ _ h => nomatch h
      noSlot := fun _ => rfl }

/-- A bit that is set within a mask the rest of the word avoids. -/
theorem fits_or_left (v : Word32) : ((v &&& 0xF0017FFF) ||| 0x00008000) &&& 0x0FFE8000 = 0x00008000 := by
  rw [BitVec.and_or_distrib_right, and_and_zero (by decide : (0xF0017FFF : Word32) &&& 0x0FFE8000 = 0)]
  decide

theorem srWritten_fixed (c : Config) (v : Word32) : srWritten c v &&& 0x0FFE8000 = 0x00008000 := by
  unfold srWritten
  rw [BitVec.and_assoc]
  have lee : ∀ b : Bool, (if b = true then (0xFFFFFFFF : Word32) else 0xFFFFFF7F) &&& 0x0FFE8000 = 0x0FFE8000 := by decide
  rw [lee]
  exact fits_or_left v

theorem srWritten_lee {c : Config} (h : c.leeSupported = false) (v : Word32) : (srWritten c v).getLsbD 7 = false := by
  simp [srWritten, h]

theorem Inv.leave (hi : Inv s) : Inv s.leave :=
  { hi with
    pcAligned := clearLow_aligned _
    pcWidth := trunc_clearLow _ _
    targetAligned := rfl
    targetWidth := trunc_zero _
    srFixed := srWritten_fixed _ _
    srLee := fun hl => srWritten_lee hl _
    noSlot := fun _ => rfl }

theorem Inv.transfer {t : State} {taken : Bool} {target : Word} (hi : Inv s) (ha : target.extractLsb' 0 2 = 0)
    (hw : trunc s.cfg.xlen target = target) (h : s.transfer taken target = .next t) : Inv t := by
  have next := State.pcPlus_aligned hi.pcAligned four_aligned
  have beyond := State.pcPlus_aligned hi.pcAligned eight_aligned
  obtain ⟨hd, ⟨hnd, rfl⟩ | ⟨hnd, rfl⟩⟩ := State.transfer_next h
  · exact { hi with
      pcAligned := by cases taken; exacts [next, ha]
      pcWidth := by cases taken; exacts [s.trunc_pcPlus 4, hw] }
  · exact { hi with
      pcAligned := next
      pcWidth := s.trunc_pcPlus 4
      targetAligned := by cases taken; exacts [beyond, ha]
      targetWidth := by cases taken; exacts [s.trunc_pcPlus 8, hw]
      noSlot := fun h => absurd (hnd.symm.trans h) (by decide) }

end Keeps

end Sys2Proof.Machine
end

section
/-! PROOFS. Every step keeps the invariant: memory accesses, special registers, the environment. -/

namespace Sys2Proof.Machine

section Keeps
variable {s : State}

/-! ## Memory accesses -/

theorem Inv.touch (hi : Inv s) (k : Access) (e : Entry) : Inv (s.touch k e) := by
  rw [s.touch_rest k e]; exact { hi with }

theorem Inv.translated (hi : Inv s) {k : Access} {ea : Word} {n : Nat} {l : Located} (h : translate s k ea n = .ok l) :
    Inv l.state := by
  rcases translate_ok h with ⟨_, rfl⟩ | ⟨_, e, _, hs, _⟩
  · exact hi
  · rw [hs]; exact hi.touch k e

theorem mod_four_of_mod_pow {a : Nat} (h : a % 4 = 0) (p : Nat) : a % 2 ^ p % 4 = 0 := by
  rcases Nat.lt_or_ge p 2 with hp | hp
  · interval_cases p <;> omega
  · obtain ⟨q, rfl⟩ := Nat.exists_eq_add_of_le hp
    rw [pow_add]
    have := Nat.mod_mul_right_mod a (2 ^ 2) (2 ^ q)
    omega

theorem windowPlace_aligned {w : EaWindow} {ea a : Nat} (h : ea % 4 = 0) (hw : windowPlace w ea = some a) : a % 4 = 0 := by
  unfold windowPlace at hw
  split at hw
  · cases hw; omega
  · cases hw

theorem uval_x32 (v : Word) : uval .x32 v = v.toNat % 2 ^ 32 := by
  have : v.toNat % 2 ^ 32 < 2 ^ 64 := by omega
  simpa [uval, trunc] using this

/-- An untranslated address is aligned where the effective address is. -/
theorem untranslated_aligned (c : Config) {ea : Word} (h : ea.toNat % 4 = 0) : untranslated c ea % 4 = 0 := by
  unfold untranslated
  split
  · rw [uval_x32]; exact mod_four_of_mod_pow h 32
  · refine mod_four_of_mod_pow ?_ _
    cases hw : c.eaMap.findSome? (windowPlace · ea.toNat) with
    | none => exact h
    | some a =>
      obtain ⟨w, _, hp⟩ := List.exists_of_findSome?_eq_some hw
      exact windowPlace_aligned h hp

theorem trunc_mod_four (x : Xlen) {v : Word} (h : v.toNat % 4 = 0) : (trunc x v).toNat % 4 = 0 :=
  (aligned_iff _).mp (trunc_aligned x ((aligned_iff v).mpr h))

/-- A page holds whole words. -/
theorem Mmu.pageBits_ge (m : Mmu) (e : Entry) : 2 ≤ m.pageBits e := by
  cases e <;> simp only [Mmu.pageBits, areaBits] <;> split <;> decide

theorem Mmu.physical_aligned (m : Mmu) (c : Config) (e : Entry) {ea : Word} (h : ea.toNat % 4 = 0) : m.physical c e ea % 4 = 0 := by
  have page : ∀ b : Nat, (b * 2 ^ m.pageBits e + ea.toNat % 2 ^ m.pageBits e) % 4 = 0 := by
    intro b
    obtain ⟨q, hq⟩ := Nat.exists_eq_add_of_le (m.pageBits_ge e)
    have h1 := mod_four_of_mod_pow h (m.pageBits e)
    rw [hq] at h1 ⊢
    rw [Nat.add_mod, h1, pow_add, ← mul_assoc, mul_comm b, mul_assoc]
    omega
  cases e <;> exact page _

/-- The first byte of an access lies at a multiple of four where the effective address does. -/
theorem translate_head_aligned {k : Access} {ea : Word} {n : Nat} {l : Located} (h : translate s k ea n = .ok l)
    (hea : ea.toNat % 4 = 0) {a : Nat} (ha : l.addrs.head? = some a) : a % 4 = 0 := by
  cases n with
  | zero =>
    rcases translate_ok h with ⟨_, rfl⟩ | ⟨_, e, _, _, _, _, hl, _⟩
    · cases ha
    · rw [hl] at ha; cases ha
  | succ n =>
    rcases translate_ok h with ⟨_, rfl⟩ | ⟨_, e, _, _, _, _, hl, _⟩
    · simp only [untranslatedBytes, List.range_succ_eq_map, List.map_cons, List.head?_cons, Option.some.injEq] at ha
      subst ha
      exact untranslated_aligned _ (trunc_mod_four _ (by simpa using hea))
    · rw [hl, List.range_succ_eq_map, List.map_cons, List.head?_cons, Option.some.injEq] at ha
      subst ha
      exact Mmu.physical_aligned _ _ e hea

/-- A reservation may be cancelled. -/
theorem cancelOverlap_eq (r : Option Nat) (as : List Nat) : cancelOverlap r as = none ∨ cancelOverlap r as = r := by
  unfold cancelOverlap
  split
  · exact .inl rfl
  · split
    · exact .inl rfl
    · exact .inr rfl

theorem Inv.resvCancel (hi : Inv s) (as : List Nat) (hc : s.cfg.unalignedSupported = false) (a : Nat)
    (h : cancelOverlap s.resv as = some a) : a % 4 = 0 := by
  rcases cancelOverlap_eq s.resv as with e | e
  · rw [e] at h; cases h
  · rw [e] at h; exact hi.resvAligned hc a h

/-- The aligned words that bytes lie in are aligned. -/
theorem mem_wordBases {as : List Nat} {a : Nat} (h : a ∈ wordBases as) : a % 4 = 0 := by
  rw [wordBases, List.mem_eraseDups, List.mem_map] at h
  obtain ⟨b, _, rfl⟩ := h
  omega

theorem Inv.noteStale_aligned (hi : Inv s) {as : List Nat} {g : Coherence} {e : StaleWord} (h : e ∈ s.noteStale as g) :
    e.addr % 4 = 0 := by
  unfold State.noteStale at h
  split at h
  · rcases List.mem_append.mp h with h | h
    · obtain ⟨a, ha, rfl⟩ := List.mem_map.mp h
      exact mem_wordBases ha
    · exact hi.staleAligned e h
  · exact hi.staleAligned e h

theorem Inv.noteStale_cached (hi : Inv s) (as : List Nat) (g : Coherence) (h : s.cfg.icp = false) : s.noteStale as g = [] := by
  unfold State.noteStale
  rw [if_neg (by simp [h])]
  exact hi.staleCached h

/-- Moving words of the record on keeps the invariant. -/
theorem Inv.restale (hi : Inv s) {es : List StaleWord} (h : ∀ e ∈ es, ∃ d ∈ s.stale, e.addr = d.addr) :
    Inv { s with stale := es } :=
  { hi with
    staleAligned := fun e he => by
      obtain ⟨d, hd, ha⟩ := h e he
      rw [ha]; exact hi.staleAligned d hd
    staleCached := fun hc => List.eq_nil_iff_forall_not_mem.mpr fun e he => by
      obtain ⟨d, hd, _⟩ := h e he
      rw [hi.staleCached hc] at hd
      cases hd }

theorem Inv.syncPoint (hi : Inv s) : Inv s.syncPoint := by
  unfold State.syncPoint
  split
  · exact hi
  · exact hi.restale fun _ => mem_synced

@[simp] theorem length_ompicControl (st : List Word32) (i : Nat) (v : Word32) : (ompicControl st i v).length = st.length := by
  unfold ompicControl
  cases v.getLsbD 31 <;> cases v.getLsbD 30 <;> simp

theorem Inv.setOmpic (hi : Inv s) {st : List Word32} (h : st.length = s.cfg.numCores) : Inv (s.setOmpic st) :=
  { hi with ompicCores := h }

theorem Inv.resvSet (hi : Inv s) {r : Option Nat} (h : s.cfg.unalignedSupported = false → ∀ a, r = some a → a % 4 = 0) :
    Inv { s with resv := r } :=
  { hi with resvAligned := h }

theorem Inv.storePhys (hi : Inv s) {t : State} {as : List Nat} {v : Word} {c : Bool} (h : s.storePhys as v c = .ok t) : Inv t := by
  have hr : Inv { s with resv := cancelOverlap s.resv as } := hi.resvSet (hi.resvCancel as)
  rcases State.storePhys_next h with ⟨_, rfl | ⟨i, rfl⟩⟩ | ⟨_, rfl⟩
  · exact hr
  · exact hr.setOmpic ((length_ompicControl _ _ _).trans hi.ompicCores)
  · exact { hr with
      mem := Memory.wf_writeAll hi.mem _
      staleAligned := fun _ => hi.noteStale_aligned
      staleCached := hi.noteStale_cached _ _ }

theorem Inv.setGpr (hi : Inv s) (rd : Reg) (v : Word) : Inv (s.setGpr rd v) := hi.computes (s.setGpr_computes rd v)

theorem Inv.finishSwa (hi : Inv s) (b : Bool) : Inv (s.finishSwa b) :=
  ((hi.computes (s.setFlag_computes b)).resvSet (r := none) fun _ _ h => nomatch h).advance

/-! ## Special-purpose registers -/

theorem State.draw_rest (s : State) : s.draw.2 = { s with freeCtr := s.freeCtr + 1 } := rfl

theorem StaleWord.inBlock_addr (e : StaleWord) (b : Bool) (a : Nat) (gs : List Coherence) (h : Coherence) :
    (e.inBlock b a gs h).addr = e.addr := by
  unfold StaleWord.inBlock
  dsimp only
  generalize (if b = true then 32 else 16) = n
  split <;> rfl

/-- Moving the words of one block on. -/
theorem Inv.moveBlock (hi : Inv s) (b : Bool) (a : Nat) (gs : List Coherence) (g : Coherence) :
    Inv { s with stale := s.stale.map fun e => e.inBlock b a gs g } :=
  hi.restale fun e he => by
    obtain ⟨d, hd, rfl⟩ := List.mem_map.mp he
    exact ⟨d, hd, d.inBlock_addr _ _ _ _⟩

theorem Inv.writeBackBlock (hi : Inv s) (ea : Word) : Inv (s.writeBackBlock ea) := by
  unfold State.writeBackBlock
  split
  · exact hi.moveBlock _ _ _ _
  · exact hi

theorem Inv.invalidateInsnBlock (hi : Inv s) (ea : Word) : Inv (s.invalidateInsnBlock ea) := by
  unfold State.invalidateInsnBlock
  split
  · exact hi.moveBlock _ _ _ _
  · exact hi

theorem Inv.settlePccr (hi : Inv s) (i : BitVec 3) : Inv (s.settlePccr i) := by
  unfold State.settlePccr
  split
  · exact { hi with }
  · exact hi

theorem Inv.setGprAt (hi : Inv s) (i : BitVec 9) (v : Word) : Inv (s.setGprAt i v) := by
  unfold State.setGprAt
  split
  · exact hi
  · exact { hi with gprWidth := Bank.at_put_keeps (P := fun v => trunc s.cfg.xlen v = v) hi.gprWidth (trunc_trunc _ _) }

/-- A write of any special-purpose register keeps the invariant: the fixed and reserved bits are masked, the widths cut. -/
theorem Inv.writeSpr (hi : Inv s) (v : Word) (r : Spr) : Inv (s.writeSpr v r) := by
  cases r with
  | evbar => exact { hi with evbarLow := and_and_zero (by decide) }
  | aecr => exact { hi with aecrBits := and_and_zero (by decide) }
  | aesr => exact { hi with aesrBits := and_and_zero (by decide) }
  | sr => exact { hi with srFixed := srWritten_fixed _ _, srLee := fun h => srWritten_lee h _ }
  | fpcsr => exact { hi with fpcsrBits := and_and_zero (by decide) }
  | epcr i => exact { hi with epcrWidth := Bank.at_put_keeps (P := fun v => trunc s.cfg.xlen v = v) hi.epcrWidth (trunc_trunc _ _) }
  | eear i => exact { hi with eearWidth := Bank.at_put_keeps (P := fun v => trunc s.cfg.xlen v = v) hi.eearWidth (trunc_trunc _ _) }
  | gpr i => exact hi.setGprAt i v
  | dmmucr | immucr =>
    simp only [State.writeSpr]
    split <;> exact { hi with }
  | dcbfr | dcbwr => exact hi.writeBackBlock _
  | icbir =>
    simp only [State.writeSpr]
    split
    · exact hi
    · exact hi.invalidateInsnBlock _
  | dsr => exact { hi with dsrBits := and_and_zero (by decide) }
  | drr => exact { hi with drrBits := and_and_zero (by decide) }
  | pcmr i => exact { hi.settlePccr i with }
  | pmr => exact { hi with pmrBits := and_and_zero (BitVec.and_not_self _) }
  | _ => exact { hi with }

theorem Inv.writeSprAt (hi : Inv s) (r : Option Spr) (v : Word) : Inv (s.writeSprAt r v) := by
  unfold State.writeSprAt
  split
  · exact hi
  · split
    · exact hi.writeSpr v _
    · exact hi

theorem Inv.setNpc (hi : Inv s) (v : Word) : Inv (s.setNpc v) :=
  { hi with pcAligned := clearLow_aligned _, pcWidth := trunc_clearLow _ _, noSlot := fun _ => rfl }

theorem Inv.finishMtspr (hi : Inv s) (r : Option Spr) (v : Word) : Inv (s.finishMtspr r v) := by
  unfold State.finishMtspr
  split
  · exact hi.setNpc v
  · exact hi.advance

/-! ## Instructions -/

theorem Inv.outcome (hi : Inv s) {i : Instr} {t : State} (h : Outcome i s t) : Inv t := by
  cases h with
  | completed hu => exact (hi.computes hu).advance
  | raised x ea hu => exact (hi.computes hu).enter x ea
  | transferred hu ha hw ht => exact (hi.computes hu).transfer (ha hi.pcAligned) (by rw [hu.cfg]; exact hw) ht
  | returned => exact hi.leave
  | moved v _ => exact (hi.writeSprAt _ v).finishMtspr _ v
  | synchronised hes => exact (hi.restale hes).advance
  | loaded rd v _ hr => exact ((hi.translated (locate_ok (State.memRead_ok hr).2.1).1).setGpr rd v).advance
  | @loadedReserving ra d r rd v _ hr =>
    obtain ⟨hm, hl, _⟩ := State.memRead_ok hr
    have htr := (locate_ok hl).1
    refine ((((hi.translated htr).syncPoint).setGpr rd v).resvSet fun hc a ha => ?_).advance
    have hc' : s.cfg.unalignedSupported = false := by simpa [translate_cfg htr] using hc
    have hea : (s.effAddr ra d).toNat % 4 = 0 := by simpa [misaligned, hc'] using hm
    exact translate_head_aligned htr hea ha
  | stored _ hu =>
    obtain ⟨_, l, hl, hs⟩ := State.memWrite_ok hu
    exact ((hi.translated (locate_ok hl).1).storePhys hs).advance
  | storedReserved _ hl hs => exact ((hi.translated (locate_ok hl).1).syncPoint.storePhys hs).finishSwa true
  | notStored _ hl => exact (hi.translated hl).syncPoint.finishSwa false

theorem Inv.executeWord (hi : Inv s) {w : Word32} {t : State} (h : executeWord w s = .next t) : Inv t := by
  rcases executeWord_next h with ⟨i, ho⟩ | rfl
  · exact hi.outcome ho
  · exact hi.enter _ _

theorem Inv.fetched (hi : Inv s) {r : Word32 × State} (h : s.fetch = .ok r) : Inv r.2 := by
  obtain ⟨l, hl, hs, _⟩ := State.fetch_ok h
  have hlocated := hi.translated (locate_ok hl).1
  rcases hs with hs | hs
  · rw [hs]; exact hlocated
  · rw [hs]; exact { hlocated with }

theorem Inv.fetchAndExecute (hi : Inv s) {t : State} (h : fetchAndExecute s = .next t) : Inv t := by
  rcases fetchAndExecute_next h with ⟨x, ea, rfl⟩ | ⟨r, d, n, u, hr, hu, ht⟩
  · exact hi.enter x ea
  · have hrun : Inv { r.2 with dwcr := d, freeCtr := n } := { hi.fetched hr with }
    rw [ht]
    exact { hrun.executeWord hu with }

/-! ## A step -/

theorem Inv.pmrSub (hi : Inv s) {w : Word32} (h : w &&& s.pmr = w) : Inv { s with pmr := w } :=
  have bits : w &&& ~~~(s.cfg.pmrFields.setWidth 32) = 0 := by
    rw [← h, BitVec.and_assoc, hi.pmrBits]
    exact BitVec.and_zero
  { hi with pmrBits := bits }

theorem Inv.paused (hi : Inv s) {t : State} (h : s.paused = some t) : Inv t := by
  have sub : ∀ m : Word32, s.pmr &&& m &&& s.pmr = s.pmr &&& m := fun m => by
    rw [BitVec.and_comm (s.pmr &&& m), ← BitVec.and_assoc, BitVec.and_self]
  rcases State.paused_next h with rfl | rfl | rfl
  · exact hi
  · exact hi.pmrSub (sub _)
  · exact hi.pmrSub (sub _)

theorem Inv.coreStep (hi : Inv s) {t : State} (h : coreStep s = .next t) : Inv t := by
  rcases coreStep_next h with rfl | h | ⟨x, rfl⟩ | h
  · exact hi
  · exact hi.paused h
  · exact hi.enter x 0
  · exact hi.fetchAndExecute h

theorem Inv.foreignWrites (hi : Inv s) (cs : List Host.Cell) : Inv (s.foreignWrites cs) :=
  { hi with
    mem := Memory.wf_writeAll hi.mem _
    resvAligned := hi.resvCancel _
    staleAligned := fun _ => hi.noteStale_aligned
    staleCached := hi.noteStale_cached _ _ }

theorem Inv.foreignMessage (hi : Inv s) (m : Nat × Word32) : Inv (s.foreignMessage m) := by
  unfold State.foreignMessage
  split
  · exact (hi.setOmpic ((length_ompicControl _ _ _).trans hi.ompicCores)).resvSet (hi.resvCancel _)
  · exact hi

theorem Inv.foreignMessages (hi : Inv s) (ms : List (Nat × Word32)) : Inv (s.foreignMessages ms) := by
  have fold : Inv (ms.foldl State.foreignMessage s) := by
    induction ms generalizing s with
    | nil => exact hi
    | cons m ms ih => exact ih (hi.foreignMessage m)
  unfold State.foreignMessages
  split
  · exact fold
  · exact hi

theorem Inv.applyInput (hi : Inv s) (i : Input) : Inv (s.applyInput i) := by
  have hd : Inv (((s.foreignWrites i.writes).foreignMessages i.messages).debugWrites i.debug) :=
    State.debugWrites_keeps (fun _ v r h => h.writeSpr v r) _ _ ((hi.foreignWrites _).foreignMessages _)
  have hq : ∀ w, Inv ((((s.foreignWrites i.writes).foreignMessages i.messages).debugWrites i.debug).setIrq w) := fun w =>
    { hd with }
  unfold State.applyInput
  rw [State.letTick_rest]
  exact { hq i.irq with }

theorem Inv.environment (hi : Inv s) : Inv s.environment := by
  unfold State.environment
  split
  · rw [State.freeTicks_rest]; exact { hi with }
  · rename_i i rest _
    exact Inv.applyInput (s := { s with inputs := rest }) { hi with } i

theorem Inv.afterReset (hi : Inv s) : Inv s.afterReset :=
  { Inv.reset s.cfg with
    mem := hi.mem
    staleAligned := hi.staleAligned
    staleCached := hi.staleCached }

end Keeps

/-- Settles O10: the environment keeps the invariant, and then a reset or the core's part of the step does. -/
theorem stepKeepsInv : Obligations.StepKeepsInv := by
  intro s t hi h
  rw [step_eq] at h
  split at h
  · cases h
    exact hi.environment.afterReset
  · exact hi.environment.coreStep h

end Sys2Proof.Machine
end

section
/-! PROOFS. Exceptions: what their entry saves and where it goes, returning from them, and the exceptions of issue (60_exceptions.md). -/

namespace Sys2Proof.Machine

/-! ## Taking an exception -/

/-- Where DSR has the exception's bit, the core stops (61_platform_units.md R995). -/
theorem State.stops_enter {s : State} {x : Exc} (h : s.redirects x = true) (ea : Word) : Stops s (s.enter x ea) x :=
  State.enter_redirected h ea

/-- An exception is entered, or the core stops. -/
theorem State.raises_enter (s : State) (x : Exc) (ea : Word) : Raises s (s.enter x ea) x ea :=
  ⟨fun h => State.enters_enter h ea, fun h => State.stops_enter h ea⟩

theorem State.entryCtx_of_not_fcs {s : State} (h : s.fcs = false) : s.entryCtx = 0 := by
  simp [State.entryCtx, h]

theorem State.fcs_iff (s : State) : s.fcs = true ↔ s.cfg.nsgf ≠ 0 ∧ s.sr.getLsbD 8 = true := by
  simp [State.fcs, and_comm]

/-- The new SR[CID] is the context that receives the saved state, where fast context switching is active. -/
theorem State.entrySr_cid (s : State) (n : BitVec 4) :
    (s.entrySr n).extractLsb' 28 4 = if s.fcs then n else s.cid := by
  apply BitVec.eq_of_getLsbD_eq
  intro k hk
  rw [BitVec.getLsbD_extractLsb', s.entrySr_getLsbD n (by omega)]
  cases s.fcs
  · simp [hk, State.cid, show ¬ 28 + k = 0 ∧ ¬ 28 + k = 1 ∧ ¬ 28 + k = 2 ∧ ¬ 28 + k = 5 ∧ ¬ 28 + k = 6 ∧ ¬ 28 + k = 13 by omega]
  · simp [hk, show ¬ 28 + k = 0 ∧ ¬ 28 + k = 1 ∧ ¬ 28 + k = 2 ∧ ¬ 28 + k = 5 ∧ ¬ 28 + k = 6 ∧ ¬ 28 + k = 13 by omega]

/-- SR after an entry, in the state. -/
theorem State.enter_sr {s : State} {x : Exc} (h : s.redirects x = false) (ea : Word) :
    (s.enter x ea).sr = s.entrySr s.entryCtx := by rw [State.enter_eq h]

/-- Settles O16: the bits of the new SR, and the new context of R880-R883. -/
theorem entrySr : Obligations.EntrySr := by
  intro s x ea hx t
  have hsr : t.sr = s.entrySr s.entryCtx := State.enter_sr hx ea
  have bit : ∀ k < 32, _ := fun k hk => s.entrySr_getLsbD s.entryCtx (k := k) hk
  rw [hsr]
  refine ⟨bit 0 (by decide), bit 1 (by decide), bit 2 (by decide), bit 5 (by decide), bit 6 (by decide), bit 13 (by decide), ?_,
    s.entrySr_outside _⟩
  rw [s.entrySr_cid, entryCtx_eq]
  by_cases hf : s.cfg.nsgf ≠ 0 ∧ s.sr.getLsbD 8 = true
  · rw [if_pos ((s.fcs_iff).mpr hf), if_pos hf]
    by_cases hc : s.sr.extractLsb' 28 4 = s.cfg.nsgf
    · rw [if_pos hc, if_neg fun h => h.2.2 hc]
    · rw [if_neg hc, if_pos ⟨hf.1, hf.2, hc⟩]
  · rw [if_neg (fun h => hf ((s.fcs_iff).mp h)), if_neg fun h => hf ⟨h.1, h.2.1⟩]
    rfl

theorem Exc.savesNext_iff (x : Exc) : x.savesNext = true ↔ x = .syscall ∨ x = .floatingPoint := by
  cases x <;> decide

/-- Settles O17: the context is `entryCtx`, and the saved value is `epcFor`. -/
theorem entryEpcr : Obligations.EntryEpcr := by
  intro s x ea hx cid ctx
  have hctx : s.entryCtx = ctx := entryCtx_eq s
  have hepcr : (s.enter x ea).epcr = s.epcr.put s.entryCtx (s.epcFor x) := by rw [State.enter_eq hx]
  rw [hepcr, hctx, State.enter_sr hx]
  refine ⟨?_, s.entrySr_getLsbD _ (k := 13) (by decide), fun hi hnd => hi.noSlot hnd, fun c hc => Bank.at_put_ne _ _ hc⟩
  rw [Bank.at_put_self]
  simp only [State.epcFor, Exc.savesNext_iff]

/-- The exceptions that write EEAR (60_exceptions.md R863). -/
theorem Exc.writesEear_iff (x : Exc) :
    x.writesEear = true ↔
      x ∈ [Exc.busError, .dataPageFault, .insnPageFault, .alignment, .illegal, .dtlbMiss, .itlbMiss] := by
  cases x <;> decide

/-- EEAR after an entry where a context is left: the address for the exceptions that have one. -/
theorem State.enter_eear {s : State} {x : Exc} (hx : s.redirects x = false) (hc : s.contextsUsed = false) (ea : Word) :
    (x.writesEear = true → (s.enter x ea).eear = s.eear.put s.entryCtx (trunc s.cfg.xlen ea)) ∧
    (x.writesEear = false → (s.enter x ea).eear = s.eear) := by
  rw [State.enter_eq hx]
  exact ⟨fun h => by simp [h, hc], fun h => by simp [h]⟩

/-- What an entry saves: the vector, ESR, and EPCR in one context alone. -/
theorem State.enter_saves {s : State} {x : Exc} (hx : s.redirects x = false) (ea : Word) :
    (s.enter x ea).pc = s.vectorAddress (s.entryExc x) ∧ (s.enter x ea).esr = s.esr.put s.entryCtx (zext32 s.sr) ∧
      (s.enter x ea).gprs = s.gprs ∧ ∀ c, c ≠ s.entryCtx → (s.enter x ea).epcr.at c = s.epcr.at c := by
  rw [State.enter_eq hx]
  exact ⟨rfl, rfl, rfl, fun c hc => Bank.at_put_ne _ _ hc⟩

/-- A stopped core stays as it is. -/
theorem coreStep_stopped {s : State} (h : s.debugStopped = true) : coreStep s = .next s := by
  rw [coreStep_eq, if_pos h]

/-- A write of a special-purpose register does not restart a stopped core. -/
theorem State.writeSpr_debugStopped (s : State) (v : Word) (r : Spr) : (s.writeSpr v r).debugStopped = s.debugStopped := by
  cases r <;> simp only [State.writeSpr]
  case gpr i => unfold State.setGprAt; split <;> rfl
  case dcbfr | dcbwr => unfold State.writeBackBlock; split <;> rfl
  case icbir => unfold State.invalidateInsnBlock; repeat' split
                all_goals rfl
  case pcmr i => unfold State.settlePccr; split <;> rfl
  all_goals split <;> rfl

/-- The environment does not restart a stopped core (93_implementation_defined.md U20). -/
theorem State.environment_debugStopped (s : State) : s.environment.debugStopped = s.debugStopped := by
  unfold State.environment
  split
  · rw [State.freeTicks_rest]
  · unfold State.applyInput
    rw [State.letTick_rest]
    exact State.debugWrites_keeps (P := fun t => t.debugStopped = s.debugStopped)
      (fun t v r h => (t.writeSpr_debugStopped v r).trans h) _ _ (by rw [State.foreignMessages_rest]; rfl)

/-- Settles O18: the entry procedure by the context it takes, and the stop for the debugger. -/
theorem entryFrame : Obligations.EntryFrame := by
  refine ⟨State.raises_enter, ?_, ?_, ?_⟩
  · intro s x ea hx t fast cid faults saves addresses
    have hsaves := State.enter_saves hx ea
    have hcid : t.sr.extractLsb' 28 4 = if s.fcs then s.entryCtx else cid := by
      rw [show t.sr = _ from State.enter_sr hx ea]; exact s.entrySr_cid _
    have haddr : s.contextsUsed = false → addresses s.entryCtx := fun hc =>
      ⟨fun hf => (State.enter_eear hx hc ea).1 (x.writesEear_iff.mpr hf),
        fun hf => (State.enter_eear hx hc ea).2 (Bool.eq_false_iff.mpr fun h => hf (x.writesEear_iff.mp h))⟩
    have hctx := entryCtx_eq s
    refine ⟨fun hfast hlt => ?_, fun hfast heq => ?_, fun hfast => ?_⟩
    · have hne : ¬ cid = s.cfg.nsgf := fun h => by rw [h] at hlt; omega
      have hused : s.contextsUsed = false := by simpa using fun h => hne ((contextsUsed_iff s).mp h).2
      rw [if_pos hfast, if_neg hne] at hctx
      rw [State.entryExc, hused] at hsaves
      rw [(s.fcs_iff).mpr hfast] at hcid
      rw [hctx] at hsaves hcid haddr
      exact ⟨hcid, hsaves, haddr hused⟩
    · have hused : s.contextsUsed = true := (contextsUsed_iff s).mpr ⟨hfast, heq⟩
      rw [if_pos hfast, if_pos heq] at hctx
      rw [State.entryExc, hused] at hsaves
      rw [(s.fcs_iff).mpr hfast] at hcid
      rw [hctx] at hsaves hcid
      refine ⟨hcid, hsaves, ?_⟩
      show (s.enter x ea).eear = s.eear
      rw [State.enter_eq hx]
      simp [hused]
    · have hused : s.contextsUsed = false := by simpa using fun h => hfast ((contextsUsed_iff s).mp h).1
      have hfcs : s.fcs = false := by simpa using fun h => hfast ((s.fcs_iff).mp h)
      rw [if_neg hfast] at hctx
      rw [State.entryExc, hused] at hsaves
      rw [hfcs] at hcid
      rw [hctx] at hsaves haddr
      exact ⟨hcid, hsaves, haddr hused⟩
  · intro s p hp
    have hbit : p.1.dsrBit = p.2 := by
      revert p
      decide
    rw [← hbit]
    exact ⟨by simp [State.redirects], fun h ea => State.stops_enter h ea⟩
  · intro s hs
    refine ⟨coreStep_stopped hs, fun hr => ?_⟩
    have he : s.environment.debugStopped = true := s.environment_debugStopped.trans hs
    rw [step_eq, hr]
    exact ⟨coreStep_stopped he, he⟩

/-! ## Returning -/

/-- A value with the fixed bits of SR is kept by a write of SR. -/
theorem srWritten_of_fixed {c : Config} {v : Word32} (hfixed : v &&& 0x0FFE8000 = 0x00008000)
    (hlee : c.leeSupported = false → v.getLsbD 7 = false) : srWritten c v = v := by
  have masks : ∀ k < 32, (0xF0017FFF : Word32).getLsbD k = !(0x0FFE8000 : Word32).getLsbD k ∧
      ((0x00008000 : Word32).getLsbD k = true → (0x0FFE8000 : Word32).getLsbD k = true) := by decide
  have lee : ∀ k < 32, (0xFFFFFF7F : Word32).getLsbD k = !decide (k = 7) := by decide
  have ones : ∀ k < 32, (0xFFFFFFFF : Word32).getLsbD k = true := by decide
  have hf : ∀ k, (v.getLsbD k && (0x0FFE8000 : Word32).getLsbD k) = (0x00008000 : Word32).getLsbD k := fun k => by
    rw [← BitVec.getLsbD_and, hfixed]
  have hkeep : (v &&& 0xF0017FFF) ||| 0x00008000 = v := by
    apply BitVec.eq_of_getLsbD_eq
    intro k hk
    rw [BitVec.getLsbD_or, BitVec.getLsbD_and, ← hf k, (masks k hk).1]
    cases v.getLsbD k <;> cases (0x0FFE8000 : Word32).getLsbD k <;> rfl
  unfold srWritten
  rw [hkeep]
  apply BitVec.eq_of_getLsbD_eq
  intro k hk
  cases hc : c.leeSupported with
  | true => rw [BitVec.getLsbD_and, if_pos rfl, ones k hk, Bool.and_true]
  | false =>
    rw [BitVec.getLsbD_and, if_neg Bool.false_ne_true, lee k hk]
    by_cases h7 : k = 7
    · rw [h7, hlee hc]; rfl
    · rw [decide_eq_false h7, Bool.not_false, Bool.and_true]

/-- The context after an entry is the one that received the saved state. -/
theorem State.enter_ctx {s : State} {x : Exc} (h : s.redirects x = false) (ea : Word) : (s.enter x ea).ctx = s.entryCtx := by
  have hsr := State.enter_sr h ea
  have hfcs : (s.enter x ea).fcs = s.fcs := by
    have h8 := s.entrySr_getLsbD s.entryCtx (k := 8) (by decide)
    unfold State.fcs
    rw [hsr, State.enter_cfg, h8]
    simp
  have hcid : (s.enter x ea).cid = if s.fcs then s.entryCtx else s.cid := by
    rw [State.cid, hsr]; exact s.entrySr_cid _
  unfold State.ctx
  rw [hfcs, hcid]
  cases hf : s.fcs
  · exact (State.entryCtx_of_not_fcs hf).symm
  · rfl

theorem clearLow_of_aligned {v : Word} (h : v.extractLsb' 0 2 = 0) : v &&& ~~~3 = v := by
  have mask : ∀ k < 64, (~~~(3 : Word)).getLsbD k = decide (2 ≤ k) := by decide
  apply BitVec.eq_of_getLsbD_eq
  intro k hk
  rw [BitVec.getLsbD_and, mask k hk]
  by_cases h2 : 2 ≤ k
  · simp [h2]
  · have := congrArg (fun w => BitVec.getLsbD w k) h
    simp only [BitVec.getLsbD_extractLsb', Nat.zero_add, show k < 2 by omega, decide_true, Bool.true_and] at this
    simp [this]

theorem sub_four_aligned {v : Word} (h : v.extractLsb' 0 2 = 0) : (v - 4).extractLsb' 0 2 = 0 := by
  have : v - 4 = v + 0xFFFFFFFFFFFFFFFC := BitVec.sub_eq_add_neg v 4
  rw [this]
  exact add_aligned h (by decide)

/-- The address saved is a multiple of four. -/
theorem State.epcFor_aligned {s : State} (h : s.pc.extractLsb' 0 2 = 0) (x : Exc) : (s.epcFor x).extractLsb' 0 2 = 0 := by
  refine trunc_aligned _ ?_
  split
  · exact sub_four_aligned h
  · split
    · exact add_aligned h four_aligned
    · exact h

/-- Settles O20: the return reads the context that the entry wrote, and the fixed bits of SR survive the way through ESR. -/
theorem entryThenReturn : Obligations.EntryThenReturn := by
  intro s x ea hi hx
  have hctx := State.enter_ctx hx ea
  have hesr : (s.enter x ea).esr.at s.entryCtx = zext32 s.sr := by
    rw [State.enter_eq hx]; exact Bank.at_put_self _ _ _
  have hepcr : (s.enter x ea).epcr.at s.entryCtx = s.epcFor x := by
    rw [State.enter_eq hx]; exact Bank.at_put_self _ _ _
  have hback : (zext32 s.sr).setWidth 32 = s.sr := by simp [zext32]
  refine ⟨?_, ?_, rfl⟩
  · show srWritten (s.enter x ea).cfg (((s.enter x ea).esr.at (s.enter x ea).ctx).setWidth 32) = s.sr
    rw [hctx, hesr, hback, State.enter_cfg]
    exact srWritten_of_fixed hi.srFixed hi.srLee
  · show trunc (s.enter x ea).cfg.xlen ((s.enter x ea).epcr.at (s.enter x ea).ctx) &&& ~~~3 = s.epcFor x
    rw [hctx, hepcr, State.enter_cfg]
    have : trunc s.cfg.xlen (s.epcFor x) = s.epcFor x := trunc_trunc _ _
    rw [this]
    exact clearLow_of_aligned (State.epcFor_aligned hi.pcAligned x)

end Sys2Proof.Machine
end

section
/-! PROOFS. Between two instructions: reset, the tick timer, power-down modes and interrupts; and the exceptions of issue (60_exceptions.md, 61_platform_units.md, 70_reset_and_hazards.md). -/

namespace Sys2Proof.Machine

/-! ## Reset -/

theorem Bank.at_fill {α : Type} (n : Nat) (v : α) (i : BitVec n) : (Bank.fill n v).at i = v := by
  simp [Bank.fill, Bank.at]

theorem zero_extractLsb' (k n : Nat) : (0 : Word32).extractLsb' k n = 0 :=
  BitVec.eq_of_getLsbD_eq fun i _ => by rw [BitVec.getLsbD_extractLsb']; simp

/-- The status registers of the OMPIC are zero after reset. -/
theorem resetFor_ompic_zero (c : Config) : ∀ w ∈ (State.resetFor c).ompic, w = 0 := fun _ hw => List.eq_of_mem_replicate hw

/-- Settles O8: the fields of `resetFor`, and the reset sequence at the state the environment leaves. -/
theorem resetValues : Obligations.ResetValues := by
  refine ⟨fun c => ?_, fun s hr => ?_⟩
  · have low : ∀ k n, (0 : Word32).extractLsb' k n = 0 := zero_extractLsb'
    refine ⟨rfl, rfl, rfl, rfl, fun i => ⟨Bank.at_fill _ _ i, Bank.at_fill _ _ i, Bank.at_fill _ _ i⟩, rfl, rfl, rfl, rfl, rfl,
      low _ _, low _ _, BitVec.getLsbD_zero, BitVec.getLsbD_zero, low _ _, low _ _, fun i r hr => ?_, fun i r hr => ?_,
      low _ _, low _ _, fun i => ⟨Bank.at_fill _ _ i, ?_⟩, low _ _, rfl, fun i => Bank.at_fill _ _ i, low _ _, low _ _,
      fun i => ⟨Bank.at_fill _ _ i, ?_⟩, low _ _, rfl, rfl, low _ _, rfl, fun w hw => ?_⟩
    · have hzero : r = 0 := by simpa [State.resetFor, Bank.at_fill] using hr
      rw [hzero]; exact ⟨low _ _, low _ _⟩
    · have hzero : r = 0 := by simpa [State.resetFor, Bank.at_fill] using hr
      rw [hzero]; exact low _ _
    · show ((Bank.fill 3 (0 : Word32)).at i).extractLsb' 1 7 = 0
      rw [Bank.at_fill]; exact low _ _
    · show ((Bank.fill 3 (0 : Word32)).at i).extractLsb' 1 25 = 0
      rw [Bank.at_fill]; exact low _ _
    · rw [resetFor_ompic_zero c w hw]; exact low _ _
  · intro e
    rw [step_eq, hr, if_pos rfl, State.afterReset, State.environment_cfg]

/-! ## The tick timer -/

/-- The timer counts: it is enabled and no one-shot at its match. -/
theorem State.timerRuns_iff {s : State} (h : s.cfg.ttp = true) :
    s.timerRuns = true ↔ s.ttmr.extractLsb' 30 2 ≠ 0 ∧
      ¬ (s.ttmr.extractLsb' 30 2 = 2 ∧ s.ttcr.extractLsb' 0 28 = s.ttmr.extractLsb' 0 28) := by
  simp [State.timerRuns, h, State.timerMode, State.timerMatches, imp_iff_not_or]

/-- One tick of a timer that counts. -/
theorem State.timerTick_runs {s : State} (h : s.timerRuns = true) :
    s.timerTick = { s with
      ttcr := if s.timerMatches (s.ttcr + 1) ∧ s.timerMode = 1 then 0 else s.ttcr + 1
      ttmr := if s.timerMatches (s.ttcr + 1) ∧ s.ttmr.getLsbD 29 then s.ttmr ||| 0x10000000 else s.ttmr } := by
  rw [State.timerTick, if_pos h]
  by_cases hm : s.timerMatches (s.ttcr + 1) = true
  · simp only [hm, if_true, true_and, beq_iff_eq]
  · simp only [hm]
    rfl

/-- With no input left the environment is the timer alone, which waits, ticks, or draws how long it waits. -/
theorem State.environment_idle {s : State} (hi : s.inputs = []) (hr : s.timerRuns = true) (hc : s.clockStopped = false) :
    s.environment = match s.tickWait with
      | some w => s.waitOrTick w
      | none => State.waitOrTick { s with freeCtr := s.freeCtr + 1 } (Config.freeGap s.freeCtr) := by
  have hfree : s.environment = s.freeTicks := by unfold State.environment; rw [hi]
  rw [hfree, State.freeTicks, hr, hc]
  exact if_pos rfl

/-- What is drawn while the timer waits is forgotten when it ticks. -/
theorem State.waitOrTick_wait (s : State) (o : Option Nat) (n : Nat) :
    State.waitOrTick { s with tickWait := o } n = s.waitOrTick n := by
  cases n <;> rfl

/-- Settles O15: the tick by whether the timer counts and matches, and the wait by the number of steps left. -/
theorem timerTickRule : Obligations.TimerTickRule := by
  refine ⟨?_, ?_⟩
  · intro s ht m hit
    have hmatch : s.timerMatches (s.ttcr + 1) = true ↔ hit := by simp only [State.timerMatches, beq_iff_eq, hit]
    refine ⟨fun hstop => ?_, fun hm hone => ?_⟩
    · rw [State.timerTick, if_neg]
      rw [State.timerRuns_iff ht]
      exact fun h => hstop.elim h.1 h.2
    · rw [State.timerTick_runs ((State.timerRuns_iff ht).mpr ⟨hm, hone⟩)]
      simp only [hmatch, State.timerMode]
      exact ⟨fun hh h1 => if_pos ⟨hh, h1⟩, fun h => if_neg h, fun hh h29 => if_pos ⟨hh, h29⟩, fun h => if_neg h, trivial⟩
  · intro s hi hr hc
    have henv := State.environment_idle hi hr hc
    refine ⟨fun n hw => ?_, fun hw => ?_, fun hw => ?_⟩
    · rw [henv, hw]; rfl
    · exact ⟨Config.freeTicks s.freeCtr + 1, Nat.succ_pos _, by rw [henv, hw]; rfl⟩
    · refine ⟨Config.freeGap s.freeCtr, ?_⟩
      rw [henv, hw]
      refine Eq.trans ?_ (State.environment_idle (s := { s with tickWait := some _, freeCtr := s.freeCtr + 1 }) hi hr hc).symm
      exact (State.waitOrTick_wait { s with freeCtr := s.freeCtr + 1 } _ _).symm

/-! ## Power-down modes and interrupts -/

/-- A core in a power-down mode takes no instruction. -/
theorem coreStep_paused {s u : State} (hs : s.debugStopped = false) (hp : s.paused = some u) : coreStep s = .next u := by
  rw [coreStep_eq, hs, hp]; rfl

/-- A core that is awake recognises an interrupt, or goes on with the instruction at `pc`. -/
theorem coreStep_awake {s : State} (hs : s.debugStopped = false) (hp : s.paused = none) (hb : s.blocked = none) :
    coreStep s = match s.interrupt with
      | some x => s.raise x 0
      | none => fetchAndExecute s := by
  rw [coreStep_eq, hs, hp, hb]; rfl

theorem setBit_four_false (w : Word32) : setBit w 4 false = w &&& 0xFFFFFFEF := rfl

/-- Settles O14: the power-down modes in their order, then Tick Timer, then External Interrupt. -/
theorem interruptRecognition : Obligations.InterruptRecognition := by
  intro s hs tick picsr picmr pic
  have htick : s.tickPending = tick := rfl
  have hpic : s.picOut = pic := rfl
  refine ⟨fun hpmp => ⟨fun h7 => ?_, fun h7 h5 => ⟨fun hp => ?_, fun hp => ?_⟩, fun h7 h5 h4 => ⟨fun hp ht => ?_, fun hpt => ?_⟩⟩,
    fun hawake hb => ?_⟩
  · exact coreStep_paused hs (by rw [State.paused, hpmp, h7]; rfl)
  · exact coreStep_paused hs (by rw [State.paused, hpmp, h7, h5, hpic, hp]; rfl)
  · exact coreStep_paused hs (by rw [State.paused, hpmp, h7, h5, hpic, hp]; rfl)
  · exact coreStep_paused hs (by rw [State.paused, hpmp, h7, h5, h4, hpic, hp, htick, ht]; rfl)
  · refine coreStep_paused hs ?_
    rw [← setBit_four_false]
    have hwake : (pic || tick) = true := by simpa using hpt
    rw [State.paused, hpmp, h7, h5, h4, hpic, htick, hwake]; rfl
  · have hpaused : s.paused = none := by
      rcases hawake with h | ⟨h7, h5, h4⟩
      · rw [State.paused, h]; rfl
      · rw [State.paused, h7, h5, h4]; simp
    have hstep := coreStep_awake hs hpaused hb
    have hint : s.interrupt = if (s.sr.getLsbD 1 && tick) = true then some .tickTimer
        else if (s.sr.getLsbD 2 && pic) = true then some .extInt else none := rfl
    rw [hstep, hint]
    refine ⟨fun h => ?_, fun h hp => ?_, fun h hp => ?_⟩
    · rw [if_pos h]; exact ⟨_, rfl, State.raises_enter _ _ _⟩
    · rw [h, hp]; exact ⟨_, rfl, State.raises_enter _ _ _⟩
    · rw [h, hp]; rfl

/-! ## What issue raises -/

/-- A register number that does not exist: 16 or more with sixteen registers (10_state.md R44). -/
theorem State.regMissing_iff (s : State) (r : Reg) : s.regMissing r = true ↔ s.cfg.ngpr16 = true ∧ 16 ≤ r.toNat := by
  have hbit : r.getLsbD 4 = true ↔ 16 ≤ r.toNat := by
    have h : ∀ r : Reg, r.getLsbD 4 = decide (16 ≤ r.toNat) := by decide
    rw [h, decide_eq_true_eq]
  rw [State.regMissing, Bool.and_eq_true, hbit]

/-- An implemented instruction that names a register that does not exist raises Range. -/
theorem issue_missing {i : Instr} {s : State} (hb : s.blocked = none) (hp : present s.cfg i = true)
    (hm : (Instr.regsNow i).any s.regMissing = true) (k : State → Result) : issue i s k = .next (s.enter .range 0) := by
  unfold issue
  rw [hb]
  simp only [hp, hm, if_true]
  rfl

/-- The moves of a special-purpose register that the mode may access raise Range where their data register does not exist. -/
theorem exec_spr_missing {s : State} {r ra : Reg} {k : BitVec 16} {i : Instr} (hi : i = .lMfspr r ra k ∨ i = .lMtspr ra r k)
    (hr : Ready i s) (ha : mayAccess s (sprAt s.cfg (s.sprAddress ra k)) = true) (hm : s.regMissing r = true) :
    exec i s = .next (s.enter .range 0) := by
  rcases hi with rfl | rfl
  · show execLMfspr r ra k s = _
    rw [execLMfspr, issue_run hr, if_pos ha, if_pos hm]; rfl
  · show execLMtspr ra r k s = _
    rw [execLMtspr, issue_run hr, if_pos ha, if_pos hm]; rfl

/-- The accumulator's halves keep their names in every machine, and the user may move them where they are implemented. -/
theorem mayAccess_accumulator {s : State} (hmp : s.cfg.mp = true) {a : BitVec 16} (h : a = 0x2801 ∨ a = 0x2802) :
    mayAccess s (sprAt s.cfg a) = true := by
  have hname : sprAt s.cfg a = some .maclo ∨ sprAt s.cfg a = some .machi := by
    rcases h with rfl | rfl
    · left; simp [sprAt, sprName, Spr.shared, Spr.unifyMmu, Spr.unifyCache]
    · right; simp [sprAt, sprName, Spr.shared, Spr.unifyMmu, Spr.unifyCache]
  rcases hname with h | h <;> simp [mayAccess, h, Spr.present, Spr.userRight, hmp]

/-- Settles O6: what `issue` raises, and the data register of a special-register move. -/
theorem absentInstructionTraps : Obligations.AbsentInstructionTraps := by
  intro s i hb
  obtain ⟨k, hk⟩ := exec_issue i s
  refine ⟨fun hp hx => ?_, fun hp hn ⟨r, hr, h16⟩ hx => ?_, fun r ra d hi hp hn ha h16 hx hmay => ?_⟩
  · exact ⟨_, hk.trans (issue_absent hb hp k), State.enters_enter hx s.pc⟩
  · have hm : (Instr.regsNow i).any s.regMissing = true := List.any_eq_true.mpr ⟨r, hr, (s.regMissing_iff r).mpr ⟨hn, h16⟩⟩
    exact ⟨_, hk.trans (issue_missing hb hp hm k), State.enters_enter hx 0⟩
  · have hra : s.regMissing ra = false := by
      rw [Bool.eq_false_iff]
      exact fun h => absurd ((s.regMissing_iff ra).mp h).2 (by omega)
    have hready : Ready i s := by
      refine ⟨hb, hp, ?_⟩
      rcases hi with rfl | rfl <;> simp [Instr.regsNow, hra]
    have haccess : mayAccess s (sprAt s.cfg (s.sprAddress ra d)) = true := by
      rcases hmay with hsm | ⟨hmp, hacc⟩
      · exact mayAccess_supervisor hsm _
      · exact mayAccess_accumulator hmp hacc
    exact ⟨_, exec_spr_missing hi hready haccess ((s.regMissing_iff r).mpr ⟨hn, h16⟩), State.enters_enter hx 0⟩

end Sys2Proof.Machine
end

section
/-! PROOFS. Fetching an instruction (20_memory.md R212, R269, 61_platform_units.md R970-R972). -/

namespace Sys2Proof.Machine

/-! ## Where an access goes -/

/-- A translated access has as many bytes as it asks for. -/
theorem translate_length {s : State} {k : Access} {ea : Word} {n : Nat} {l : Located} (h : translate s k ea n = .ok l) :
    l.addrs.length = n := by
  rcases translate_ok h with ⟨_, rfl⟩ | ⟨_, e, _, _, _, _, hl, _⟩
  · simp [untranslatedBytes]
  · rw [hl]; simp

/-- An access whose bytes exist is located. -/
theorem locate_of_valid {s : State} {k : Access} {ea : Word} {n : Nat} {l : Located} (h : translate s k ea n = .ok l)
    (hv : ∀ a ∈ l.addrs, byteValid s.cfg a = true) : locate s k ea n = .ok l := by
  unfold locate
  rw [h]
  exact if_pos (List.all_eq_true.mpr hv)

/-- An access to a byte that does not exist raises Bus Error. -/
theorem locate_of_invalid {s : State} {k : Access} {ea : Word} {n : Nat} {l : Located} (h : translate s k ea n = .ok l)
    (hv : ∃ a ∈ l.addrs, byteValid s.cfg a = false) : locate s k ea n = .raise .busError ea := by
  obtain ⟨a, ha, hbad⟩ := hv
  unfold locate
  rw [h]
  refine if_neg fun hall => ?_
  rw [List.all_eq_true.mp hall a ha] at hbad
  cases hbad

/-- An access that does not translate raises what its translation does. -/
theorem locate_of_raise {s : State} {k : Access} {ea a : Word} {n : Nat} {x : Exc} (h : translate s k ea n = .raise x a) :
    locate s k ea n = .raise x a := by
  unfold locate; rw [h]

/-- With XLEN = 32 nothing moves an untranslated aligned word. -/
theorem untranslatedBytes_word {c : Config} (hx : c.xlen = .x32) {ea : Word} (hlt : ea.toNat < 2 ^ 32) (hal : ea.toNat % 4 = 0) :
    untranslatedBytes c ea 4 = [ea.toNat, ea.toNat + 1, ea.toNat + 2, ea.toNat + 3] := by
  have hbyte : ∀ i < 4, untranslated c (trunc c.xlen (ea + BitVec.ofNat 64 i)) = ea.toNat + i := by
    intro i hi
    simp only [untranslated, hx, trunc, uval, BitVec.toNat_setWidth, BitVec.toNat_add, BitVec.toNat_ofNat]
    omega
  show [0, 1, 2, 3].map _ = _
  simp only [List.map_cons, List.map_nil, hbyte 0 (by omega), hbyte 1 (by omega), hbyte 2 (by omega), hbyte 3 (by omega),
    Nat.add_zero]

/-! ## What a fetch gives -/

/-- No replaced word is visible to a fetch exactly where each recorded one of that address is hidden by CI = 1. -/
theorem State.oldWords_eq_nil {s : State} {a : Nat} {ci : Bool} :
    s.oldWords a ci = [] ↔ ∀ e ∈ s.stale, e.addr = a → ci = true ∧ e.stage = .flushed := by
  rw [List.eq_nil_iff_forall_not_mem]
  constructor
  · intro h e he ha
    by_contra hn
    exact h e.old (State.mem_oldWords.mpr ⟨e, he, ha, hn, rfl⟩)
  · intro h w hw
    obtain ⟨e, he, ha, hn, _⟩ := State.mem_oldWords.mp hw
    exact hn (h e he ha)

/-- A fetch from memory of a word that no cache holds an old value of. -/
theorem State.fetch_new {s : State} {l : Located} (hl : locate s .fetch (trunc s.cfg.xlen s.pc) 4 = .ok l)
    (ho : l.addrs.any (inOmpic s.cfg) = false) (hn : s.oldWords (l.addrs.headD 0) l.inhibited = []) :
    s.fetch = .ok (BitVec.ofNat 32 (ofBytes (l.addrs.map s.mem.read)), l.state) := by
  simp only [State.fetch, hl, ho, hn, Bool.false_eq_true, if_false]

/-- A fetch from memory of a word of which an instruction cache may hold an old value. -/
theorem State.fetch_old {s : State} {l : Located} (hl : locate s .fetch (trunc s.cfg.xlen s.pc) 4 = .ok l)
    (ho : l.addrs.any (inOmpic s.cfg) = false) (hn : s.oldWords (l.addrs.headD 0) l.inhibited ≠ []) :
    s.fetch = .ok (s.instructionAt (l.addrs.headD 0) l.inhibited, { l.state with freeCtr := s.freeCtr + 1 }) := by
  obtain ⟨w, ws, hw⟩ := List.exists_cons_of_ne_nil hn
  simp only [State.fetch, hl, ho, hw, Bool.false_eq_true, if_false]

/-- A fetch of OMPIC registers reads them as a load does. -/
theorem State.fetch_ompic {s : State} {l : Located} (hl : locate s .fetch (trunc s.cfg.xlen s.pc) 4 = .ok l)
    (ho : l.addrs.any (inOmpic s.cfg) = true) :
    s.fetch = match s.loadPhys l.addrs l.cached with
      | .ok v => .ok (BitVec.ofNat 32 v, l.state)
      | .raise x a => .raise x a
      | .refuse r => .refuse r := by
  unfold State.fetch
  rw [hl]
  exact if_pos ho

/-- Four bytes as a word, the first most significant. -/
theorem ofBytes_word (a b c d : Byte) : BitVec.ofNat 32 (ofBytes [a, b, c, d]) = a ++ b ++ c ++ d := by
  apply BitVec.eq_of_toNat_eq
  simp only [ofBytes, List.foldl_cons, List.foldl_nil, BitVec.toNat_ofNat, BitVec.toNat_append, Nat.zero_mul, Nat.zero_add]
  rw [← Nat.shiftLeft_add_eq_or_of_lt d.isLt, ← Nat.shiftLeft_add_eq_or_of_lt c.isLt, ← Nat.shiftLeft_add_eq_or_of_lt b.isLt,
    Nat.shiftLeft_eq, Nat.shiftLeft_eq, Nat.shiftLeft_eq]
  omega

theorem Memory.wordAt_eq (m : Memory) (a : Nat) :
    m.wordAt a = m.read a ++ m.read (a + 1) ++ m.read (a + 2) ++ m.read (a + 3) := ofBytes_word _ _ _ _

/-- A fetch of a word of plain memory: what memory holds or, where one is visible, that or a replaced word. -/
theorem State.fetch_word {s : State} {l : Located} {a : Nat} (h : translate s .fetch (trunc s.cfg.xlen s.pc) 4 = .ok l)
    (ha : l.addrs = [a, a + 1, a + 2, a + 3])
    (hv : ∀ k < 4, byteValid s.cfg (a + k) = true ∧ inOmpic s.cfg (a + k) = false) :
    ((∀ e ∈ s.stale, e.addr = a → l.inhibited = true ∧ e.stage = .flushed) → s.fetch = .ok (s.mem.wordAt a, l.state)) ∧
    ((∃ e ∈ s.stale, e.addr = a ∧ (l.inhibited = true → e.stage ≠ .flushed)) →
      ∃ w, s.fetch = .ok (w, { l.state with freeCtr := s.freeCtr + 1 }) ∧
        (w = s.mem.wordAt a ∨ ∃ e ∈ s.stale, e.addr = a ∧ (l.inhibited = true → e.stage ≠ .flushed) ∧ w = e.old)) := by
  have hmem : ∀ b ∈ l.addrs, ∃ k < 4, b = a + k := by
    rw [ha]
    intro b hb
    simp only [List.mem_cons, List.not_mem_nil, or_false] at hb
    rcases hb with rfl | rfl | rfl | rfl
    exacts [⟨0, by omega, rfl⟩, ⟨1, by omega, rfl⟩, ⟨2, by omega, rfl⟩, ⟨3, by omega, rfl⟩]
  have hl : locate s .fetch (trunc s.cfg.xlen s.pc) 4 = .ok l := locate_of_valid h fun b hb => by
    obtain ⟨k, hk, rfl⟩ := hmem b hb
    exact (hv k hk).1
  have ho : l.addrs.any (inOmpic s.cfg) = false := by
    rw [List.any_eq_false]
    intro b hb
    obtain ⟨k, hk, rfl⟩ := hmem b hb
    rw [(hv k hk).2]
    exact Bool.false_ne_true
  have hhead : l.addrs.headD 0 = a := by rw [ha]; rfl
  refine ⟨fun hn => ?_, fun ⟨e, he, hea, hs⟩ => ?_⟩
  · rw [State.fetch_new hl ho (by rw [hhead]; exact State.oldWords_eq_nil.mpr hn), ha]
    rfl
  · have hne : s.oldWords (l.addrs.headD 0) l.inhibited ≠ [] := by
      rw [hhead]
      exact fun hn => (fun p => hs p.1 p.2) (State.oldWords_eq_nil.mp hn e he hea)
    refine ⟨_, State.fetch_old hl ho hne, ?_⟩
    rw [hhead]
    rcases List.mem_cons.mp (s.instructionAt_mem a l.inhibited) with hw | hw
    · exact .inl hw
    · obtain ⟨d, hd, hda, hds, hdo⟩ := State.mem_oldWords.mp hw
      exact .inr ⟨d, hd, hda, fun hi hf => hds ⟨hi, hf⟩, hdo.symm⟩

/-! ## The OMPIC -/

theorem inOmpic_iff {c : Config} {b : Nat} (hb : c.ompicBase = some b) (a : Nat) :
    inOmpic c a = true ↔ b ≤ a ∧ a < b + 8 * c.numCores := by
  simp [inOmpic, hb]

theorem byteValid_of_inOmpic {c : Config} {a : Nat} (h : inOmpic c a = true) : byteValid c a = true := by
  simp [byteValid, h]

/-- The bytes of an OMPIC register, the `d`-th word of core `n`'s pair. -/
theorem ompicWord_in {c : Config} {b n d : Nat} (hb : c.ompicBase = some b) (hn : n < c.numCores) (hd : d < 2) :
    ∀ a ∈ [b + 8 * n + 4 * d, b + 8 * n + 4 * d + 1, b + 8 * n + 4 * d + 2, b + 8 * n + 4 * d + 3], inOmpic c a = true := by
  intro a ha
  rw [inOmpic_iff hb]
  simp only [List.mem_cons, List.not_mem_nil, or_false] at ha
  omega

/-- An uncached access to such a word names the register; a cached one names none. -/
theorem ompicRegister_word {c : Config} {b n d : Nat} (hb : c.ompicBase = some b) (hn : n < c.numCores) (hd : d < 2) :
    ompicRegister c [b + 8 * n + 4 * d, b + 8 * n + 4 * d + 1, b + 8 * n + 4 * d + 2, b + 8 * n + 4 * d + 3] false =
      some (n, d == 1) := by
  have hall := List.all_eq_true.mpr (ompicWord_in hb hn hd)
  simp only [ompicRegister, hb]
  rw [if_pos ⟨rfl, by omega, by omega, hall, trivial⟩]
  have h8 : (b + 8 * n + 4 * d - b) / 8 = n := by omega
  have h4 : (b + 8 * n + 4 * d - b) % 8 = 4 * d := by omega
  rw [h8, h4]
  congr 2
  rw [Bool.eq_iff_iff, beq_iff_eq, beq_iff_eq]
  omega

theorem ompicRegister_cached (c : Config) (as : List Nat) : ompicRegister c as true = none := by
  unfold ompicRegister
  split
  · exact if_neg fun h => by simp at h
  · rfl

/-- A load of such a word: a status register with bit 31 zero, and zero for a control register. -/
theorem State.loadPhys_ompic {s : State} {b n d : Nat} (hb : s.cfg.ompicBase = some b) (hn : n < s.cfg.numCores) (hd : d < 2) :
    s.loadPhys [b + 8 * n + 4 * d, b + 8 * n + 4 * d + 1, b + 8 * n + 4 * d + 2, b + 8 * n + 4 * d + 3] false =
      .ok (if d = 1 then (s.ompic.getD n 0 &&& 0x7FFFFFFF).toNat else 0) := by
  have hany : List.any [b + 8 * n + 4 * d, b + 8 * n + 4 * d + 1, b + 8 * n + 4 * d + 2, b + 8 * n + 4 * d + 3]
      (inOmpic s.cfg) = true := List.any_eq_true.mpr ⟨_, List.mem_cons_self, ompicWord_in hb hn hd _ List.mem_cons_self⟩
  unfold State.loadPhys
  rw [if_pos hany, ompicRegister_word hb hn hd]
  obtain rfl | rfl : d = 0 ∨ d = 1 := by omega
  · rfl
  · rfl

/-- A fetch of such a word. -/
theorem State.fetch_ompicWord {s : State} {l : Located} {b n d : Nat} (h : translate s .fetch (trunc s.cfg.xlen s.pc) 4 = .ok l)
    (hb : s.cfg.ompicBase = some b) (hn : n < s.cfg.numCores) (hd : d < 2) (hc : l.cached = false)
    (ha : l.addrs = [b + 8 * n + 4 * d, b + 8 * n + 4 * d + 1, b + 8 * n + 4 * d + 2, b + 8 * n + 4 * d + 3]) :
    s.fetch = .ok (if d = 1 then s.ompic.getD n 0 &&& 0x7FFFFFFF else 0, l.state) := by
  have hin : ∀ a ∈ l.addrs, inOmpic s.cfg a = true := by rw [ha]; exact ompicWord_in hb hn hd
  have hl := locate_of_valid h fun a hm => byteValid_of_inOmpic (hin a hm)
  have hany : l.addrs.any (inOmpic s.cfg) = true := by
    rw [List.any_eq_true]
    exact ⟨b + 8 * n + 4 * d, by rw [ha]; exact List.mem_cons_self, hin _ (by rw [ha]; exact List.mem_cons_self)⟩
  rw [State.fetch_ompic hl hany, ha, hc, State.loadPhys_ompic hb hn hd]
  by_cases h1 : d = 1
  · simp only [if_pos h1]
    rw [BitVec.ofNat_toNat, BitVec.setWidth_eq]
  · simp only [if_neg h1]
    rfl

/-! ## The obligation -/

/-- A fetch that is not located raises Bus Error or what its translation does. -/
theorem fetchAndExecute_raises {s : State} {x : Exc} {a : Word} (h : locate s .fetch (trunc s.cfg.xlen s.pc) 4 = .raise x a) :
    fetchAndExecute s = .next (s.enter x a) := by
  have hf : s.fetch = .raise x a := by unfold State.fetch; rw [h]
  rw [fetchAndExecute, hf]
  rfl

/-- Settles O13: the word of memory by what the record of replaced words shows, the OMPIC, and the fetches that fail. -/
theorem fetchReadsMemory : Obligations.FetchReadsMemory := by
  refine ⟨?_, ?_, ?_, ?_, ?_⟩
  · intro s hx ht hlt hal hv new
    have hpc : trunc s.cfg.xlen s.pc = s.pc := by
      rw [hx]
      apply BitVec.eq_of_toNat_eq
      simp only [trunc, BitVec.toNat_setWidth]
      omega
    have hl := translate_off ht (trunc s.cfg.xlen s.pc) 4
    have haddr : untranslatedBytes s.cfg (trunc s.cfg.xlen s.pc) 4 =
        [s.pc.toNat, s.pc.toNat + 1, s.pc.toNat + 2, s.pc.toNat + 3] := by
      rw [hpc]; exact untranslatedBytes_word hx hlt hal
    have hnew : s.mem.wordAt s.pc.toNat = new := s.mem.wordAt_eq _
    obtain ⟨hfresh, hold⟩ := State.fetch_word hl haddr hv
    rw [hnew] at hfresh hold
    refine ⟨fun hn => hfresh fun e he ha => absurd ha (hn e he), fun ⟨e, he, ha⟩ => ?_⟩
    obtain ⟨w, hw, hcase⟩ := hold ⟨e, he, ha, fun h => Bool.noConfusion h⟩
    exact ⟨w, hw, hcase.imp_right fun ⟨e, he, ha, _, ho⟩ => ⟨e, he, ha, ho⟩⟩
  · intro s l hl hi hv hst
    have ho : l.addrs.any (inOmpic s.cfg) = false := by
      rw [List.any_eq_false]
      exact fun a ha => by rw [(hv a ha).2]; exact Bool.false_ne_true
    refine State.fetch_new (locate_of_valid hl fun a ha => (hv a ha).1) ho (State.oldWords_eq_nil.mpr fun e he ha => ⟨hi, ?_⟩)
    refine hst e he ?_
    obtain ⟨b, bs, hb⟩ := List.exists_cons_of_length_eq_add_one (translate_length hl)
    rw [hb] at ha ⊢
    exact congrArg some ha.symm
  · intro s l a hl ha hv new seen
    have hnew : s.mem.wordAt a = new := s.mem.wordAt_eq _
    obtain ⟨hfresh, hold⟩ := State.fetch_word hl ha hv
    rw [hnew] at hfresh hold
    refine ⟨fun hn => hfresh fun e he hea => ?_, fun ⟨e, he, hea, hs⟩ => ?_⟩
    · by_contra hne
      exact hn e ⟨he, hea, fun hi hf => hne ⟨hi, hf⟩⟩
    · obtain ⟨w, hw, hcase⟩ := hold ⟨e, he, hea, hs⟩
      exact ⟨w, hw, hcase.imp_right fun ⟨e, he, ha, hs, ho⟩ => ⟨e, ⟨he, ha, hs⟩, ho⟩⟩
  · intro s l b n hl hb hn
    refine ⟨fun hc ha => ?_, fun hc ha => ?_, fun hc hv ⟨a, ha, hin⟩ => ?_⟩
    · exact State.fetch_ompicWord (d := 1) hl hb hn (by omega) hc ha
    · exact State.fetch_ompicWord (d := 0) hl hb hn (by omega) hc ha
    · have hany := List.any_eq_true.mpr ⟨a, ha, hin⟩
      rw [State.fetch_ompic (locate_of_valid hl hv) hany, State.loadPhys, if_pos hany, hc, ompicRegister_cached]
  · intro s x hx pc hcase
    have hloc : locate s .fetch pc 4 = .raise x pc := by
      rcases hcase with h | ⟨rfl, l, hl, hv⟩
      · exact locate_of_raise h
      · exact locate_of_invalid hl hv
    exact ⟨_, fetchAndExecute_raises hloc, State.enters_enter hx pc⟩

end Sys2Proof.Machine
end

section
/-! PROOFS. A step and the watchpoint counters around it (44_orbis_control_system.md R551, 61_platform_units.md R986-R994). -/

namespace Sys2Proof.Machine

/-! ## A step runs the decoded instruction -/

/-- A step of a core that is awake and recognises no interrupt runs the fetched instruction under the counters. -/
theorem step_watched {s u : State} {w : Word32} {i : Instr} (hr : s.resetAsserted = false)
    (hs : s.environment.debugStopped = false) (hp : s.environment.paused = none) (hb : s.environment.blocked = none)
    (hx : s.environment.interrupt = none) (hf : s.environment.fetch = .ok (w, u)) (hd : decodeWord w = some i) :
    step s = u.watched (some i) (exec i) := by
  have hrun : executeWord w = exec i := by
    funext t
    unfold executeWord
    rw [hd]
  rw [step_eq, hr, if_neg Bool.false_ne_true, coreStep_awake hs hp hb, hx]
  show s.environment.fetch.run s.environment _ = _
  rw [hf]
  show u.watched (decodeWord w) (executeWord w) = _
  rw [hd, hrun]

/-- With the counters disabled before and after the instruction they make no difference. -/
theorem State.watched_off {u v : State} {i : Option Instr} {run : State → Result} (hu : u.watching = false)
    (hv : run u = .next v) (hw : v.watching = false) : u.watched i run = .next v := by
  unfold State.watched
  simp only [State.watchBefore_off hu, hv, State.watchAfter_off hw]
  rfl

/-! ## What an instruction offers -/

/-- What `d` offers to the comparators as an access of kind `k` to `n` bytes at `ea`, with the data `data` of a store. -/
def Offers (s : State) (k : Access) (ea : Word) (n : Nat) (data : Nat → Prop) (d : DataSeen) : Prop :=
  d.store = (k == .store) ∧ d.ea = ea ∧ d.size = n ∧ (k = .load → ∀ r, s.memRead d.ea n = .ok r → d.data = some r.1) ∧
    (k = .store → ∀ v, data v → d.data = some v)

theorem State.loadSeen_offers (s : State) (ra : Reg) (d : BitVec 16) (n : Nat) (data : Nat → Prop) :
    Offers s .load (trunc s.cfg.xlen (s.gpr ra + d.signExtend 64)) n data (s.loadSeen ra d n) := by
  refine ⟨rfl, effAddr_eq s ra d, rfl, fun _ r hr => ?_, fun h => by cases h⟩
  show (match s.memRead (s.effAddr ra d) n with | .ok r => some r.1 | _ => none) = some r.1
  rw [show s.memRead (s.effAddr ra d) n = .ok r from hr]

theorem State.storeSeen_offers (s : State) (ra rb : Reg) (d : BitVec 16) (n : Nat) :
    Offers s .store (trunc s.cfg.xlen (s.gpr ra + d.signExtend 64)) n (fun v => v = (s.gpr rb).toNat % 2 ^ (8 * n))
      (s.storeSeen ra rb d n) :=
  ⟨rfl, effAddr_eq s ra d, rfl, Access.noConfusion, fun _ _ => fun hv => congrArg some (Eq.symm hv)⟩

/-- The instructions that store `rb`. -/
def storesReg (ra rb : Reg) (d : BitVec 16) : List Instr := [.lSb ra rb d, .lSh ra rb d, .lSw ra rb d, .lSwa ra rb d, .lSd ra rb d]

/-- What an instruction offers is its access to data. -/
theorem State.accessSeen_offers (s : State) (i : Instr) :
    match Instr.dataAccess i with
    | none => s.accessSeen i = none
    | some (k, ra, d, n) => ∃ a, s.accessSeen i = some a ∧
        Offers s k (trunc s.cfg.xlen (s.gpr ra + d.signExtend 64)) n
          (fun v => ∃ rb, i ∈ storesReg ra rb d ∧ v = (s.gpr rb).toNat % 2 ^ (8 * n)) a := by
  have load : ∀ ra d n data, ∃ a, some (s.loadSeen ra d n) = some a ∧
      Offers s .load (trunc s.cfg.xlen (s.gpr ra + d.signExtend 64)) n data a :=
    fun ra d n data => ⟨_, rfl, s.loadSeen_offers ra d n data⟩
  have store : ∀ ra rb d n (i : Instr), (∀ rb', i ∈ storesReg ra rb' d → rb' = rb) → ∃ a, some (s.storeSeen ra rb d n) = some a ∧
      Offers s .store (trunc s.cfg.xlen (s.gpr ra + d.signExtend 64)) n
        (fun v => ∃ rb, i ∈ storesReg ra rb d ∧ v = (s.gpr rb).toNat % 2 ^ (8 * n)) a := by
    intro ra rb d n i hi
    obtain ⟨h1, h2, h3, h4, h5⟩ := s.storeSeen_offers ra rb d n
    exact ⟨_, rfl, h1, h2, h3, h4, fun hk v ⟨rb', hm, hv⟩ => h5 hk v (by rw [hv, hi rb' hm])⟩
  cases i with
  | lLbz rd ra d => exact load ra d 1 _
  | lLbs rd ra d => exact load ra d 1 _
  | lLhz rd ra d => exact load ra d 2 _
  | lLhs rd ra d => exact load ra d 2 _
  | lLwz rd ra d => exact load ra d 4 _
  | lLws rd ra d => exact load ra d 4 _
  | lLwa rd ra d => exact load ra d 4 _
  | lLd rd ra d => exact load ra d 8 _
  | lSb ra rb d => exact store ra rb d 1 _ fun rb' h => by simpa [storesReg, eq_comm] using h
  | lSh ra rb d => exact store ra rb d 2 _ fun rb' h => by simpa [storesReg, eq_comm] using h
  | lSw ra rb d => exact store ra rb d 4 _ fun rb' h => by simpa [storesReg, eq_comm] using h
  | lSwa ra rb d => exact store ra rb d 4 _ fun rb' h => by simpa [storesReg, eq_comm] using h
  | lSd ra rb d => exact store ra rb d 8 _ fun rb' h => by simpa [storesReg, eq_comm] using h
  | _ => exact rfl

/-! ## Counting -/

theorem bit1_cases (j : BitVec 1) : j = 0 ∨ j = 1 := by
  revert j; decide

/-- DMR2[AWTC] assigns watchpoint `n` to counter `j`. -/
theorem State.counterOf_beq (s : State) (n : Nat) (j : BitVec 1) :
    (s.counterOf n == j) = (s.dmr2.getLsbD (2 + n) == j.getLsbD 0) := by
  unfold State.counterOf
  rcases bit1_cases j with rfl | rfl <;> cases s.dmr2.getLsbD (2 + n) <;> rfl

theorem State.tally_eq (s : State) (fires : Nat → Bool) (j : BitVec 1) :
    s.tally fires j = ((List.range 10).filter fun n => fires n && (s.dmr2.getLsbD (2 + n) == j.getLsbD 0)).length := by
  simp only [State.tally, State.counterOf_beq]

/-- The watchpoints of a counter that fire, among others that do. -/
theorem State.tally_le {s : State} {fires more : Nat → Bool} {j : BitVec 1}
    (h : ∀ n, fires n = true → s.counterOf n = j → more n = true) : s.tally fires j ≤ s.tally more j := by
  refine List.Sublist.length_le (List.monotone_filter_right _ fun n hn => ?_)
  simp only [Bool.and_eq_true, beq_iff_eq] at hn ⊢
  exact ⟨h n hn.1 hn.2, hn.2⟩

theorem State.countWatchpoints_at (s : State) (o : Seen) (f : Word) (j : BitVec 1) :
    (s.countWatchpoints o f).dwcr.at j = s.countedDwcr o f j := by
  show ((s.dwcr.put 0 (s.countedDwcr o f 0)).put 1 (s.countedDwcr o f 1)).at j = _
  rcases bit1_cases j with rfl | rfl
  · rw [Bank.at_put_ne _ _ (by decide), Bank.at_put_self]
  · rw [Bank.at_put_self]

theorem append_high (a b : BitVec 16) : (a ++ b).extractLsb' 16 16 = a := by
  apply BitVec.eq_of_getLsbD_eq
  intro k hk
  rw [BitVec.getLsbD_extractLsb', BitVec.getLsbD_append, decide_eq_true hk, if_neg (by omega), Nat.add_sub_cancel_left]
  rfl

theorem append_low (a b : BitVec 16) : (a ++ b).extractLsb' 0 16 = b := by
  apply BitVec.eq_of_getLsbD_eq
  intro k hk
  rw [BitVec.getLsbD_extractLsb', BitVec.getLsbD_append, decide_eq_true hk, Nat.zero_add, if_pos hk]
  rfl

/-- Counting keeps MATCH, and adds to COUNT of an enabled counter the watchpoints that fire for it. -/
theorem State.countedDwcr_fields (s : State) (o : Seen) (f : Word) (j : BitVec 1) :
    (s.countedDwcr o f j).extractLsb' 16 16 = (s.dwcr.at j).extractLsb' 16 16 ∧
    (s.countedDwcr o f j).extractLsb' 0 16 = (s.dwcr.at j).extractLsb' 0 16 +
      (if s.dmr2.getLsbD j.toNat then BitVec.ofNat 16 (s.tally (s.watchpoint o f) j) else 0) := by
  unfold State.countedDwcr State.counterOn
  cases s.dmr2.getLsbD j.toNat
  · exact ⟨rfl, (BitVec.add_zero _).symm⟩
  · exact ⟨append_high _ _, append_low _ _⟩

/-! ## Which watchpoints fire -/

/-- The watchpoints of the pairs, before those of the counters. -/
def State.pairFires (s : State) (o : Seen) (f : Word) (n : Nat) : Bool := decide (n < 8) && s.matchPoint o f n

/-- Those with watchpoint 8 as the pairs decide it. -/
def State.withEight (s : State) (o : Seen) (f : Word) : Nat → Bool := s.withCounter f 0 (s.pairFires o f)

/-- Those with watchpoint 9 as well, as the pairs and watchpoint 8 decide it. -/
def State.withNine (s : State) (o : Seen) (f : Word) : Nat → Bool := s.withCounter f 1 (s.withEight o f)

theorem State.watchpoint_eq (s : State) (o : Seen) (f : Word) : s.watchpoint o f = s.withCounter f 0 (s.withNine o f) := rfl

theorem State.withEight_of_ne {s : State} {o : Seen} {f : Word} {n : Nat} (h : n ≠ 8) : s.withEight o f n = s.pairFires o f n :=
  State.withCounter_other h

theorem State.withNine_of_ne {s : State} {o : Seen} {f : Word} {n : Nat} (h : n ≠ 9) : s.withNine o f n = s.withEight o f n :=
  State.withCounter_other h

theorem State.watchpoint_of_ne {s : State} {o : Seen} {f : Word} {n : Nat} (h : n ≠ 8) : s.watchpoint o f n = s.withNine o f n :=
  State.withCounter_other h

theorem State.pairFires_lt {s : State} {o : Seen} {f : Word} {n : Nat} (h : s.pairFires o f n = true) : n < 8 := by
  simp only [State.pairFires, Bool.and_eq_true, decide_eq_true_eq] at h
  exact h.1

/-- Uncombined, a watchpoint of a pair fires where the pair matches. -/
theorem State.watchpoint_pair {s : State} {o : Seen} {f : Word} {n : Nat} (hn : n < 8) (hc : s.cw n = 0) :
    s.watchpoint o f n = s.dvrMatch o (BitVec.ofNat 3 n) := by
  rw [State.watchpoint_of_ne (by omega), State.withNine_of_ne (by omega), State.withEight_of_ne (by omega), State.pairFires,
    decide_eq_true hn, Bool.true_and]
  cases n with
  | zero => rw [State.matchPoint, combineMatch, if_pos hc]; rfl
  | succ n => rw [State.matchPoint, combineMatch, if_pos hc]

/-- Uncombined, the watchpoint of a counter fires where the counter matches. -/
theorem State.withCounter_self {s : State} {f : Word} {j : BitVec 1} {fires : Nat → Bool} (hc : s.cw (8 + j.toNat) = 0) :
    s.withCounter f j fires (8 + j.toNat) = s.counterMatch j (s.tally fires j) := by
  rw [State.withCounter, if_pos rfl, combineMatch, if_pos hc]

/-- What is missing for COUNT to reach MATCH. -/
def State.counterGap (s : State) (j : BitVec 1) : Nat :=
  ((s.dwcr.at j).extractLsb' 16 16 - (s.dwcr.at j).extractLsb' 0 16).toNat

theorem State.counterMatch_of_gap {s : State} {j : BitVec 1} (h : s.counterGap j ≠ 0) (a : Nat) :
    s.counterMatch j a = true ↔ s.dmr2.getLsbD j.toNat = true ∧ s.counterGap j ≤ a := by
  have hm : s.counterMatch j a = (s.counterOn j && decide (s.counterGap j ≤ a)) := if_neg h
  rw [hm, Bool.and_eq_true, decide_eq_true_eq]
  rfl

theorem State.counterMatch_of_met {s : State} {j : BitVec 1} (h : s.counterGap j = 0) (a : Nat) :
    s.counterMatch j a = s.cfg.counterLevel := if_pos h

/-- The other watchpoints of counter 0 decide watchpoint 8: where it fires by itself the pairs alone reach MATCH. -/
theorem State.counterMatch_eight {s : State} {o : Seen} {f : Word} (hc : s.cw 8 = 0) (hg : s.counterGap 0 ≠ 0) :
    s.counterMatch 0 (s.tally (s.withNine o f) 0) = true ↔
      s.dmr2.getLsbD 0 = true ∧ s.counterGap 0 ≤ s.tally (fun n => n != 8 && s.watchpoint o f n) 0 := by
  have height : s.withNine o f 8 = s.counterMatch 0 (s.tally (s.pairFires o f) 0) :=
    (State.withNine_of_ne (by omega)).trans (State.withCounter_self (j := 0) hc)
  rw [State.counterMatch_of_gap hg]
  refine and_congr_right fun hon => ⟨fun h => ?_, fun h => h.trans (State.tally_le fun n hn _ => ?_)⟩
  · cases h8 : s.withNine o f 8
    · refine h.trans (State.tally_le fun n hn _ => ?_)
      have hne : n ≠ 8 := fun h => by rw [h, h8] at hn; cases hn
      simp [hne, State.watchpoint_of_ne hne, hn]
    · rw [height] at h8
      refine ((State.counterMatch_of_gap hg _).mp h8).2.trans (State.tally_le fun n hn _ => ?_)
      have hlt := State.pairFires_lt hn
      rw [State.watchpoint_of_ne (by omega), State.withNine_of_ne (by omega), State.withEight_of_ne (by omega), hn]
      simp only [Bool.and_true, bne_iff_ne]
      omega
  · simp only [Bool.and_eq_true, bne_iff_ne] at hn
    rw [← State.watchpoint_of_ne hn.1]
    exact hn.2

/-- The other watchpoints of counter 1 decide watchpoint 9: watchpoint 8 differs at the end only where 9 fires already. -/
theorem State.counterMatch_nine {s : State} {o : Seen} {f : Word} (hc : s.cw 9 = 0) (hg : s.counterGap 1 ≠ 0) :
    s.counterMatch 1 (s.tally (s.withEight o f) 1) = true ↔
      s.dmr2.getLsbD 1 = true ∧ s.counterGap 1 ≤ s.tally (fun n => n != 9 && s.watchpoint o f n) 1 := by
  have hnine : s.withNine o f 9 = s.counterMatch 1 (s.tally (s.withEight o f) 1) := State.withCounter_self (j := 1) hc
  have hno : s.withEight o f 9 = false := by
    rw [State.withEight_of_ne (by omega)]
    exact Bool.eq_false_iff.mpr fun h => absurd (State.pairFires_lt h) (by omega)
  have hmono : ∀ n, s.withEight o f n = true → s.watchpoint o f n = true := by
    intro n hn
    have hpair : ∀ m, s.pairFires o f m = true → s.withNine o f m = true := fun m hm => by
      have hlt := State.pairFires_lt hm
      rw [State.withNine_of_ne (by omega), State.withEight_of_ne (by omega), hm]
    exact State.withCounter_mono hpair (by
      rw [State.withNine_of_ne (by decide), State.withEight_of_ne (by decide)]) n hn
  constructor
  · rw [State.counterMatch_of_gap hg]
    refine fun ⟨hon, h⟩ => ⟨hon, h.trans (State.tally_le fun n hn _ => ?_)⟩
    have hne : n ≠ 9 := fun h => by rw [h, hno] at hn; cases hn
    simp [hne, hmono n hn]
  · intro ⟨hon, h⟩
    by_contra hm
    refine hm ((State.counterMatch_of_gap hg _).mpr ⟨hon, h.trans (State.tally_le fun n hn hj => ?_)⟩)
    simp only [Bool.and_eq_true, bne_iff_ne] at hn
    by_cases h8 : n = 8
    · subst h8
      have hsame : s.tally (s.withNine o f) 0 ≤ s.tally (s.pairFires o f) 0 := State.tally_le fun k hk hk0 => by
        have hk8 : k ≠ 8 := fun h => by rw [h, hj] at hk0; exact absurd hk0 (by decide)
        have hk9 : k ≠ 9 := fun h => by rw [h, hnine] at hk; exact hm hk
        rwa [State.withNine_of_ne hk9, State.withEight_of_ne hk8] at hk
      have hthree : s.withNine o f 3 = s.pairFires o f 3 := by
        rw [State.withNine_of_ne (by decide), State.withEight_of_ne (by decide)]
      have hw := hn.2
      rw [State.watchpoint_eq] at hw
      unfold State.withEight
      unfold State.withCounter at hw ⊢
      rw [if_pos (by rfl)] at hw ⊢
      rw [show 4 * (0 : BitVec 1).toNat + 3 = 3 from rfl] at hw ⊢
      rw [hthree] at hw
      exact combineMatch_mono (State.counterMatch_mono hsame) hw
    · rw [State.watchpoint_of_ne h8, State.withNine_of_ne hn.1] at hn
      exact hn.2

/-- Uncombined, the watchpoint of a counter is decided by what the others add to the counter. -/
theorem State.watchpoint_counter {s : State} {o : Seen} {f : Word} {j : BitVec 1} (hc : s.cw (8 + j.toNat) = 0) :
    (s.counterGap j = 0 → s.watchpoint o f (8 + j.toNat) = s.cfg.counterLevel) ∧
    (s.counterGap j ≠ 0 → (s.watchpoint o f (8 + j.toNat) = true ↔ s.dmr2.getLsbD j.toNat = true ∧
      s.counterGap j ≤ s.tally (fun n => n != 8 + j.toNat && s.watchpoint o f n) j)) := by
  rcases bit1_cases j with rfl | rfl
  · have hself : s.watchpoint o f 8 = s.counterMatch 0 (s.tally (s.withNine o f) 0) := State.withCounter_self (j := 0) hc
    exact ⟨fun h => hself.trans (State.counterMatch_of_met h _), fun h => by
      show s.watchpoint o f 8 = true ↔ _
      rw [hself]; exact State.counterMatch_eight hc h⟩
  · have hself : s.watchpoint o f 9 = s.counterMatch 1 (s.tally (s.withEight o f) 1) :=
      (State.watchpoint_of_ne (by decide)).trans (State.withCounter_self (j := 1) hc)
    exact ⟨fun h => hself.trans (State.counterMatch_of_met h _), fun h => by
      show s.watchpoint o f 9 = true ↔ _
      rw [hself]; exact State.counterMatch_nine hc h⟩

/-- COUNT reaches MATCH within `a` steps exactly where no more is missing. -/
theorem counterGap_le_iff (goal count : BitVec 16) (a : Nat) (h : count.toNat ≠ goal.toNat) :
    (goal - count).toNat ≤ a ↔ ∃ k, 0 < k ∧ k ≤ a ∧ (count.toNat + k) % 2 ^ 16 = goal.toNat := by
  have hg := goal.isLt
  have hc := count.isLt
  rw [BitVec.toNat_sub]
  constructor
  · exact fun hle => ⟨(2 ^ 16 - count.toNat + goal.toNat) % 2 ^ 16, by omega, hle, by omega⟩
  · exact fun ⟨k, _, hk, he⟩ => by omega

theorem counterGap_eq_zero (goal count : BitVec 16) : (goal - count).toNat = 0 ↔ count.toNat = goal.toNat := by
  have hg := goal.isLt
  have hc := count.isLt
  rw [BitVec.toNat_sub]
  omega

/-! ## The obligation -/

/-- Settles O12: the step under the counters, what they count, and which watchpoints fire. -/
theorem stepRunsDecoded : Obligations.StepRunsDecoded := by
  refine ⟨?_, ?_, ?_, ?_, ?_⟩
  · intro s u w i hr hs hp hb hx hf hd
    have hstep := step_watched hr hs hp hb hx hf hd
    refine ⟨fun hoff => ?_, fun v hu hv hw => ?_, fun hw => ?_, fun t ht => ?_⟩
    · rw [hstep]
      exact State.watched_absent hoff _ _ fun t ht => exec_cfg ht
    · rw [hstep]
      exact State.watched_off hu hv hw
    · rw [hstep]
      exact (State.watched_counts hw (some i) (exec i)).imp_right fun h v hv hvw he => h v hv hvw (hadEffect_of he)
    · rw [hstep] at ht
      obtain ⟨v, hv, htv⟩ := State.watched_next ht
      rw [State.watchBefore_rest] at hv
      exact ⟨v, _, _, hv, htv⟩
  · intro s o f j old new fired
    have hfields := s.countedDwcr_fields o f j
    rw [← State.countWatchpoints_at, State.tally_eq] at hfields
    exact ⟨hfields.1, hfields.2, rfl⟩
  · intro s o f n hn hc
    rw [State.watchpoint_pair hn hc, pairMatches_iff]
  · intro s i
    refine ⟨rfl, ?_⟩
    have h := s.accessSeen_offers i
    show match Instr.dataAccess i with
      | none => s.accessSeen i = none
      | some (k, ra, d, n) => ∃ a, s.accessSeen i = some a ∧ _
    revert h
    rcases Instr.dataAccess i with _ | ⟨k, ra, d, n⟩
    · exact id
    · rintro ⟨a, ha, hstore, hea, hsize, hload, hdata⟩
      exact ⟨a, ha, hstore, hea, hsize, hload, fun hk rb hi => hdata hk _ ⟨rb, hi, rfl⟩⟩
  · intro s o f j own count goal added hc
    obtain ⟨hmet, hgap⟩ := State.watchpoint_counter (o := o) (f := f) (j := j) hc
    refine ⟨fun h => hmet ((counterGap_eq_zero _ _).mpr h), fun h => ?_⟩
    rw [hgap fun h0 => h ((counterGap_eq_zero _ _).mp h0), State.tally_eq]
    exact and_congr_right fun _ => counterGap_le_iff _ _ _ h

end Sys2Proof.Machine
end

section
/-! PROOFS. Values of XLEN bits as numbers (00_scope.md R14, 40_orbis_arith.md R350). -/

namespace Sys2Proof.Machine

theorem Xlen.bits_le (x : Xlen) : x.bits ≤ 64 := by cases x <;> decide

theorem trunc_toNat (x : Xlen) (v : Word) : (trunc x v).toNat = v.toNat % 2 ^ x.bits := by
  have := v.isLt
  cases x
  · simp only [trunc, Xlen.bits, BitVec.toNat_setWidth]; omega
  · simp only [trunc, Xlen.bits]; omega

theorem uval_eq (x : Xlen) (v : Word) : uval x v = v.toNat % 2 ^ x.bits := trunc_toNat x v

/-- The value of an operand of XLEN bits. -/
theorem uval_of_trunc {x : Xlen} {v : Word} (h : trunc x v = v) : uval x v = v.toNat := congrArg BitVec.toNat h

theorem toNat_lt_of_trunc {x : Xlen} {v : Word} (h : trunc x v = v) : v.toNat < 2 ^ x.bits := by
  rw [← uval_of_trunc h, uval_eq]
  exact Nat.mod_lt _ (Nat.two_pow_pos _)

/-- Two values that are equal modulo 2^XLEN have the same low XLEN bits. -/
theorem trunc_eq_of_toNat {x : Xlen} {v w : Word} (h : v.toNat % 2 ^ x.bits = w.toNat % 2 ^ x.bits) : trunc x v = trunc x w :=
  BitVec.eq_of_toNat_eq (by rw [trunc_toNat, trunc_toNat, h])

theorem mod_word_mod (x : Xlen) (n : Nat) : n % 2 ^ 64 % 2 ^ x.bits = n % 2 ^ x.bits :=
  Nat.mod_mod_of_dvd _ (Nat.pow_dvd_pow 2 (Xlen.bits_le x))

/-- Narrowing an exact natural number keeps it modulo 2^XLEN. -/
theorem trunc_ofNat (x : Xlen) (n : Nat) {v : Word} (h : n % 2 ^ x.bits = v.toNat % 2 ^ x.bits) :
    trunc x (ofNat x n) = trunc x v := by
  rw [ofNat, trunc_trunc]
  exact trunc_eq_of_toNat (by rw [BitVec.toNat_ofNat, mod_word_mod, h])

theorem emod_word_emod (x : Xlen) (z : Int) : z % 2 ^ 64 % 2 ^ x.bits = z % 2 ^ x.bits :=
  Int.emod_emod_of_dvd _ (pow_dvd_pow 2 (Xlen.bits_le x))

theorem toNat_emod_of_toInt (v : Word) : (v.toNat : Int) = v.toInt % 2 ^ 64 := by
  have := v.isLt
  rw [BitVec.toInt_eq_toNat_cond]
  split <;> omega

/-- Narrowing an exact integer keeps it modulo 2^XLEN. -/
theorem trunc_ofInt (x : Xlen) {z : Int} {v : Word} (h : z % 2 ^ x.bits = (v.toNat : Int) % 2 ^ x.bits) :
    trunc x (ofInt x z) = trunc x v := by
  rw [ofInt, trunc_trunc]
  refine trunc_eq_of_toNat (Int.natCast_inj.mp ?_)
  rw [Int.natCast_emod, Int.natCast_emod, BitVec.toNat_ofInt, Int.toNat_of_nonneg (Int.emod_nonneg _ (by decide))]
  rw [show ((2 : Nat) ^ 64 : Nat) = (2 : Int) ^ 64 from rfl, show ((2 ^ x.bits : Nat) : Int) = 2 ^ x.bits by push_cast; rfl,
    emod_word_emod, h]

/-- The signed value by its distance from the middle. -/
theorem sval_eq (x : Xlen) (v : Word) :
    sval x v = if v.toNat % 2 ^ x.bits < 2 ^ (x.bits - 1) then ((v.toNat % 2 ^ x.bits : Nat) : Int)
      else ((v.toNat % 2 ^ x.bits : Nat) : Int) - 2 ^ x.bits := by
  have := v.isLt
  cases x
  · simp only [sval, Xlen.bits, BitVec.toInt_eq_toNat_cond, BitVec.toNat_setWidth]
    split_ifs <;> omega
  · simp only [sval, Xlen.bits, BitVec.toInt_eq_toNat_cond]
    split_ifs <;> omega

theorem signBit_eq (x : Xlen) (v : Word) : signBit x v = decide (2 ^ (x.bits - 1) ≤ v.toNat % 2 ^ x.bits) := by
  have := v.isLt
  rw [signBit, Bool.eq_iff_iff, decide_eq_true_eq]
  cases x
  · simp only [Xlen.bits, BitVec.getLsbD, Nat.testBit_eq_decide_div_mod_eq, decide_eq_true_eq]; omega
  · simp only [Xlen.bits, BitVec.getLsbD, Nat.testBit_eq_decide_div_mod_eq, decide_eq_true_eq]; omega

/-- The signed value is the unsigned one modulo 2^XLEN. -/
theorem sval_emod (x : Xlen) (v : Word) : sval x v % 2 ^ x.bits = (v.toNat : Int) % 2 ^ x.bits := by
  have hn : ((v.toNat % 2 ^ x.bits : Nat) : Int) % 2 ^ x.bits = (v.toNat : Int) % 2 ^ x.bits := by
    rw [Int.natCast_emod]; push_cast; rw [Int.emod_emod_of_dvd _ (dvd_refl _)]
  rw [sval_eq]
  split
  · exact hn
  · rw [Int.sub_emod_right]; exact hn

/-- An exact sum does not fit as a signed value exactly where two operands of one sign have a sum of the other. -/
theorem signedOut_add (x : Xlen) (a b : Word) (c : Bool) :
    signedOut x (sval x a + sval x b + c.toNat) =
      (signBit x a == signBit x b && signBit x (a + b + (if c then 1 else 0)) != signBit x a) := by
  have hc : (if c then 1 else 0 : Word).toNat = c.toNat := by cases c <;> rfl
  have hc1 : c.toNat ≤ 1 := by cases c <;> decide
  have ha := a.isLt
  have hb := b.isLt
  rw [signedOut, sval_eq, sval_eq, signBit_eq, signBit_eq, signBit_eq, Bool.eq_iff_iff]
  simp only [decide_eq_true_eq, Bool.and_eq_true, beq_iff_eq, bne_iff_ne, ne_eq, decide_eq_decide, BitVec.toNat_add, hc]
  generalize c.toNat = c at hc1
  cases x
  · simp only [Xlen.bits]; split_ifs <;> omega
  · simp only [Xlen.bits]; split_ifs <;> omega

/-- An exact difference does not fit as a signed value exactly where operands of different signs have a difference of the
subtrahend's sign. -/
theorem signedOut_sub (x : Xlen) (a b : Word) :
    signedOut x (sval x a - sval x b) =
      (signBit x a != signBit x b && signBit x (a - b) != signBit x a) := by
  have ha := a.isLt
  have hb := b.isLt
  rw [signedOut, sval_eq, sval_eq, signBit_eq, signBit_eq, signBit_eq, Bool.eq_iff_iff]
  simp only [decide_eq_true_eq, Bool.and_eq_true, bne_iff_ne, ne_eq, decide_eq_decide, BitVec.toNat_sub]
  cases x
  · simp only [Xlen.bits]; split_ifs <;> omega
  · simp only [Xlen.bits]; split_ifs <;> omega

/-- The value of an immediate operand. -/
theorem sval_sext16 (x : Xlen) (i : BitVec 16) : sval x (sext16 x i) = i.toInt := by
  have hs := BitVec.toInt_signExtend_of_le (x := i) (show 16 ≤ 64 by decide)
  have hlt := BitVec.toInt_lt (x := i)
  have hle := BitVec.le_toInt (x := i)
  cases x
  · have : ((i.signExtend 64).setWidth 32 : Word32) = i.signExtend 32 := by
      apply BitVec.eq_of_getLsbD_eq
      intro k hk
      simp only [BitVec.getLsbD_setWidth, BitVec.getLsbD_signExtend, hk, decide_true, Bool.true_and]
      simp [show k < 64 by omega]
    show (((((i.signExtend 64).setWidth 32 : Word32).setWidth 64 : Word)).setWidth 32 : Word32).toInt = i.toInt
    rw [BitVec.setWidth_setWidth_of_le _ (by decide), BitVec.setWidth_eq, this]
    exact BitVec.toInt_signExtend_of_le (by decide)
  · exact hs

end Sys2Proof.Machine
end

section
/-! PROOFS. Integer arithmetic and multiply-accumulate (40_orbis_arith.md). -/

namespace Sys2Proof.Machine

/-! ## Arithmetic instructions and SR[OVE] -/

/-- The state with SR[OVE] = 0. -/
def State.quiet (s : State) : State := { s with sr := s.sr &&& 0xFFFFEFFF }

theorem quietMask_getLsbD (k : Nat) (hk : k < 32) : (0xFFFFEFFF : Word32).getLsbD k = !decide (k = 12) := by
  revert k; decide

theorem State.quiet_getLsbD (s : State) {k : Nat} (hk : k < 32) (h : k ≠ 12) : s.quiet.sr.getLsbD k = s.sr.getLsbD k := by
  show (s.sr &&& 0xFFFFEFFF).getLsbD k = _
  rw [BitVec.getLsbD_and, quietMask_getLsbD k hk, decide_eq_false h, Bool.not_false, Bool.and_true]

theorem State.quiet_ove (s : State) : s.quiet.ove = false := by
  show (s.sr &&& 0xFFFFEFFF).getLsbD 12 = false
  rw [BitVec.getLsbD_and, quietMask_getLsbD 12 (by decide)]
  simp

theorem State.quiet_ctx (s : State) : s.quiet.ctx = s.ctx := by
  refine State.ctx_congr (s.quiet_getLsbD (by decide) (by decide)) ?_ rfl
  apply BitVec.eq_of_getLsbD_eq
  intro k hk
  rw [BitVec.getLsbD_extractLsb', BitVec.getLsbD_extractLsb', s.quiet_getLsbD (by omega) (by omega)]

theorem State.quiet_gpr (s : State) (r : Reg) : s.quiet.gpr r = s.gpr r := by
  unfold State.gpr
  rw [State.quiet_ctx]
  rfl

theorem State.quiet_carry (s : State) : s.quiet.carry = s.carry := s.quiet_getLsbD (by decide) (by decide)

theorem State.quiet_overflow (s : State) : s.quiet.overflow = s.overflow := s.quiet_getLsbD (by decide) (by decide)

theorem State.quiet_setGpr (s : State) (r : Reg) (v : Word) : s.quiet.setGpr r v = (s.setGpr r v).quiet := by
  unfold State.setGpr
  rw [State.quiet_ctx]
  unfold State.setGprAt
  split <;> rename_i h
  · exact (if_pos h : _) ▸ rfl
  · exact (if_neg h : _) ▸ rfl

theorem setBit_quiet (w : Word32) {n : Nat} (hn : n < 32) (h : n ≠ 12) (b : Bool) :
    setBit (w &&& 0xFFFFEFFF) n b = setBit w n b &&& 0xFFFFEFFF := by
  apply BitVec.eq_of_getLsbD_eq
  intro k hk
  rw [getLsbD_setBit _ _ _ _ hn, BitVec.getLsbD_and, BitVec.getLsbD_and, getLsbD_setBit _ _ _ _ hn, quietMask_getLsbD k hk]
  by_cases hkn : k = n
  · rw [if_pos hkn, if_pos hkn, decide_eq_false (by omega), Bool.not_false, Bool.and_true]
  · rw [if_neg hkn, if_neg hkn]

theorem State.quiet_setCarry (s : State) (b : Bool) : s.quiet.setCarry b = (s.setCarry b).quiet :=
  congrArg (fun w => { s with sr := w }) (setBit_quiet s.sr (by decide) (by decide) b)

theorem State.quiet_setOverflow (s : State) (b : Bool) : s.quiet.setOverflow b = (s.setOverflow b).quiet :=
  congrArg (fun w => { s with sr := w }) (setBit_quiet s.sr (by decide) (by decide) b)

theorem State.quiet_setAcc (s : State) (v : Word) : s.quiet.setAcc v = (s.setAcc v).quiet := rfl

theorem State.quiet_draw (s : State) : s.quiet.draw.1 = s.draw.1 ∧ s.quiet.draw.2 = s.draw.2.quiet := ⟨rfl, rfl⟩

theorem State.quiet_blocked (s : State) : s.quiet.blocked = s.blocked := by
  have hcid : s.quiet.cid = s.cid := by
    apply BitVec.eq_of_getLsbD_eq
    intro k hk
    unfold State.cid
    rw [BitVec.getLsbD_extractLsb', BitVec.getLsbD_extractLsb', s.quiet_getLsbD (by omega) (by omega)]
  have hfcs : s.quiet.fcs = s.fcs := by
    unfold State.fcs
    rw [s.quiet_getLsbD (by decide) (by decide)]
    rfl
  unfold State.blocked State.contextBad
  rw [hcid, hfcs]
  rfl

theorem Ready.quiet {i : Instr} {s : State} (h : Ready i s) : Ready i s.quiet :=
  ⟨s.quiet_blocked.trans h.1, h.2⟩

/-- The arithmetic instruction `j` in `s`: it writes its result and flags, which gives `w`, and then traps where one of the conditions
`cs` is enabled; with SR[OVE] = 0 it writes the same. -/
structure ArithStep (j : Instr) (s w : State) (cs : List AeCond) : Prop where
  run : exec j s = w.finishArith cs
  runQuiet : exec j s.quiet = w.quiet.finishArith cs
  writes : Computes s w

/-- The instruction is issued, then its operation writes. -/
theorem ArithStep.of_op {j : Instr} {s w : State} {cs : List AeCond} {op : State → Result} (hexec : ∀ s, exec j s = issue j s op)
    (h : Ready j s) (hop : op s = w.finishArith cs) (hquiet : op s.quiet = w.quiet.finishArith cs) (hw : Computes s w) :
    ArithStep j s w cs :=
  ⟨by rw [hexec, issue_run h, hop], by rw [hexec, issue_run h.quiet, hquiet], hw⟩

/-- With SR[OVE] = 0 it completes. -/
theorem ArithStep.completes {j : Instr} {s w : State} {cs : List AeCond} (h : ArithStep j s w cs) (hove : s.ove = false) :
    exec j s = .next w.advance := by
  rw [h.run, State.finishArith_of_ove (h.writes.ove.trans hove)]

/-! ## The operations, with the state that each leaves before it may trap -/

/-- `s` with a sum in `rd` and its carry and overflow. -/
def State.afterSum (s : State) (rd : Reg) (v : Word) (cy ov : Bool) : State := ((s.setGpr rd v).setCarry cy).setOverflow ov

theorem State.quiet_afterSum (s : State) (rd : Reg) (v : Word) (cy ov : Bool) :
    s.quiet.afterSum rd v cy ov = (s.afterSum rd v cy ov).quiet := by
  unfold State.afterSum
  rw [State.quiet_setGpr, State.quiet_setCarry, State.quiet_setOverflow]

theorem State.afterSum_computes (s : State) (rd : Reg) (v : Word) (cy ov : Bool) : Computes s (s.afterSum rd v cy ov) :=
  ((s.setGpr_computes rd v).trans (State.setCarry_computes _ _)).trans (State.setOverflow_computes _ _)

theorem State.afterSum_writes (s : State) (rd : Reg) (v : Word) (cy ov : Bool) :
    WritesRegSr 0xC00 s (s.afterSum rd v cy ov).advance rd v ∧ (s.afterSum rd v cy ov).advance.carry = cy ∧
      (s.afterSum rd v cy ov).advance.overflow = ov := by
  have hsr : (s.afterSum rd v cy ov) = { s.setGpr rd v with sr := setBit (setBit s.sr 10 cy) 11 ov } := by
    show { s.setGpr rd v with sr := setBit (setBit (s.setGpr rd v).sr 10 cy) 11 ov } = _
    rw [State.setGpr_sr]
  have hcy : (s.afterSum rd v cy ov).carry = cy := by simp [State.afterSum]
  have hov : (s.afterSum rd v cy ov).overflow = ov := by simp [State.afterSum]
  refine ⟨?_, ?_, ?_⟩
  · rw [hsr]
    refine s.writesRegSr rd v _ _ ?_
    rw [setBit_outside _ _ _ _ (by decide) (by decide), setBit_outside _ _ _ _ (by decide) (by decide)]
  · rw [State.carry, State.advance_sr]; exact hcy
  · rw [State.overflow, State.advance_sr]; exact hov

/-- `s` with a result in `rd` and its overflow, or its carry. -/
def State.afterFlag (s : State) (rd : Reg) (v : Word) (isOv b : Bool) : State :=
  if isOv then (s.setGpr rd v).setOverflow b else (s.setGpr rd v).setCarry b

theorem State.quiet_afterFlag (s : State) (rd : Reg) (v : Word) (isOv b : Bool) :
    s.quiet.afterFlag rd v isOv b = (s.afterFlag rd v isOv b).quiet := by
  cases isOv
  · exact (congrArg (State.setCarry · b) (s.quiet_setGpr rd v)).trans (State.quiet_setCarry _ _)
  · exact (congrArg (State.setOverflow · b) (s.quiet_setGpr rd v)).trans (State.quiet_setOverflow _ _)

theorem State.afterFlag_computes (s : State) (rd : Reg) (v : Word) (isOv b : Bool) : Computes s (s.afterFlag rd v isOv b) := by
  cases isOv
  · exact (s.setGpr_computes rd v).trans (State.setCarry_computes _ _)
  · exact (s.setGpr_computes rd v).trans (State.setOverflow_computes _ _)

theorem State.afterFlag_overflow (s : State) (rd : Reg) (v : Word) (b : Bool) :
    WritesRegSr 0x800 s (s.afterFlag rd v true b).advance rd v ∧ (s.afterFlag rd v true b).advance.overflow = b := by
  have hsr : s.afterFlag rd v true b = { s.setGpr rd v with sr := setBit s.sr 11 b } := by
    show { s.setGpr rd v with sr := setBit (s.setGpr rd v).sr 11 b } = _
    rw [State.setGpr_sr]
  refine ⟨?_, ?_⟩
  · rw [hsr]; exact s.writesRegSr rd v _ _ (setBit_outside _ _ _ _ (by decide) (by decide))
  · rw [State.overflow, State.advance_sr]; exact State.setOverflow_overflow _ _

theorem State.afterFlag_carry (s : State) (rd : Reg) (v : Word) (b : Bool) :
    WritesRegSr 0x400 s (s.afterFlag rd v false b).advance rd v ∧ (s.afterFlag rd v false b).advance.carry = b := by
  have hsr : s.afterFlag rd v false b = { s.setGpr rd v with sr := setBit s.sr 10 b } := by
    show { s.setGpr rd v with sr := setBit (s.setGpr rd v).sr 10 b } = _
    rw [State.setGpr_sr]
  refine ⟨?_, ?_⟩
  · rw [hsr]; exact s.writesRegSr rd v _ _ (setBit_outside _ _ _ _ (by decide) (by decide))
  · rw [State.carry, State.advance_sr]; exact State.setCarry_carry _ _

/-- `s` with the accumulator `v` and its overflow, or its carry. -/
def State.afterAcc (s : State) (v : Word) (isOv b : Bool) : State :=
  if isOv then (s.setAcc v).setOverflow b else (s.setAcc v).setCarry b

theorem State.quiet_afterAcc (s : State) (v : Word) (isOv b : Bool) : s.quiet.afterAcc v isOv b = (s.afterAcc v isOv b).quiet := by
  cases isOv
  · exact State.quiet_setCarry (s.setAcc v) b
  · exact State.quiet_setOverflow (s.setAcc v) b

theorem State.afterAcc_computes (s : State) (v : Word) (isOv b : Bool) : Computes s (s.afterAcc v isOv b) := by
  cases isOv
  · exact (s.setAcc_computes v).trans (State.setCarry_computes _ _)
  · exact (s.setAcc_computes v).trans (State.setOverflow_computes _ _)

/-- Writing the accumulator and SR and completing. -/
theorem State.writesAcc (s : State) (v : Word) {w m : Word32} (hw : w &&& ~~~m = s.sr &&& ~~~m) :
    WritesAcc m s ({ s.setAcc v with sr := w }).advance v := by
  refine ⟨?_, ?_, ?_, ?_, fun a => by simp⟩
  · rw [State.advance_machi, State.advance_maclo]; exact State.setAcc_acc s v
  · rw [SrOutside, State.advance_sr]; exact hw
  · simp [Completes]
  · refine (State.advance_seq _).trans ?_
    simp only [State.advance_sr, State.advance_machi, State.advance_maclo]
    rfl

theorem State.afterAcc_overflow (s : State) (v : Word) (b : Bool) :
    WritesAcc 0x800 s (s.afterAcc v true b).advance v ∧ (s.afterAcc v true b).advance.overflow = b :=
  ⟨s.writesAcc v (setBit_outside _ _ _ _ (by decide) (by decide)), by
    rw [State.overflow, State.advance_sr]; exact State.setOverflow_overflow _ _⟩

theorem State.afterAcc_carry (s : State) (v : Word) (b : Bool) :
    WritesAcc 0x400 s (s.afterAcc v false b).advance v ∧ (s.afterAcc v false b).advance.carry = b :=
  ⟨s.writesAcc v (setBit_outside _ _ _ _ (by decide) (by decide)), by
    rw [State.carry, State.advance_sr]; exact State.setCarry_carry _ _⟩

end Sys2Proof.Machine
end

section
/-! PROOFS. The family 40_orbis_arith.md: what each arithmetic instruction writes, and when it traps. -/

namespace Sys2Proof.Machine

/-! ## Additions and subtraction -/

/-- The conditions of an addition or subtraction. -/
def sumConds (cy ov : Bool) : List AeCond := [{ bit := .ovAdd, isOv := true, holds := ov }, { bit := .cyAdd, isOv := false, holds := cy }]

/-- The condition of an instruction that may set one flag. -/
def flagCond (b : AeBit) (isOv holds : Bool) : List AeCond := [{ bit := b, isOv := isOv, holds := holds }]

/-- The carry out of an addition. -/
def addCarry (x : Xlen) (a b : Word) (c : Bool) : Bool := unsignedOut x (uval x a + uval x b + c.toNat)

/-- The overflow of an addition. -/
def addOverflow (x : Xlen) (a b : Word) (c : Bool) : Bool := signedOut x (sval x a + sval x b + c.toNat)

/-- `s` after an addition. -/
def State.afterAdd (s : State) (rd : Reg) (a b : Word) (c : Bool) : State :=
  s.afterSum rd (ofNat s.cfg.xlen (uval s.cfg.xlen a + uval s.cfg.xlen b + c.toNat)) (addCarry s.cfg.xlen a b c)
    (addOverflow s.cfg.xlen a b c)

/-- The conditions of an addition. -/
def addConds (x : Xlen) (a b : Word) (c : Bool) : List AeCond := sumConds (addCarry x a b c) (addOverflow x a b c)

/-- An addition issued with operands that do not depend on SR[OVE]. -/
theorem addStep {j : Instr} {s : State} (rd : Reg) (a b : State → Word) (c : State → Bool)
    (hexec : ∀ s, exec j s = issue j s fun s => s.addOp rd (a s) (b s) (c s)) (h : Ready j s)
    (ha : a s.quiet = a s) (hb : b s.quiet = b s) (hc : c s.quiet = c s) :
    ArithStep j s (s.afterAdd rd (a s) (b s) (c s)) (addConds s.cfg.xlen (a s) (b s) (c s)) := by
  refine .of_op hexec h rfl ?_ (s.afterSum_computes _ _ _ _)
  rw [ha, hb, hc, State.afterAdd, ← State.quiet_afterSum]
  rfl

theorem lAdd_step {s : State} {rd ra rb : Reg} (h : Ready (.lAdd rd ra rb) s) :
    ArithStep (.lAdd rd ra rb) s (s.afterAdd rd (s.gpr ra) (s.gpr rb) false) (addConds s.cfg.xlen (s.gpr ra) (s.gpr rb) false) :=
  addStep rd (·.gpr ra) (·.gpr rb) (fun _ => false) (fun _ => rfl) h (s.quiet_gpr ra) (s.quiet_gpr rb) rfl

theorem lAddc_step {s : State} {rd ra rb : Reg} (h : Ready (.lAddc rd ra rb) s) :
    ArithStep (.lAddc rd ra rb) s (s.afterAdd rd (s.gpr ra) (s.gpr rb) s.carry)
      (addConds s.cfg.xlen (s.gpr ra) (s.gpr rb) s.carry) :=
  addStep rd (·.gpr ra) (·.gpr rb) (·.carry) (fun _ => rfl) h (s.quiet_gpr ra) (s.quiet_gpr rb) s.quiet_carry

theorem lAddi_step {s : State} {rd ra : Reg} {i : BitVec 16} (h : Ready (.lAddi rd ra i) s) :
    ArithStep (.lAddi rd ra i) s (s.afterAdd rd (s.gpr ra) (sext16 s.cfg.xlen i) false)
      (addConds s.cfg.xlen (s.gpr ra) (sext16 s.cfg.xlen i) false) :=
  addStep rd (·.gpr ra) (fun s => sext16 s.cfg.xlen i) (fun _ => false) (fun _ => rfl) h (s.quiet_gpr ra) rfl rfl

theorem lAddic_step {s : State} {rd ra : Reg} {i : BitVec 16} (h : Ready (.lAddic rd ra i) s) :
    ArithStep (.lAddic rd ra i) s (s.afterAdd rd (s.gpr ra) (sext16 s.cfg.xlen i) s.carry)
      (addConds s.cfg.xlen (s.gpr ra) (sext16 s.cfg.xlen i) s.carry) :=
  addStep rd (·.gpr ra) (fun s => sext16 s.cfg.xlen i) (·.carry) (fun _ => rfl) h (s.quiet_gpr ra) rfl s.quiet_carry

/-- What an addition of operands of XLEN bits writes. -/
theorem State.afterAdd_addsTo (s : State) (rd : Reg) {a b : Word} (c : Bool) (ha : trunc s.cfg.xlen a = a)
    (hb : trunc s.cfg.xlen b = b) : AddsTo s (s.afterAdd rd a b c).advance rd a b c := by
  obtain ⟨hw, hcy, hov⟩ := s.afterSum_writes rd (ofNat s.cfg.xlen (uval s.cfg.xlen a + uval s.cfg.xlen b + c.toNat))
    (addCarry s.cfg.xlen a b c) (addOverflow s.cfg.xlen a b c)
  refine ⟨hw.congr (trunc_ofNat _ _ ?_), ?_, ?_⟩
  · have hc : (if c then 1 else 0 : Word).toNat = c.toNat := by cases c <;> rfl
    rw [uval_of_trunc ha, uval_of_trunc hb, BitVec.toNat_add, BitVec.toNat_add, hc, Nat.mod_add_mod, mod_word_mod]
  · rw [State.afterAdd, hcy, addCarry, uval_of_trunc ha, uval_of_trunc hb]; rfl
  · rw [State.afterAdd, hov, addOverflow, signedOut_add]

/-- Settles O21: each form is one addition of operands of XLEN bits. -/
theorem addResults : Obligations.AddResults := by
  intro s rd ra rb i hove
  have himm : trunc s.cfg.xlen (sext16 s.cfg.xlen i) = sext16 s.cfg.xlen i := trunc_trunc _ _
  exact ⟨fun h => ⟨_, (lAdd_step h).completes hove, s.afterAdd_addsTo rd false (s.trunc_gpr ra) (s.trunc_gpr rb)⟩,
    fun h => ⟨_, (lAddc_step h).completes hove, s.afterAdd_addsTo rd _ (s.trunc_gpr ra) (s.trunc_gpr rb)⟩,
    fun h => ⟨_, (lAddi_step h).completes hove, s.afterAdd_addsTo rd false (s.trunc_gpr ra) himm⟩,
    fun h => ⟨_, (lAddic_step h).completes hove, s.afterAdd_addsTo rd _ (s.trunc_gpr ra) himm⟩⟩

/-- The borrow of a subtraction. -/
def subBorrow (x : Xlen) (a b : Word) : Bool := decide (uval x a < uval x b)

/-- The overflow of a subtraction. -/
def subOverflow (x : Xlen) (a b : Word) : Bool := signedOut x (sval x a - sval x b)

theorem lSub_step {s : State} {rd ra rb : Reg} (h : Ready (.lSub rd ra rb) s) :
    ArithStep (.lSub rd ra rb) s (s.afterSum rd (ofInt s.cfg.xlen (sval s.cfg.xlen (s.gpr ra) - sval s.cfg.xlen (s.gpr rb)))
      (subBorrow s.cfg.xlen (s.gpr ra) (s.gpr rb)) (subOverflow s.cfg.xlen (s.gpr ra) (s.gpr rb)))
      (sumConds (subBorrow s.cfg.xlen (s.gpr ra) (s.gpr rb)) (subOverflow s.cfg.xlen (s.gpr ra) (s.gpr rb))) := by
  refine .of_op (op := fun s => s.subOp rd (s.gpr ra) (s.gpr rb)) (fun _ => rfl) h rfl ?_ (s.afterSum_computes _ _ _ _)
  show s.quiet.subOp rd (s.quiet.gpr ra) (s.quiet.gpr rb) = _
  rw [State.quiet_gpr, State.quiet_gpr, ← State.quiet_afterSum]
  rfl

/-- Settles O22. -/
theorem subResult : Obligations.SubResult := by
  intro s rd ra rb hove h
  obtain ⟨hw, hcy, hov⟩ := s.afterSum_writes rd (ofInt s.cfg.xlen (sval s.cfg.xlen (s.gpr ra) - sval s.cfg.xlen (s.gpr rb)))
    (subBorrow s.cfg.xlen (s.gpr ra) (s.gpr rb)) (subOverflow s.cfg.xlen (s.gpr ra) (s.gpr rb))
  refine ⟨_, (lSub_step h).completes hove, hw.congr (trunc_ofInt _ ?_), ?_, ?_⟩
  · rw [Int.sub_emod, sval_emod, sval_emod, ← Int.sub_emod, ← emod_word_emod, ← emod_word_emod _ ((_ : Nat) : Int),
      BitVec.toNat_sub]
    have hb := (s.gpr rb).isLt
    congr 1
    push_cast
    omega
  · rw [hcy, subBorrow, uval_of_trunc (s.trunc_gpr ra), uval_of_trunc (s.trunc_gpr rb)]
  · rw [hov, subOverflow, signedOut_sub]

/-! ## Multiplication -/

/-- An exact product is the product of the operands modulo 2^XLEN. -/
theorem sval_mul_emod (x : Xlen) (a b : Word) : sval x a * sval x b % 2 ^ x.bits = ((a * b).toNat : Int) % 2 ^ x.bits := by
  rw [Int.mul_emod, sval_emod, sval_emod, ← Int.mul_emod, BitVec.toNat_mul]
  push_cast
  rw [show (18446744073709551616 : Int) = 2 ^ 64 from rfl, emod_word_emod]

/-- The overflow of a signed multiplication. -/
def mulOverflow (x : Xlen) (a b : Word) : Bool := signedOut x (sval x a * sval x b)

/-- `s` after a signed multiplication. -/
def State.afterMul (s : State) (rd : Reg) (a b : Word) : State :=
  s.afterFlag rd (ofInt s.cfg.xlen (sval s.cfg.xlen a * sval s.cfg.xlen b)) true (mulOverflow s.cfg.xlen a b)

/-- A signed multiplication with operands that do not depend on SR[OVE]. -/
theorem mulStep {j : Instr} {s : State} (rd : Reg) (a b : State → Word)
    (hexec : ∀ s, exec j s = issue j s fun s => s.mulOp rd (a s) (b s)) (h : Ready j s)
    (ha : a s.quiet = a s) (hb : b s.quiet = b s) :
    ArithStep j s (s.afterMul rd (a s) (b s)) (flagCond .ovMul true (mulOverflow s.cfg.xlen (a s) (b s))) := by
  refine .of_op hexec h rfl ?_ (s.afterFlag_computes _ _ _ _)
  rw [ha, hb, State.afterMul, ← State.quiet_afterFlag]
  rfl

theorem lMul_step {s : State} {rd ra rb : Reg} (h : Ready (.lMul rd ra rb) s) :
    ArithStep (.lMul rd ra rb) s (s.afterMul rd (s.gpr ra) (s.gpr rb))
      (flagCond .ovMul true (mulOverflow s.cfg.xlen (s.gpr ra) (s.gpr rb))) :=
  mulStep rd (·.gpr ra) (·.gpr rb) (fun _ => rfl) h (s.quiet_gpr ra) (s.quiet_gpr rb)

theorem lMuli_step {s : State} {rd ra : Reg} {i : BitVec 16} (h : Ready (.lMuli rd ra i) s) :
    ArithStep (.lMuli rd ra i) s (s.afterMul rd (s.gpr ra) (sext16 s.cfg.xlen i))
      (flagCond .ovMul true (mulOverflow s.cfg.xlen (s.gpr ra) (sext16 s.cfg.xlen i))) :=
  mulStep rd (·.gpr ra) (fun s => sext16 s.cfg.xlen i) (fun _ => rfl) h (s.quiet_gpr ra) rfl

theorem lMulu_step {s : State} {rd ra rb : Reg} (h : Ready (.lMulu rd ra rb) s) :
    ArithStep (.lMulu rd ra rb) s
      (s.afterFlag rd (ofNat s.cfg.xlen (uval s.cfg.xlen (s.gpr ra) * uval s.cfg.xlen (s.gpr rb))) false
        (unsignedOut s.cfg.xlen (uval s.cfg.xlen (s.gpr ra) * uval s.cfg.xlen (s.gpr rb))))
      (flagCond .cyMul false (unsignedOut s.cfg.xlen (uval s.cfg.xlen (s.gpr ra) * uval s.cfg.xlen (s.gpr rb)))) := by
  refine .of_op (op := fun s => s.muluOp rd (s.gpr ra) (s.gpr rb)) (fun _ => rfl) h rfl ?_ (s.afterFlag_computes _ _ _ _)
  show s.quiet.muluOp rd (s.quiet.gpr ra) (s.quiet.gpr rb) = _
  rw [State.quiet_gpr, State.quiet_gpr, ← State.quiet_afterFlag]
  rfl

theorem signedOut_iff (x : Xlen) (z : Int) : signedOut x z = true ↔ z < -(2 ^ (x.bits - 1)) ∨ 2 ^ (x.bits - 1) ≤ z :=
  decide_eq_true_iff

/-- What a signed multiplication writes. -/
theorem State.afterMul_writes (s : State) (rd : Reg) (a b : Word) :
    WritesRegSr 0x800 s (s.afterMul rd a b).advance rd (a * b) ∧
      (s.afterMul rd a b).advance.overflow = mulOverflow s.cfg.xlen a b := by
  obtain ⟨hw, hov⟩ := s.afterFlag_overflow rd (ofInt s.cfg.xlen (sval s.cfg.xlen a * sval s.cfg.xlen b)) (mulOverflow s.cfg.xlen a b)
  exact ⟨hw.congr (trunc_ofInt _ (sval_mul_emod _ _ _)), hov⟩

/-- Settles O23: products modulo 2^XLEN, and the flag of each. -/
theorem mulResults : Obligations.MulResults := by
  intro s rd ra rb i hove
  refine ⟨fun h => ?_, fun h => ?_, fun h => ?_⟩
  · obtain ⟨hw, hov⟩ := s.afterMul_writes rd (s.gpr ra) (s.gpr rb)
    exact ⟨_, (lMul_step h).completes hove, hw, by rw [hov]; exact signedOut_iff _ _⟩
  · obtain ⟨hw, hov⟩ := s.afterMul_writes rd (s.gpr ra) (sext16 s.cfg.xlen i)
    refine ⟨_, (lMuli_step h).completes hove, hw.congr (trunc_eq_of_toNat ?_), ?_⟩
    · rw [BitVec.toNat_mul, BitVec.toNat_mul, mod_word_mod, mod_word_mod, Nat.mul_mod, sext16, trunc_toNat,
        Nat.mod_mod, ← Nat.mul_mod]
    · rw [hov, mulOverflow, signedOut_iff, sval_sext16]
  · obtain ⟨hw, hcy⟩ := s.afterFlag_carry rd (ofNat s.cfg.xlen (uval s.cfg.xlen (s.gpr ra) * uval s.cfg.xlen (s.gpr rb)))
      (unsignedOut s.cfg.xlen (uval s.cfg.xlen (s.gpr ra) * uval s.cfg.xlen (s.gpr rb)))
    have ha := uval_of_trunc (s.trunc_gpr ra)
    have hb := uval_of_trunc (s.trunc_gpr rb)
    refine ⟨_, (lMulu_step h).completes hove, hw.congr (trunc_ofNat _ _ ?_), ?_⟩
    · rw [ha, hb, BitVec.toNat_mul, mod_word_mod]
    · rw [hcy, ha, hb]; exact decide_eq_true_iff

/-! ## Division -/

/-- Division by a divisor that is not zero, or by zero with some value in `rd`. -/
theorem lDiv_step {s : State} {rd ra rb : Reg} (h : Ready (.lDiv rd ra rb) s) :
    (sval s.cfg.xlen (s.gpr rb) ≠ 0 → ArithStep (.lDiv rd ra rb) s
      (s.afterFlag rd (ofInt s.cfg.xlen (Int.tdiv (sval s.cfg.xlen (s.gpr ra)) (sval s.cfg.xlen (s.gpr rb)))) true false)
      (flagCond .dbz true false)) ∧
    (sval s.cfg.xlen (s.gpr rb) = 0 → ArithStep (.lDiv rd ra rb) s (s.draw.2.afterFlag rd s.draw.1 true true)
      (flagCond .dbz true true)) := by
  have hq : s.quiet.divOp rd (s.quiet.gpr ra) (s.quiet.gpr rb) = s.quiet.divOp rd (s.gpr ra) (s.gpr rb) := by
    rw [State.quiet_gpr, State.quiet_gpr]
  refine ⟨fun hz => .of_op (op := fun s => s.divOp rd (s.gpr ra) (s.gpr rb)) (fun _ => rfl) h (if_neg hz) ?_
    (s.afterFlag_computes _ _ _ _), fun hz => .of_op (op := fun s => s.divOp rd (s.gpr ra) (s.gpr rb)) (fun _ => rfl) h
    (if_pos hz) ?_ (s.draw_computes.trans (State.afterFlag_computes _ _ _ _ _))⟩
  · rw [← State.quiet_afterFlag]
    exact hq.trans (if_neg hz)
  · rw [← State.quiet_afterFlag]
    exact hq.trans (if_pos hz)

theorem lDivu_step {s : State} {rd ra rb : Reg} (h : Ready (.lDivu rd ra rb) s) :
    (uval s.cfg.xlen (s.gpr rb) ≠ 0 → ArithStep (.lDivu rd ra rb) s
      (s.afterFlag rd (ofNat s.cfg.xlen (uval s.cfg.xlen (s.gpr ra) / uval s.cfg.xlen (s.gpr rb))) false false)
      (flagCond .dbz false false)) ∧
    (uval s.cfg.xlen (s.gpr rb) = 0 → ArithStep (.lDivu rd ra rb) s (s.draw.2.afterFlag rd s.draw.1 false true)
      (flagCond .dbz false true)) := by
  have hq : s.quiet.divuOp rd (s.quiet.gpr ra) (s.quiet.gpr rb) = s.quiet.divuOp rd (s.gpr ra) (s.gpr rb) := by
    rw [State.quiet_gpr, State.quiet_gpr]
  refine ⟨fun hz => .of_op (op := fun s => s.divuOp rd (s.gpr ra) (s.gpr rb)) (fun _ => rfl) h (if_neg hz) ?_
    (s.afterFlag_computes _ _ _ _), fun hz => .of_op (op := fun s => s.divuOp rd (s.gpr ra) (s.gpr rb)) (fun _ => rfl) h
    (if_pos hz) ?_ (s.draw_computes.trans (State.afterFlag_computes _ _ _ _ _))⟩
  · rw [← State.quiet_afterFlag]
    exact hq.trans (if_neg hz)
  · rw [← State.quiet_afterFlag]
    exact hq.trans (if_pos hz)

/-- A condition that does not hold does not trap. -/
theorem State.finishArith_of_not_holds (s : State) (b : AeBit) (isOv : Bool) :
    s.finishArith (flagCond b isOv false) = .next s.advance := by
  simp [State.finishArith, flagCond, AeCond.enabled]

/-- Settles O24: the quotient toward zero and its remainder, by `Int.tdiv` and `Int.tmod`. -/
theorem divResults : Obligations.DivResults := by
  intro s rd ra rb
  refine ⟨fun h hz => ?_, fun h hz => ?_⟩
  · obtain ⟨hw, hov⟩ := s.afterFlag_overflow rd
      (ofInt s.cfg.xlen (Int.tdiv (sval s.cfg.xlen (s.gpr ra)) (sval s.cfg.xlen (s.gpr rb)))) false
    refine ⟨_, Int.tdiv (sval s.cfg.xlen (s.gpr ra)) (sval s.cfg.xlen (s.gpr rb)),
      Int.tmod (sval s.cfg.xlen (s.gpr ra)) (sval s.cfg.xlen (s.gpr rb)),
      (((lDiv_step h).1 hz).run).trans (State.finishArith_of_not_holds _ _ _), hw.congr (trunc_trunc _ _), hov,
      (Int.mul_tdiv_add_tmod _ _).symm, ?_, Int.tmod_nonneg _, fun hneg => ?_⟩
    · rw [Int.natAbs_tmod]
      exact Nat.mod_lt _ (Int.natAbs_pos.mpr hz)
    · have := Int.tmod_nonneg (sval s.cfg.xlen (s.gpr rb)) (Int.neg_nonneg.mpr hneg)
      rw [Int.neg_tmod] at this
      omega
  · have hb : uval s.cfg.xlen (s.gpr rb) = (s.gpr rb).toNat := uval_of_trunc (s.trunc_gpr rb)
    have hz' : uval s.cfg.xlen (s.gpr rb) ≠ 0 := by
      rw [hb]
      exact fun h0 => hz (BitVec.eq_of_toNat_eq h0)
    obtain ⟨hw, hcy⟩ := s.afterFlag_carry rd (ofNat s.cfg.xlen (uval s.cfg.xlen (s.gpr ra) / uval s.cfg.xlen (s.gpr rb))) false
    refine ⟨_, uval s.cfg.xlen (s.gpr ra) / uval s.cfg.xlen (s.gpr rb), uval s.cfg.xlen (s.gpr ra) % uval s.cfg.xlen (s.gpr rb),
      (((lDivu_step h).1 hz').run).trans (State.finishArith_of_not_holds _ _ _), hw.congr (trunc_trunc _ _), hcy, ?_, ?_⟩
    · rw [← uval_of_trunc (s.trunc_gpr ra), ← hb]
      exact (Nat.div_add_mod _ _).symm
    · rw [← hb]
      exact Nat.mod_lt _ (Nat.pos_of_ne_zero hz')

/-- What writing a drawn value and a flag leaves, seen from the state before the draw. -/
theorem State.draw_writes {m : Word32} {s t : State} {rd : Reg} {v : Word} (h : WritesRegSr m s.draw.2 t rd v) :
    WritesReg s t rd v ∧ SrOutside m s t ∧ Completes s t ∧ MemSame s t ∧ t.freeCtr = s.freeCtr + 1 ∧
      t = { s.seqOf t with gprs := t.gprs, sr := t.sr, freeCtr := t.freeCtr } := by
  obtain ⟨hreg, hsr, hdone, hrest, hmem⟩ := h
  have hfree : t.freeCtr = s.freeCtr + 1 := by rw [hrest]; rfl
  refine ⟨hreg, hsr, hdone, hmem, hfree, ?_⟩
  rw [hfree]
  exact hrest

/-- Settles O25. -/
theorem divByZero : Obligations.DivByZero := by
  intro s rd ra rb hove hz
  have hsval : sval s.cfg.xlen (s.gpr rb) = 0 := by rw [hz]; cases s.cfg.xlen <;> rfl
  have huval : uval s.cfg.xlen (s.gpr rb) = 0 := by rw [hz]; cases s.cfg.xlen <;> rfl
  refine ⟨fun h => ?_, fun h => ?_⟩
  · obtain ⟨hw, hov⟩ := s.draw.2.afterFlag_overflow rd s.draw.1 true
    obtain ⟨hreg, hsr, hrest⟩ := State.draw_writes hw
    exact ⟨_, _, ((lDiv_step h).2 hsval).completes hove, hreg, hov, hsr, hrest⟩
  · obtain ⟨hw, hcy⟩ := s.draw.2.afterFlag_carry rd s.draw.1 true
    obtain ⟨hreg, hsr, hrest⟩ := State.draw_writes hw
    exact ⟨_, _, ((lDivu_step h).2 huval).completes hove, hreg, hcy, hsr, hrest⟩

/-! ## Conditional move and bit search -/

/-- The lowest one among bits `i` to `i + n - 1`. -/
theorem lowestOne_spec (v : Word) (i n : Nat) :
    (lowestOne v i n = 0 ∧ ∀ k, i ≤ k → k < i + n → v.getLsbD k = false) ∨
    (i < lowestOne v i n ∧ lowestOne v i n ≤ i + n ∧ v.getLsbD (lowestOne v i n - 1) = true ∧
      ∀ k, i ≤ k → k < lowestOne v i n - 1 → v.getLsbD k = false) := by
  induction n generalizing i with
  | zero => exact .inl ⟨rfl, fun k h1 h2 => by omega⟩
  | succ n ih =>
    rw [lowestOne]
    by_cases hb : v.getLsbD i = true
    · rw [if_pos hb]
      exact .inr ⟨by omega, by omega, hb, fun k h1 h2 => by omega⟩
    · rw [if_neg hb]
      rcases ih (i + 1) with ⟨h0, hall⟩ | ⟨hlo, hhi, hbit, hall⟩
      · refine .inl ⟨h0, fun k h1 h2 => ?_⟩
        by_cases hk : k = i
        · rw [hk]; exact Bool.eq_false_iff.mpr hb
        · exact hall k (by omega) (by omega)
      · refine .inr ⟨by omega, by omega, hbit, fun k h1 h2 => ?_⟩
        by_cases hk : k = i
        · rw [hk]; exact Bool.eq_false_iff.mpr hb
        · exact hall k (by omega) (by omega)

/-- The highest one among the low `n` bits. -/
theorem highestOne_spec (v : Word) (n : Nat) :
    (highestOne v n = 0 ∧ ∀ k, k < n → v.getLsbD k = false) ∨
    (0 < highestOne v n ∧ highestOne v n ≤ n ∧ v.getLsbD (highestOne v n - 1) = true ∧
      ∀ k, highestOne v n ≤ k → k < n → v.getLsbD k = false) := by
  induction n with
  | zero => exact .inl ⟨rfl, fun k h => by omega⟩
  | succ n ih =>
    rw [highestOne]
    by_cases hb : v.getLsbD n = true
    · rw [if_pos hb]
      exact .inr ⟨by omega, by omega, hb, fun k h1 h2 => by omega⟩
    · rw [if_neg hb]
      rcases ih with ⟨h0, hall⟩ | ⟨hpos, hle, hbit, hall⟩
      · refine .inl ⟨h0, fun k h => ?_⟩
        by_cases hk : k = n
        · rw [hk]; exact Bool.eq_false_iff.mpr hb
        · exact hall k (by omega)
      · refine .inr ⟨hpos, by omega, hbit, fun k h1 h2 => ?_⟩
        by_cases hk : k = n
        · rw [hk]; exact Bool.eq_false_iff.mpr hb
        · exact hall k h1 (by omega)

/-- An operand of XLEN bits has no others. -/
theorem getLsbD_of_trunc {x : Xlen} {v : Word} (h : trunc x v = v) {k : Nat} (hk : x.bits ≤ k) : v.getLsbD k = false :=
  Nat.testBit_eq_false_of_lt (Nat.lt_of_lt_of_le (toNat_lt_of_trunc h) (Nat.pow_le_pow_right (by decide) hk))

theorem eq_zero_of_bits {x : Xlen} {v : Word} (h : trunc x v = v) (hb : ∀ k < x.bits, v.getLsbD k = false) : v = 0 := by
  apply BitVec.eq_of_getLsbD_eq
  intro k _
  refine Eq.trans ?_ BitVec.getLsbD_zero.symm
  by_cases hk : k < x.bits
  · exact hb k hk
  · exact getLsbD_of_trunc h (by omega)

/-- Settles O26. -/
theorem moveAndFindResults : Obligations.MoveAndFindResults := by
  intro s rd ra rb
  refine ⟨fun h => ?_, fun h => ?_, fun h => ?_⟩
  · exact ⟨_, (show execLCmov rd ra rb s = _ by rw [execLCmov, issue_run h, State.writeReg_eq, State.flag]), s.writesOnly rd _⟩
  · refine ⟨_, lowestOne (s.gpr ra) 0 s.cfg.xlen.bits,
      (show execLFf1 rd ra s = _ by rw [execLFf1, issue_run h, State.writeReg_eq]), s.writesOnly rd _, ?_⟩
    rcases lowestOne_spec (s.gpr ra) 0 s.cfg.xlen.bits with ⟨h0, hall⟩ | ⟨hpos, hle, hbit, hall⟩
    · exact .inl ⟨eq_zero_of_bits (s.trunc_gpr ra) fun k hk => hall k (by omega) (by omega), h0⟩
    · exact .inr ⟨hpos, by omega, hbit, fun k hk => hall k (by omega) hk⟩
  · refine ⟨_, highestOne (s.gpr ra) s.cfg.xlen.bits,
      (show execLFl1 rd ra s = _ by rw [execLFl1, issue_run h, State.writeReg_eq]), s.writesOnly rd _, ?_⟩
    rcases highestOne_spec (s.gpr ra) s.cfg.xlen.bits with ⟨h0, hall⟩ | ⟨hpos, hle, hbit, hall⟩
    · exact .inl ⟨eq_zero_of_bits (s.trunc_gpr ra) hall, h0⟩
    · refine .inr ⟨hpos, hle, hbit, fun k hk => ?_⟩
      by_cases hlt : k < s.cfg.xlen.bits
      · exact hall k hk hlt
      · exact getLsbD_of_trunc (s.trunc_gpr ra) (by omega)

end Sys2Proof.Machine
end

section
/-! PROOFS. Multiply-accumulate, and the Range exception of arithmetic (40_orbis_arith.md R352, R366-R375). -/

namespace Sys2Proof.Machine

/-! ## Accumulating -/

/-- `s` after a signed accumulation to the exact value `z`. -/
def State.afterMac (s : State) (z : Int) : State := s.afterAcc (BitVec.ofInt 64 z) true (signedOut64 z)

/-- The condition of a signed accumulation to the exact value `z`. -/
def macCond (z : Int) : List AeCond := flagCond .ovMacAdd true (signedOut64 z)

/-- A signed accumulation to a value that does not depend on SR[OVE]. -/
theorem accSignedStep {j : Instr} {s : State} (z : State → Int) (hexec : ∀ s, exec j s = issue j s fun s => s.accSigned (z s))
    (h : Ready j s) (hz : z s.quiet = z s) : ArithStep j s (s.afterMac (z s)) (macCond (z s)) := by
  refine .of_op hexec h rfl ?_ (s.afterAcc_computes _ _ _)
  rw [hz, State.afterMac, ← State.quiet_afterAcc]
  rfl

/-- An unsigned accumulation to a value that does not depend on SR[OVE]. -/
theorem accUnsignedStep {j : Instr} {s : State} (v : State → Word) (cy : State → Bool)
    (hexec : ∀ s, exec j s = issue j s fun s => s.accUnsigned (v s) (cy s)) (h : Ready j s) (hv : v s.quiet = v s)
    (hcy : cy s.quiet = cy s) :
    ArithStep j s (s.afterAcc (v s) false (cy s)) (flagCond .cyMacAdd false (cy s)) := by
  refine .of_op hexec h rfl ?_ (s.afterAcc_computes _ _ _)
  rw [hv, hcy, ← State.quiet_afterAcc]
  rfl

theorem State.quiet_productS (s : State) (ra rb : Reg) :
    s.quiet.productS (s.quiet.gpr ra) (s.quiet.gpr rb) = s.productS (s.gpr ra) (s.gpr rb) := by
  rw [State.quiet_gpr, State.quiet_gpr]; rfl

theorem State.quiet_productU (s : State) (ra rb : Reg) :
    s.quiet.productU (s.quiet.gpr ra) (s.quiet.gpr rb) = s.productU (s.gpr ra) (s.gpr rb) := by
  rw [State.quiet_gpr, State.quiet_gpr]; rfl

/-- The exact value of `l.mac`. -/
def State.macValue (ra rb : Reg) (s : State) : Int := s.acc.toInt + (s.productS (s.gpr ra) (s.gpr rb)).toInt

/-- The exact value of `l.maci`. -/
def State.maciValue (ra : Reg) (i : BitVec 16) (s : State) : Int :=
  s.acc.toInt + (s.productS (s.gpr ra) (sext16 s.cfg.xlen i)).toInt

/-- The exact value of `l.msb`. -/
def State.msbValue (ra rb : Reg) (s : State) : Int := s.acc.toInt - (s.productS (s.gpr ra) (s.gpr rb)).toInt

/-- The carry of `l.macu`. -/
def State.macuCarry (ra rb : Reg) (s : State) : Bool :=
  decide (s.acc.toNat + (s.productU (s.gpr ra) (s.gpr rb)).toNat ≥ 2 ^ 64)

/-- The borrow of `l.msbu`. -/
def State.msbuBorrow (ra rb : Reg) (s : State) : Bool := decide (s.acc.toNat < (s.productU (s.gpr ra) (s.gpr rb)).toNat)

theorem lMac_step {s : State} {ra rb : Reg} (h : Ready (.lMac ra rb) s) :
    ArithStep (.lMac ra rb) s (s.afterMac (s.macValue ra rb)) (macCond (s.macValue ra rb)) :=
  accSignedStep (State.macValue ra rb) (fun _ => rfl) h (by rw [State.macValue, s.quiet_productS]; rfl)

theorem lMaci_step {s : State} {ra : Reg} {i : BitVec 16} (h : Ready (.lMaci ra i) s) :
    ArithStep (.lMaci ra i) s (s.afterMac (s.maciValue ra i)) (macCond (s.maciValue ra i)) :=
  accSignedStep (State.maciValue ra i) (fun _ => rfl) h (by rw [State.maciValue, State.quiet_gpr]; rfl)

theorem lMsb_step {s : State} {ra rb : Reg} (h : Ready (.lMsb ra rb) s) :
    ArithStep (.lMsb ra rb) s (s.afterMac (s.msbValue ra rb)) (macCond (s.msbValue ra rb)) :=
  accSignedStep (State.msbValue ra rb) (fun _ => rfl) h (by rw [State.msbValue, s.quiet_productS]; rfl)

theorem lMacu_step {s : State} {ra rb : Reg} (h : Ready (.lMacu ra rb) s) :
    ArithStep (.lMacu ra rb) s (s.afterAcc (s.acc + s.productU (s.gpr ra) (s.gpr rb)) false (s.macuCarry ra rb))
      (flagCond .cyMacAdd false (s.macuCarry ra rb)) :=
  accUnsignedStep (fun s => s.acc + s.productU (s.gpr ra) (s.gpr rb)) (State.macuCarry ra rb) (fun _ => rfl) h
    (congrArg (s.acc + ·) (s.quiet_productU ra rb)) (by rw [State.macuCarry, s.quiet_productU]; rfl)

theorem lMsbu_step {s : State} {ra rb : Reg} (h : Ready (.lMsbu ra rb) s) :
    ArithStep (.lMsbu ra rb) s (s.afterAcc (s.acc - s.productU (s.gpr ra) (s.gpr rb)) false (s.msbuBorrow ra rb))
      (flagCond .cyMacAdd false (s.msbuBorrow ra rb)) :=
  accUnsignedStep (fun s => s.acc - s.productU (s.gpr ra) (s.gpr rb)) (State.msbuBorrow ra rb) (fun _ => rfl) h
    (congrArg (s.acc - ·) (s.quiet_productU ra rb)) (by rw [State.msbuBorrow, s.quiet_productU]; rfl)

theorem signBit_msb (v : Word) : signBit .x64 v = v.msb := (BitVec.msb_eq_getLsbD_last v).symm

/-- The accumulator after an exact sum, and whether it fits. -/
theorem State.afterMac_add (s : State) (a p : Word) :
    WritesAcc 0x800 s (s.afterMac (a.toInt + p.toInt)).advance (a + p) ∧
      (s.afterMac (a.toInt + p.toInt)).advance.overflow = (a.msb == p.msb && (a + p).msb != a.msb) := by
  have hv : BitVec.ofInt 64 (a.toInt + p.toInt) = a + p := by
    rw [BitVec.ofInt_add, BitVec.ofInt_toInt, BitVec.ofInt_toInt]
  have hout : signedOut64 (a.toInt + p.toInt) = (a.msb == p.msb && (a + p).msb != a.msb) := by
    have h := signedOut_add .x64 a p false
    have hz : a + p + (if false then 1 else 0) = a + p := BitVec.add_zero _
    rw [hz, signBit_msb, signBit_msb, signBit_msb] at h
    exact (congrArg signedOut64 (Int.add_zero (a.toInt + p.toInt)).symm).trans h
  obtain ⟨hw, hov⟩ := s.afterAcc_overflow (BitVec.ofInt 64 (a.toInt + p.toInt)) (signedOut64 (a.toInt + p.toInt))
  rw [hv] at hw
  exact ⟨by rw [State.afterMac, hv]; exact hw, hov.trans hout⟩

/-- The accumulator after an exact difference, and whether it fits. -/
theorem State.afterMac_sub (s : State) (a p : Word) :
    WritesAcc 0x800 s (s.afterMac (a.toInt - p.toInt)).advance (a - p) ∧
      (s.afterMac (a.toInt - p.toInt)).advance.overflow = (a.msb != p.msb && (a - p).msb != a.msb) := by
  have hv : BitVec.ofInt 64 (a.toInt - p.toInt) = a - p := by
    rw [Int.sub_eq_add_neg, BitVec.ofInt_add, BitVec.ofInt_neg, BitVec.ofInt_toInt, BitVec.ofInt_toInt, ← BitVec.sub_eq_add_neg]
  have hout : signedOut64 (a.toInt - p.toInt) = (a.msb != p.msb && (a - p).msb != a.msb) := by
    have h := signedOut_sub .x64 a p
    rw [signBit_msb, signBit_msb, signBit_msb] at h
    exact h
  obtain ⟨hw, hov⟩ := s.afterAcc_overflow (BitVec.ofInt 64 (a.toInt - p.toInt)) (signedOut64 (a.toInt - p.toInt))
  rw [hv] at hw
  exact ⟨by rw [State.afterMac, hv]; exact hw, hov.trans hout⟩

theorem State.productU_gpr (s : State) (ra rb : Reg) :
    s.productU (s.gpr ra) (s.gpr rb) = BitVec.ofNat 64 ((s.gpr ra).toNat * (s.gpr rb).toNat) := by
  rw [State.productU, uval_of_trunc (s.trunc_gpr ra), uval_of_trunc (s.trunc_gpr rb)]

/-- A 64-bit sum carries exactly where it wraps below its first operand. -/
theorem add_carry_iff (a p : Word) : 2 ^ 64 ≤ a.toNat + p.toNat ↔ (a + p).toNat < a.toNat := by
  have ha := a.isLt
  have hp := p.isLt
  rw [BitVec.toNat_add]
  omega

/-- Settles O28: signed forms by the exact sum or difference, unsigned ones modulo 2^64. -/
theorem macResults : Obligations.MacResults := by
  intro s ra rb i hove acc p pi pu
  have hpi : s.productS (s.gpr ra) (sext16 s.cfg.xlen i) = pi := by rw [State.productS, sval_sext16]
  have hpu : s.productU (s.gpr ra) (s.gpr rb) = pu := s.productU_gpr ra rb
  refine ⟨fun h => ?_, fun h => ?_, fun h => ?_, fun h => ?_, fun h => ?_⟩
  · exact ⟨_, (lMac_step h).completes hove, s.afterMac_add acc p⟩
  · refine ⟨_, (lMaci_step h).completes hove, ?_⟩
    rw [State.maciValue, hpi]
    exact s.afterMac_add acc pi
  · exact ⟨_, (lMsb_step h).completes hove, s.afterMac_sub acc p⟩
  · obtain ⟨hw, hcy⟩ := s.afterAcc_carry (acc + pu) (s.macuCarry ra rb)
    refine ⟨_, (lMacu_step h).completes hove, ?_⟩
    rw [hpu]
    refine ⟨hw, hcy.trans ?_⟩
    rw [State.macuCarry, hpu]
    exact decide_eq_decide.mpr (add_carry_iff acc pu)
  · obtain ⟨hw, hcy⟩ := s.afterAcc_carry (acc - pu) (s.msbuBorrow ra rb)
    refine ⟨_, (lMsbu_step h).completes hove, ?_⟩
    rw [hpu]
    refine ⟨hw, hcy.trans ?_⟩
    rw [State.msbuBorrow, hpu]
    rfl

/-! ## Moving the accumulator -/

/-- The exact product of `l.muld`. -/
def State.muldValue (ra rb : Reg) (s : State) : Int := sval s.cfg.xlen (s.gpr ra) * sval s.cfg.xlen (s.gpr rb)

/-- The exact product of `l.muldu`. -/
def State.mulduValue (ra rb : Reg) (s : State) : Nat := uval s.cfg.xlen (s.gpr ra) * uval s.cfg.xlen (s.gpr rb)

theorem lMuld_step {s : State} {ra rb : Reg} (h : Ready (.lMuld ra rb) s) :
    ArithStep (.lMuld ra rb) s (s.afterMac (s.muldValue ra rb)) (flagCond .ovMul true (signedOut64 (s.muldValue ra rb))) := by
  have hq : s.quiet.muldValue ra rb = s.muldValue ra rb := by
    rw [State.muldValue, State.quiet_gpr, State.quiet_gpr]; rfl
  refine .of_op (op := fun s => (s.afterMac (s.muldValue ra rb)).finishArith
    (flagCond .ovMul true (signedOut64 (s.muldValue ra rb)))) (fun _ => rfl) h rfl ?_ (s.afterAcc_computes _ _ _)
  rw [hq, State.afterMac, State.afterMac, ← State.quiet_afterAcc]

theorem lMuldu_step {s : State} {ra rb : Reg} (h : Ready (.lMuldu ra rb) s) :
    ArithStep (.lMuldu ra rb) s
      (s.afterAcc (BitVec.ofNat 64 (s.mulduValue ra rb)) false (decide (s.mulduValue ra rb ≥ 2 ^ 64)))
      (flagCond .cyMul false (decide (s.mulduValue ra rb ≥ 2 ^ 64))) := by
  have hq : s.quiet.mulduValue ra rb = s.mulduValue ra rb := by
    rw [State.mulduValue, State.quiet_gpr, State.quiet_gpr]; rfl
  refine .of_op (op := fun s => (s.afterAcc (BitVec.ofNat 64 (s.mulduValue ra rb)) false
    (decide (s.mulduValue ra rb ≥ 2 ^ 64))).finishArith (flagCond .cyMul false (decide (s.mulduValue ra rb ≥ 2 ^ 64))))
    (fun _ => rfl) h rfl ?_ (s.afterAcc_computes _ _ _)
  rw [hq, ← State.quiet_afterAcc]

/-- A product of two signed 32-bit values fits 64 bits. -/
theorem muldValue_fits {s : State} (hx : s.cfg.xlen = .x32) (ra rb : Reg) : signedOut64 (s.muldValue ra rb) = false := by
  have bounds : ∀ v : Word, -(2 ^ 31) ≤ sval .x32 v ∧ sval .x32 v ≤ 2 ^ 31 := fun v => by
    have h1 := BitVec.le_toInt (x := (v.setWidth 32 : Word32))
    have h2 := BitVec.toInt_lt (x := (v.setWidth 32 : Word32))
    exact ⟨h1, le_of_lt h2⟩
  have habs : |sval .x32 (s.gpr ra) * sval .x32 (s.gpr rb)| ≤ 2 ^ 31 * 2 ^ 31 := by
    rw [abs_mul]
    exact mul_le_mul (abs_le.mpr (bounds _)) (abs_le.mpr (bounds _)) (abs_nonneg _) (by decide)
  rw [State.muldValue, hx, signedOut64, decide_eq_false_iff_not]
  obtain ⟨hlo, hhi⟩ := abs_le.mp habs
  omega

/-- The value of `l.macrc` modulo 2^XLEN. -/
theorem trunc_macrc (s : State) :
    trunc s.cfg.xlen (match s.cfg.xlen with | .x32 => zext32 s.maclo | .x64 => s.acc) = trunc s.cfg.xlen (s.machi ++ s.maclo) := by
  cases s.cfg.xlen
  · show ((s.maclo.setWidth 64).setWidth 32 : Word32).setWidth 64 = ((s.machi ++ s.maclo : Word).setWidth 32 : Word32).setWidth 64
    congr 1
    apply BitVec.eq_of_getLsbD_eq
    intro k hk
    simp only [BitVec.getLsbD_setWidth, hk, decide_true, Bool.true_and]
    rw [BitVec.getLsbD_append, if_pos hk, decide_eq_true (by omega), Bool.true_and]
  · rfl

/-- `l.macrc` writes the accumulator to `rd` and clears it. -/
theorem lMacrc_writes (s : State) (rd : Reg) (v : Word) :
    let t := ((s.setGpr rd v).setAcc 0).advance
    WritesReg s t rd v ∧ t.machi = 0 ∧ t.maclo = 0 ∧ Completes s t ∧ MemSame s t ∧
      t = { s.seqOf t with gprs := t.gprs, machi := 0, maclo := 0 } := by
  intro t
  have hgprs : t.gprs = (s.setGpr rd v).gprs := by simp [t]
  refine ⟨⟨?_, fun j hj => ?_⟩, ?_, ?_, ?_, fun a => by simp [t], ?_⟩
  · rw [State.gprAt_congr hgprs (by simp [t]), State.gprAt_setGpr, if_pos rfl]
  · rw [State.gprAt_congr hgprs (by simp [t]), State.gprAt_setGpr, if_neg hj]
  · exact State.advance_machi _
  · exact State.advance_maclo _
  · simp [Completes, t]
  · have hseq : t = ((s.setGpr rd v).setAcc 0).seqOf t := State.advance_seq _
    have hs : s.setGpr rd v = { s with gprs := (s.setGpr rd v).gprs } := by
      unfold State.setGpr State.setGprAt
      split <;> rfl
    rw [hgprs]
    clear_value t
    rw [hs] at hseq
    exact hseq

/-- Settles O29. -/
theorem accumulatorMoves : Obligations.AccumulatorMoves := by
  intro s rd ra rb p
  refine ⟨fun h => ?_, fun h hove => ?_, fun h hove => ?_⟩
  · obtain ⟨⟨hreg, hrest⟩, hall⟩ := lMacrc_writes s rd (match s.cfg.xlen with | .x32 => zext32 s.maclo | .x64 => s.acc)
    rw [trunc_macrc] at hreg
    refine ⟨_, ?_, ⟨hreg, hrest⟩, hall⟩
    show execLMacrc rd s = _
    rw [execLMacrc]
    exact issue_run h _
  · obtain ⟨hw, hov⟩ := s.afterAcc_overflow (BitVec.ofInt 64 p) (signedOut64 p)
    refine ⟨_, (lMuld_step h).completes hove, hw, ?_, fun hx => hov.trans (muldValue_fits hx ra rb)⟩
    rw [show (s.afterMac (s.muldValue ra rb)).advance.overflow = _ from hov]
    exact decide_eq_true_iff
  · obtain ⟨hw, hcy⟩ := s.afterAcc_carry (BitVec.ofNat 64 (s.mulduValue ra rb)) (decide (s.mulduValue ra rb ≥ 2 ^ 64))
    have hv : s.mulduValue ra rb = (s.gpr ra).toNat * (s.gpr rb).toNat := by
      rw [State.mulduValue, uval_of_trunc (s.trunc_gpr ra), uval_of_trunc (s.trunc_gpr rb)]
    refine ⟨_, (lMuldu_step h).completes hove, ?_, hcy.trans ?_⟩
    · rw [← hv]; exact hw
    · rw [hv]

end Sys2Proof.Machine
end

section
/-! PROOFS. The Range exception of arithmetic (40_orbis_arith.md R352, 10_state.md R99, R100). -/

namespace Sys2Proof.Machine

/-! ## The conditions as bits of AECR -/

/-- The AECR bit of a condition that is enabled. -/
def condBit (s : State) (c : AeCond) : Word32 := if c.enabled s then 1#32 <<< c.bit.pos else 0

/-- The AECR bits of the conditions that are enabled. -/
def condBits (s : State) (cs : List AeCond) : Word32 := cs.foldr (fun c w => condBit s c ||| w) 0

theorem setBit_true (w : Word32) (n : Nat) : setBit w n true = w ||| (1#32 <<< n) := rfl

/-- AESR gets the bits of the enabled conditions. -/
theorem recordAe_aesr (s : State) (cs : List AeCond) (w : Word32) :
    cs.foldl (fun w c => if c.enabled s then setBit w c.bit.pos true else w) w = w ||| condBits s cs := by
  induction cs generalizing w with
  | nil => exact BitVec.or_zero.symm
  | cons c cs ih =>
    have hstep : (if c.enabled s then setBit w c.bit.pos true else w) = w ||| condBit s c := by
      unfold condBit
      split
      · rfl
      · exact BitVec.or_zero.symm
    rw [List.foldl_cons, ih, hstep, BitVec.or_assoc]
    rfl

theorem one_shiftLeft_ne_zero {n : Nat} (h : n < 32) : (1#32 <<< n) ≠ 0 := by
  intro h0
  have := congrArg (fun w => BitVec.getLsbD w n) h0
  simp [h] at this

theorem or_eq_zero_iff (v w : Word32) : v ||| w = 0 ↔ v = 0 ∧ w = 0 := by
  refine ⟨fun h => ?_, fun ⟨hv, hw⟩ => by rw [hv, hw]; rfl⟩
  have hbit : ∀ k, v.getLsbD k = false ∧ w.getLsbD k = false := fun k => by
    have := congrArg (fun w => BitVec.getLsbD w k) h
    simpa [BitVec.getLsbD_or] using this
  exact ⟨BitVec.eq_of_getLsbD_eq fun k _ => (hbit k).1.trans BitVec.getLsbD_zero.symm,
    BitVec.eq_of_getLsbD_eq fun k _ => (hbit k).2.trans BitVec.getLsbD_zero.symm⟩

/-- A condition is enabled exactly where one of the bits is set. -/
theorem condBits_eq_zero (s : State) (cs : List AeCond) : condBits s cs = 0 ↔ cs.any (fun c => c.enabled s) = false := by
  induction cs with
  | nil => exact ⟨fun _ => rfl, fun _ => rfl⟩
  | cons c cs ih =>
    have hc : condBit s c = 0 ↔ c.enabled s = false := by
      unfold condBit
      cases c.enabled s
      · simp
      · simpa using one_shiftLeft_ne_zero (show c.bit.pos < 32 by have := c.bit.pos_lt; omega)
    rw [List.any_cons, Bool.or_eq_false_iff, ← ih, ← hc]
    exact or_eq_zero_iff _ _

/-- The bits that the flags of `v` raise where a condition on the overflow is `onOv` and one on the carry is `onCy`. -/
def raisedBits (ov cy : Bool) (onOv onCy : Word32) : Word32 := (if ov then onOv else 0) ||| (if cy then onCy else 0)

/-- Of those, the ones that are enabled: by AECR, or without it the overflow alone. -/
def enabledBits (s : State) (ov cy : Bool) (onOv onCy : Word32) : Word32 :=
  if s.cfg.hasAecr then raisedBits ov cy onOv onCy &&& s.aecr else if ov then onOv else 0

theorem shiftLeft_and (w : Word32) {n : Nat} (h : n < 32) : (1#32 <<< n) &&& w = if w.getLsbD n then 1#32 <<< n else 0 := by
  apply BitVec.eq_of_getLsbD_eq
  intro k hk
  have hone : (1#32 <<< n).getLsbD k = decide (k = n) := by
    rw [Bool.eq_iff_iff]
    rw [BitVec.getLsbD_shiftLeft, BitVec.getLsbD_one]
    simp [hk]
    omega
  rw [BitVec.getLsbD_and, hone]
  by_cases hkn : k = n
  · subst hkn
    cases hw : w.getLsbD k
    · exact (Bool.and_false _).trans BitVec.getLsbD_zero.symm
    · simpa using hone
  · rw [decide_eq_false hkn, Bool.false_and]
    split
    · rw [hone, decide_eq_false hkn]
    · exact BitVec.getLsbD_zero.symm

/-- The bit of one condition with SR[OVE] = 1. -/
theorem condBit_eq {s : State} (hove : s.ove = true) (c : AeCond) :
    condBit s c = if s.cfg.hasAecr then (if c.holds then 1#32 <<< c.bit.pos else 0) &&& s.aecr
      else if c.holds && c.isOv then 1#32 <<< c.bit.pos else 0 := by
  unfold condBit AeCond.enabled
  rw [hove]
  cases s.cfg.hasAecr
  · cases c.holds <;> simp
  · cases c.holds
    · simp
    · have hlt : c.bit.pos < 32 := by have := c.bit.pos_lt; omega
      simp only [if_true, Bool.true_and]
      exact (shiftLeft_and s.aecr hlt).symm

/-- The bits of an addition or subtraction. -/
theorem sumConds_bits {s : State} (hove : s.ove = true) (cy ov : Bool) :
    condBits s (sumConds cy ov) = enabledBits s ov cy 0x02 0x01 := by
  show condBit s _ ||| (condBit s _ ||| 0) = _
  have hzero : ∀ w : Word32, w ||| (0 : Word32) = w := fun w => BitVec.or_zero
  rw [hzero, condBit_eq hove, condBit_eq hove]
  unfold enabledBits raisedBits
  cases s.cfg.hasAecr
  · simp only [Bool.false_eq_true, if_false, Bool.and_true, Bool.and_false, hzero]
    rfl
  · simp only [if_true]
    rw [← BitVec.and_or_distrib_right]
    rfl

/-- The bits of an instruction that may set one flag. -/
theorem flagCond_bits {s : State} (hove : s.ove = true) (b : AeBit) (other holds : Bool) :
    condBits s (flagCond b true holds) = enabledBits s holds other (1#32 <<< b.pos) 0 ∧
    condBits s (flagCond b false holds) = enabledBits s other holds 0 (1#32 <<< b.pos) := by
  have hzero : ∀ w : Word32, (0 : Word32) ||| w = w := fun w => BitVec.zero_or
  have hzero' : ∀ w : Word32, w ||| (0 : Word32) = w := fun w => BitVec.or_zero
  refine ⟨?_, ?_⟩
  · show condBit s _ ||| 0 = _
    rw [hzero', condBit_eq hove]
    unfold enabledBits raisedBits
    cases other <;> simp only [Bool.and_true, hzero', ite_self]
  · show condBit s _ ||| 0 = _
    rw [hzero', condBit_eq hove]
    unfold enabledBits raisedBits
    cases other <;> simp only [Bool.and_false, Bool.false_eq_true, if_false, hzero, ite_self]

/-! ## The state that traps -/

/-- SR[OVE] set again after an instruction that ran with it clear. -/
theorem State.quiet_restore {w : State} (h : w.ove = true) :
    { w.quiet.advance with sr := w.quiet.advance.sr ||| 0x1000 } = w.advance := by
  have hsr : w.quiet.sr ||| 0x1000 = w.sr := by
    apply BitVec.eq_of_getLsbD_eq
    intro k hk
    have hbit : (0x1000 : Word32).getLsbD k = decide (k = 12) := by revert k; decide
    rw [BitVec.getLsbD_or, hbit]
    by_cases h12 : k = 12
    · rw [h12]; exact (Bool.or_true _).trans h.symm
    · rw [decide_eq_false h12, Bool.or_false, w.quiet_getLsbD hk h12]
  rw [State.advance_sr, hsr]
  unfold State.advance
  show { (if w.dsPending then _ else _ : State) with sr := w.sr } = _
  split <;> rfl

/-- Computing leaves the sequencing of `pc`. -/
theorem Computes.seqOf {s w : State} (h : Computes s w) : w.advance.seqOf s = w := by
  have hseq := State.advance_seq w
  rw [hseq, h.rest]
  rfl

theorem Computes.redirects {s w : State} (h : Computes s w) (x : Exc) : w.redirects x = s.redirects x := by
  rw [h.rest]
  rfl

theorem Computes.entryCtx {s w : State} (h : Computes s w) : w.entryCtx = s.entryCtx := by
  have hcid : w.sr.extractLsb' 28 4 = s.sr.extractLsb' 28 4 := h.sr.extractLsb' (by decide) (by decide)
  have h8 : w.sr.getLsbD 8 = s.sr.getLsbD 8 := h.sr.getLsbD (by decide) (by decide)
  rw [entryCtx_eq, entryCtx_eq, hcid, h8, h.cfg]

theorem Computes.epcFor {s w : State} (h : Computes s w) (x : Exc) : w.epcFor x = s.epcFor x := by
  rw [h.rest]
  rfl

/-- AESR with the bits of the enabled conditions. -/
theorem State.recordAe_eq (w : State) (cs : List AeCond) :
    w.recordAe cs = { w with aesr := if w.cfg.hasAecr then w.aesr ||| condBits w cs else w.aesr } := by
  unfold State.recordAe
  rw [recordAe_aesr]
  split <;> rfl

theorem Computes.aesr_eq {s w : State} (h : Computes s w) (hw : w.aesr = s.aesr) (b : Word32) :
    { w with aesr := if w.cfg.hasAecr then w.aesr ||| b else w.aesr } =
      { w with aesr := if s.cfg.hasAecr then s.aesr ||| b else s.aesr } := by
  rw [h.cfg, hw]

theorem zext32_flags (v : Word32) : (zext32 v).extractLsb' 10 2 = v.extractLsb' 10 2 := by
  apply BitVec.eq_of_getLsbD_eq
  intro k hk
  rw [BitVec.getLsbD_extractLsb', BitVec.getLsbD_extractLsb', zext32, BitVec.getLsbD_setWidth, decide_eq_true (by omega : 10 + k < 64),
    Bool.true_and]

theorem State.quiet_flags (w : State) : w.sr.extractLsb' 10 2 = w.quiet.advance.sr.extractLsb' 10 2 := by
  rw [State.advance_sr]
  apply BitVec.eq_of_getLsbD_eq
  intro k hk
  rw [BitVec.getLsbD_extractLsb', BitVec.getLsbD_extractLsb', w.quiet_getLsbD (by omega) (by omega)]

/-- With SR[OVE] = 1 instruction `j` writes as with SR[OVE] = 0, then raises Range where a flag that it names is enabled: those of `onOv` with
its overflow, those of `onCy` with its carry. -/
def TrapsAs (j : Instr) (s : State) (onOv onCy : Word32) : Prop :=
  ∃ v, exec j s.quiet = .next v ∧
    (let enabled := enabledBits s v.overflow v.carry onOv onCy
     let done := { v with sr := v.sr ||| 0x1000 }
     (enabled = 0 → exec j s = .next done) ∧
     (enabled ≠ 0 → s.redirects .range = false →
       ∃ t u, exec j s = .next t ∧ Enters u t .range 0 ∧
         u = { done.seqOf s with aesr := if s.cfg.hasAecr then s.aesr ||| enabled else s.aesr } ∧
         (t.esr.at s.entryCtx).extractLsb' 10 2 = v.sr.extractLsb' 10 2 ∧
         t.epcr.at s.entryCtx = trunc s.cfg.xlen (if s.dsPending then s.pc - 4 else s.pc)))

/-- With SR[OVE] = 1 an arithmetic instruction writes as with SR[OVE] = 0, and raises Range where a condition is enabled. -/
theorem ArithStep.traps {j : Instr} {s w : State} {cs : List AeCond} {onOv onCy : Word32} (h : ArithStep j s w cs)
    (hove : s.ove = true) (haesr : w.aesr = s.aesr)
    (hbits : condBits w cs = enabledBits s w.overflow w.carry onOv onCy) :
    TrapsAs j s onOv onCy := by
  refine ⟨w.quiet.advance, h.runQuiet.trans (State.finishArith_of_ove w.quiet_ove cs), ?_⟩
  have hov : w.quiet.advance.overflow = w.overflow := by
    rw [State.overflow, State.advance_sr]; exact w.quiet_overflow
  have hcy : w.quiet.advance.carry = w.carry := by
    rw [State.carry, State.advance_sr]; exact w.quiet_carry
  rw [hov, hcy, ← hbits, State.quiet_restore (h.writes.ove.trans hove)]
  intro enabled done
  have hrun : exec j s = if cs.any (fun c => c.enabled w) then .next ((w.recordAe cs).enter .range 0) else .next w.advance := h.run
  refine ⟨fun hz => ?_, fun hz hx => ?_⟩
  · rw [hrun, (condBits_eq_zero w cs).mp hz]
    rfl
  · have hany : cs.any (fun c => c.enabled w) = true := by
      rw [← Bool.not_eq_false]
      exact fun hf => hz ((condBits_eq_zero w cs).mpr hf)
    have hu : w.recordAe cs = { done.seqOf s with aesr := if s.cfg.hasAecr then s.aesr ||| enabled else s.aesr } := by
      rw [h.writes.seqOf, w.recordAe_eq]
      exact h.writes.aesr_eq haesr _
    have hux : (w.recordAe cs).redirects .range = false := by
      rw [w.recordAe_eq]
      exact (h.writes.redirects .range).trans hx
    have hctx : (w.recordAe cs).entryCtx = s.entryCtx := by
      rw [w.recordAe_eq]
      exact h.writes.entryCtx
    refine ⟨(w.recordAe cs).enter .range 0, w.recordAe cs, by rw [hrun, hany]; rfl, State.enters_enter hux 0, hu, ?_, ?_⟩
    · rw [State.enter_eq hux, ← hctx]
      refine (congrArg (BitVec.extractLsb' 10 2) (Bank.at_put_self _ _ _)).trans ?_
      rw [zext32_flags, w.recordAe_eq]
      exact w.quiet_flags
    · rw [State.enter_eq hux, ← hctx]
      refine (Bank.at_put_self _ _ _).trans ?_
      rw [w.recordAe_eq]
      exact h.writes.epcFor .range

/-- An addition or subtraction traps by its overflow and its carry. -/
theorem ArithStep.traps_sum {j : Instr} {s : State} {rd : Reg} {v : Word} {cy ov : Bool}
    (h : ArithStep j s (s.afterSum rd v cy ov) (sumConds cy ov)) (hove : s.ove = true) : TrapsAs j s 0x02 0x01 := by
  have haecr : (s.afterSum rd v cy ov).aecr = s.aecr := by simp [State.afterSum]
  refine h.traps hove (by simp [State.afterSum]) ?_
  rw [sumConds_bits (h.writes.ove.trans hove)]
  unfold enabledBits
  rw [h.writes.cfg, haecr]
  simp [State.afterSum]

/-- An instruction that may set the overflow traps by it alone. -/
theorem ArithStep.traps_overflow {j : Instr} {s w : State} {b : AeBit} {ov : Bool} (h : ArithStep j s w (flagCond b true ov))
    (hove : s.ove = true) (haesr : w.aesr = s.aesr) (haecr : w.aecr = s.aecr) (hov : w.overflow = ov) :
    TrapsAs j s (1#32 <<< b.pos) 0 := by
  refine h.traps hove haesr ?_
  rw [(flagCond_bits (h.writes.ove.trans hove) b w.carry ov).1]
  unfold enabledBits
  rw [h.writes.cfg, haecr, hov]

/-- An instruction that may set the carry traps by it alone. -/
theorem ArithStep.traps_carry {j : Instr} {s w : State} {b : AeBit} {cy : Bool} (h : ArithStep j s w (flagCond b false cy))
    (hove : s.ove = true) (haesr : w.aesr = s.aesr) (haecr : w.aecr = s.aecr) (hcy : w.carry = cy) :
    TrapsAs j s 0 (1#32 <<< b.pos) := by
  refine h.traps hove haesr ?_
  rw [(flagCond_bits (h.writes.ove.trans hove) b w.overflow cy).2]
  unfold enabledBits
  rw [h.writes.cfg, haecr, hcy]

theorem State.afterFlag_overflow_traps {j : Instr} {s u : State} {rd : Reg} {v : Word} {b : AeBit} {ov : Bool}
    (h : ArithStep j s (u.afterFlag rd v true ov) (flagCond b true ov)) (hove : s.ove = true) (haesr : u.aesr = s.aesr)
    (haecr : u.aecr = s.aecr) {on : Word32} (hon : 1#32 <<< b.pos = on) : TrapsAs j s on 0 :=
  hon ▸ h.traps_overflow hove (by simp [State.afterFlag, haesr]) (by simp [State.afterFlag, haecr]) (by simp [State.afterFlag])

theorem State.afterFlag_carry_traps {j : Instr} {s u : State} {rd : Reg} {v : Word} {b : AeBit} {cy : Bool}
    (h : ArithStep j s (u.afterFlag rd v false cy) (flagCond b false cy)) (hove : s.ove = true) (haesr : u.aesr = s.aesr)
    (haecr : u.aecr = s.aecr) {on : Word32} (hon : 1#32 <<< b.pos = on) : TrapsAs j s 0 on :=
  hon ▸ h.traps_carry hove (by simp [State.afterFlag, haesr]) (by simp [State.afterFlag, haecr]) (by simp [State.afterFlag])

theorem State.afterAcc_overflow_traps {j : Instr} {s : State} {v : Word} {b : AeBit} {ov : Bool}
    (h : ArithStep j s (s.afterAcc v true ov) (flagCond b true ov)) (hove : s.ove = true) {on : Word32}
    (hon : 1#32 <<< b.pos = on) : TrapsAs j s on 0 :=
  hon ▸ h.traps_overflow hove (by simp [State.afterAcc]) (by simp [State.afterAcc]) (by simp [State.afterAcc])

theorem State.afterAcc_carry_traps {j : Instr} {s : State} {v : Word} {b : AeBit} {cy : Bool}
    (h : ArithStep j s (s.afterAcc v false cy) (flagCond b false cy)) (hove : s.ove = true) {on : Word32}
    (hon : 1#32 <<< b.pos = on) : TrapsAs j s 0 on :=
  hon ▸ h.traps_carry hove (by simp [State.afterAcc]) (by simp [State.afterAcc]) (by simp [State.afterAcc])

theorem lDiv_traps {s : State} {rd ra rb : Reg} (h : Ready (.lDiv rd ra rb) s) (hove : s.ove = true) :
    TrapsAs (.lDiv rd ra rb) s 0x10 0 := by
  by_cases hz : sval s.cfg.xlen (s.gpr rb) = 0
  · exact State.afterFlag_overflow_traps ((lDiv_step h).2 hz) hove rfl rfl (by decide)
  · exact State.afterFlag_overflow_traps ((lDiv_step h).1 hz) hove rfl rfl (by decide)

theorem lDivu_traps {s : State} {rd ra rb : Reg} (h : Ready (.lDivu rd ra rb) s) (hove : s.ove = true) :
    TrapsAs (.lDivu rd ra rb) s 0 0x10 := by
  by_cases hz : uval s.cfg.xlen (s.gpr rb) = 0
  · exact State.afterFlag_carry_traps ((lDivu_step h).2 hz) hove rfl rfl (by decide)
  · exact State.afterFlag_carry_traps ((lDivu_step h).1 hz) hove rfl rfl (by decide)

/-- Settles O27: each instruction by the state that it writes before it may trap. -/
theorem overflowTraps : Obligations.OverflowTraps := by
  intro s rd ra rb i hove
  exact ⟨fun h => (lAdd_step h).traps_sum hove, fun h => (lAddc_step h).traps_sum hove, fun h => (lAddi_step h).traps_sum hove,
    fun h => (lAddic_step h).traps_sum hove, fun h => (lSub_step h).traps_sum hove,
    fun h => State.afterFlag_overflow_traps (lMul_step h) hove rfl rfl (by decide),
    fun h => State.afterFlag_overflow_traps (lMuli_step h) hove rfl rfl (by decide),
    fun h => State.afterAcc_overflow_traps (lMuld_step h) hove (by decide),
    fun h => State.afterFlag_carry_traps (lMulu_step h) hove rfl rfl (by decide),
    fun h => State.afterAcc_carry_traps (lMuldu_step h) hove (by decide),
    fun h => lDiv_traps h hove, fun h => lDivu_traps h hove,
    fun h => State.afterAcc_overflow_traps (lMac_step h) hove (by decide), fun h => State.afterAcc_overflow_traps (lMaci_step h) hove (by decide),
    fun h => State.afterAcc_overflow_traps (lMsb_step h) hove (by decide), fun h => State.afterAcc_carry_traps (lMacu_step h) hove (by decide),
    fun h => State.afterAcc_carry_traps (lMsbu_step h) hove (by decide)⟩

end Sys2Proof.Machine
end

section
/-! PROOFS. The families 41_orbis_logic_shift.md and 42_orbis_compare.md: logic, shifts, extensions and compares. -/

namespace Sys2Proof.Machine

/-! ## Instructions that write one register, or SR[F] -/

/-- An instruction that writes one register and completes. -/
theorem writes_of_issue {j : Instr} {s : State} {rd : Reg} (v : State → Word)
    (hexec : ∀ s, exec j s = issue j s fun s => s.writeReg rd (v s)) (h : Ready j s) :
    ∃ t, exec j s = .next t ∧ WritesOnly s t rd (v s) :=
  ⟨_, by rw [hexec, issue_run h, State.writeReg_eq], s.writesOnly rd _⟩

/-- The same with a property of the value. -/
theorem writes_value_of_issue {j : Instr} {s : State} {rd : Reg} {p : Word → Prop} (v : State → Word)
    (hexec : ∀ s, exec j s = issue j s fun s => s.writeReg rd (v s)) (h : Ready j s) (hp : p (v s)) :
    ∃ t w, exec j s = .next t ∧ WritesOnly s t rd w ∧ p w := by
  obtain ⟨t, ht, hw⟩ := writes_of_issue v hexec h
  exact ⟨t, v s, ht, hw, hp⟩

/-- An instruction that writes SR[F] and completes. -/
theorem flags_of_issue {j : Instr} {s : State} (b : State → Bool) (hexec : ∀ s, exec j s = issue j s fun s => s.writeFlag (b s))
    (h : Ready j s) {c : Bool} (hc : b s = c) : ∃ t, exec j s = .next t ∧ WritesFlag s t c :=
  ⟨(s.setFlag (b s)).advance, by rw [hexec, issue_run h]; rfl, hc ▸ s.writesFlag (b s)⟩

/-! ## The low bits of a value -/

theorem trunc_getLsbD (x : Xlen) (v : Word) {k : Nat} (hk : k < x.bits) : (trunc x v).getLsbD k = v.getLsbD k := by
  cases x
  · have hk32 : k < 32 := hk
    simp only [trunc, BitVec.getLsbD_setWidth, hk32, decide_true, Bool.true_and]
    rw [decide_eq_true (by omega), Bool.true_and]
  · rfl

/-- Values with the same low XLEN bits are the same there. -/
theorem trunc_ext {x : Xlen} {v w : Word} (h : ∀ k < x.bits, v.getLsbD k = w.getLsbD k) : trunc x v = trunc x w := by
  apply BitVec.eq_of_getLsbD_eq
  intro k _
  by_cases hk : k < x.bits
  · rw [trunc_getLsbD x v hk, trunc_getLsbD x w hk, h k hk]
  · rw [getLsbD_of_trunc (trunc_trunc x v) (by omega), getLsbD_of_trunc (trunc_trunc x w) (by omega)]

/-! ## Logic -/

/-- Settles O30. -/
theorem logicResults : Obligations.LogicResults := by
  intro s rd ra rb k
  refine ⟨fun h => ?_, fun h => ?_, fun h => ?_, fun h => ?_, fun h => ?_, fun h => ?_⟩
  · exact writes_of_issue (fun s => s.gpr ra &&& s.gpr rb) (fun _ => rfl) h
  · exact writes_of_issue (fun s => s.gpr ra ||| s.gpr rb) (fun _ => rfl) h
  · exact writes_of_issue (fun s => s.gpr ra ^^^ s.gpr rb) (fun _ => rfl) h
  · exact writes_of_issue (fun s => s.gpr ra &&& zext16 k) (fun _ => rfl) h
  · exact writes_of_issue (fun s => s.gpr ra ||| zext16 k) (fun _ => rfl) h
  · obtain ⟨t, ht, hw⟩ := writes_of_issue (fun s => s.gpr ra ^^^ sext16 s.cfg.xlen k) (fun _ => rfl) h
    refine ⟨t, ht, hw.congr (trunc_ext fun n hn => ?_)⟩
    rw [BitVec.getLsbD_xor, BitVec.getLsbD_xor, sext16, trunc_getLsbD _ _ hn]

/-! ## Shifts and rotates -/

theorem ofNat_getLsbD (x : Xlen) (n : Nat) {k : Nat} (hk : k < x.bits) : (ofNat x n).getLsbD k = n.testBit k := by
  have h64 : k < 64 := Nat.lt_of_lt_of_le hk (Xlen.bits_le x)
  rw [ofNat, trunc_getLsbD x _ hk, BitVec.getLsbD_ofNat, decide_eq_true h64, Bool.true_and]

theorem shiftAmount_eq (x : Xlen) (v : Word) : shiftAmount x v = v.toNat % x.bits := by cases x <;> rfl

theorem shiftAmount_lt (x : Xlen) (v : Word) : shiftAmount x v < x.bits := by
  rw [shiftAmount_eq]
  exact Nat.mod_lt _ (by cases x <;> decide)

theorem immAmount_eq (x : Xlen) (l : BitVec 6) : immAmount x l = l.toNat % x.bits := by
  rw [immAmount, shiftAmount_eq, BitVec.toNat_setWidth_of_le (by decide)]

section Shifts

variable {x : Xlen} {a : Word} (ha : trunc x a = a) (n : Nat)
include ha

/-- A shift to the left, bit by bit. -/
theorem shiftLeft_bits : ∀ k < x.bits, (shiftLeft x a n).getLsbD k = (decide (n ≤ k) && a.getLsbD (k - n)) := by
  intro k hk
  rw [shiftLeft, ofNat_getLsbD x _ hk, uval_of_trunc ha, Nat.testBit_mul_two_pow]
  rfl

/-- A shift to the right with zero fill, bit by bit. -/
theorem shiftRight_bits : ∀ k < x.bits, (shiftRight x a n).getLsbD k = (decide (k + n < x.bits) && a.getLsbD (k + n)) := by
  intro k hk
  rw [shiftRight, ofNat_getLsbD x _ hk, uval_of_trunc ha, Nat.testBit_div_two_pow]
  by_cases hlt : k + n < x.bits
  · rw [decide_eq_true hlt, Bool.true_and]; rfl
  · rw [decide_eq_false hlt, Bool.false_and]
    exact getLsbD_of_trunc ha (by omega)

/-- A shift to the right with sign fill, bit by bit. -/
theorem shiftRightArith_bits : ∀ k < x.bits, (shiftRightArith x a n).getLsbD k = a.getLsbD (min (k + n) (x.bits - 1)) := by
  have fill : ∀ {w : Nat} (v : BitVec w) (k : Nat), 0 < w → w ≤ 64 → k < w →
      (BitVec.ofInt 64 (v.toInt / 2 ^ n)).getLsbD k = v.getLsbD (min (k + n) (w - 1)) := by
    intro w v k hw h64 hk
    have hint : v.toInt / 2 ^ n = (v.sshiftRight n).toInt := by
      rw [BitVec.toInt_sshiftRight, Int.shiftRight_eq_div_pow]
      push_cast
      rfl
    rw [hint]
    show ((v.sshiftRight n).signExtend 64).getLsbD k = _
    rw [BitVec.getLsbD_signExtend, decide_eq_true (by omega : k < 64), Bool.true_and, if_pos hk, BitVec.getLsbD_sshiftRight,
      decide_eq_false (by omega), Bool.not_false, Bool.true_and]
    by_cases hlt : n + k < w
    · rw [if_pos hlt, Nat.min_eq_left (by omega), Nat.add_comm]
    · rw [if_neg hlt, Nat.min_eq_right (by omega), BitVec.msb_eq_getLsbD_last]
  intro k hk
  rw [shiftRightArith, ofInt, trunc_getLsbD x _ hk]
  cases x with
  | x32 =>
    have h := fill (a.setWidth 32 : Word32) k (by decide) (by decide) hk
    rw [BitVec.getLsbD_setWidth, decide_eq_true (by omega), Bool.true_and] at h
    exact h
  | x64 => exact fill a k (by decide) (by decide) hk

/-- A rotation to the right, bit by bit. -/
theorem rotateRight_bits (hn : n < x.bits) :
    ∀ k < x.bits, (rotateRight x a n).getLsbD k = a.getLsbD ((k + n) % x.bits) := by
  intro k hk
  have hu : uval x a < 2 ^ x.bits := by rw [uval_eq]; exact Nat.mod_lt _ (Nat.two_pow_pos _)
  have hlow : uval x a / 2 ^ n < 2 ^ (x.bits - n) := by
    rw [Nat.div_lt_iff_lt_mul (Nat.two_pow_pos _), ← Nat.pow_add, Nat.sub_add_cancel (le_of_lt hn)]
    exact hu
  rw [rotateRight, ofNat_getLsbD x _ hk, Nat.add_comm, Nat.mul_comm, Nat.testBit_two_pow_mul_add _ hlow, Nat.testBit_div_two_pow,
    Nat.testBit_mod_two_pow, uval_of_trunc ha]
  by_cases hlt : k < x.bits - n
  · rw [if_pos hlt, Nat.mod_eq_of_lt (by omega)]; rfl
  · have hmod : (k + n) % x.bits = k - (x.bits - n) := by
      rw [Nat.mod_eq_sub_mod (by omega), Nat.mod_eq_of_lt (by omega)]
      omega
    rw [if_neg hlt, decide_eq_true (by omega), Bool.true_and, hmod]
    rfl

end Shifts

/-- Settles O31: the four operations bit by bit, with the amount in rB or in the L field. -/
theorem shiftResults : Obligations.ShiftResults := by
  intro s rd ra rb l w a n m sll srl sra ror
  have ha : trunc s.cfg.xlen a = a := s.trunc_gpr ra
  have hn : shiftAmount s.cfg.xlen (s.gpr rb) = n := shiftAmount_eq _ _
  have hm : immAmount s.cfg.xlen l = m := immAmount_eq _ _
  have hnlt : n < w := hn ▸ shiftAmount_lt _ _
  have hmlt : m < w := hm ▸ shiftAmount_lt _ _
  refine ⟨fun h => ?_, fun h => ?_, fun h => ?_, fun h => ?_, fun h => ?_, fun h => ?_, fun h => ?_, fun h => ?_⟩
  · exact writes_value_of_issue (p := (sll · n)) (fun s => shiftLeft s.cfg.xlen (s.gpr ra) (shiftAmount s.cfg.xlen (s.gpr rb)))
      (fun _ => rfl) h (hn ▸ shiftLeft_bits ha _)
  · exact writes_value_of_issue (p := (sll · m)) (fun s => shiftLeft s.cfg.xlen (s.gpr ra) (immAmount s.cfg.xlen l))
      (fun _ => rfl) h (hm ▸ shiftLeft_bits ha _)
  · exact writes_value_of_issue (p := (srl · n)) (fun s => shiftRight s.cfg.xlen (s.gpr ra) (shiftAmount s.cfg.xlen (s.gpr rb)))
      (fun _ => rfl) h (hn ▸ shiftRight_bits ha _)
  · exact writes_value_of_issue (p := (srl · m)) (fun s => shiftRight s.cfg.xlen (s.gpr ra) (immAmount s.cfg.xlen l))
      (fun _ => rfl) h (hm ▸ shiftRight_bits ha _)
  · exact writes_value_of_issue (p := (sra · n))
      (fun s => shiftRightArith s.cfg.xlen (s.gpr ra) (shiftAmount s.cfg.xlen (s.gpr rb)))
      (fun _ => rfl) h (hn ▸ shiftRightArith_bits ha _)
  · exact writes_value_of_issue (p := (sra · m)) (fun s => shiftRightArith s.cfg.xlen (s.gpr ra) (immAmount s.cfg.xlen l))
      (fun _ => rfl) h (hm ▸ shiftRightArith_bits ha _)
  · exact writes_value_of_issue (p := (ror · n)) (fun s => rotateRight s.cfg.xlen (s.gpr ra) (shiftAmount s.cfg.xlen (s.gpr rb)))
      (fun _ => rfl) h (hn ▸ rotateRight_bits ha _ (hn ▸ hnlt))
  · exact writes_value_of_issue (p := (ror · m)) (fun s => rotateRight s.cfg.xlen (s.gpr ra) (immAmount s.cfg.xlen l))
      (fun _ => rfl) h (hm ▸ rotateRight_bits ha _ (hm ▸ hmlt))

/-! ## Extensions -/

/-- The low `n` bits sign-extended, bit by bit. -/
theorem signExtend_bits (x : Xlen) (a : Word) {n : Nat} (hn : 0 < n) (h64 : n ≤ 64) :
    ∀ j < x.bits, (trunc x ((a.extractLsb' 0 n).signExtend 64)).getLsbD j = a.getLsbD (min j (n - 1)) := by
  intro j hj
  have h := Nat.lt_of_lt_of_le hj (Xlen.bits_le x)
  rw [trunc_getLsbD x _ hj, BitVec.getLsbD_signExtend, decide_eq_true h, Bool.true_and]
  by_cases hlt : j < n
  · rw [if_pos hlt, BitVec.getLsbD_extractLsb', decide_eq_true hlt, Bool.true_and, Nat.zero_add, Nat.min_eq_left (by omega)]
  · rw [if_neg hlt, BitVec.msb_eq_getLsbD_last, BitVec.getLsbD_extractLsb', decide_eq_true (by omega), Bool.true_and, Nat.zero_add,
      Nat.min_eq_right (by omega)]

/-- The low `n` bits zero-extended, bit by bit. -/
theorem zeroExtend_bits (a : Word) (n : Nat) (x : Xlen) :
    ∀ j < x.bits, ((a.extractLsb' 0 n).setWidth 64 : Word).getLsbD j = (decide (j < n) && a.getLsbD j) := by
  intro j hj
  have h := Nat.lt_of_lt_of_le hj (Xlen.bits_le x)
  rw [BitVec.getLsbD_setWidth, decide_eq_true h, Bool.true_and, BitVec.getLsbD_extractLsb', Nat.zero_add]

theorem lo32_eq (a : Word) : lo32 a = a.extractLsb' 0 32 := BitVec.setWidth_eq_extractLsb' (by decide)

/-- Settles O32. -/
theorem extendResults : Obligations.ExtendResults := by
  intro s rd ra k a sext zext
  refine ⟨fun h => ?_, fun h => ?_, fun h => ?_, fun h => ?_, fun h => ?_, fun h => ?_, fun h => ?_⟩
  · exact writes_value_of_issue (p := (sext · 8)) (fun s => sextByte s.cfg.xlen (s.gpr ra)) (fun _ => rfl) h
      (signExtend_bits _ _ (by decide) (by decide))
  · exact writes_value_of_issue (p := (zext · 8)) (fun s => zextByte (s.gpr ra)) (fun _ => rfl) h (zeroExtend_bits _ _ _)
  · exact writes_value_of_issue (p := (sext · 16)) (fun s => sextHalf s.cfg.xlen (s.gpr ra)) (fun _ => rfl) h
      (signExtend_bits _ _ (by decide) (by decide))
  · exact writes_value_of_issue (p := (zext · 16)) (fun s => zextHalf (s.gpr ra)) (fun _ => rfl) h (zeroExtend_bits _ _ _)
  · refine writes_value_of_issue (p := (sext · 32)) (fun s => sext32 s.cfg.xlen (lo32 (s.gpr ra))) (fun _ => rfl) h ?_
    rw [lo32_eq]
    exact signExtend_bits _ _ (by decide) (by decide)
  · refine writes_value_of_issue (p := (zext · 32)) (fun s => zext32 (lo32 (s.gpr ra))) (fun _ => rfl) h ?_
    rw [lo32_eq]
    exact zeroExtend_bits _ _ _
  · exact writes_of_issue (fun _ => zext16 k <<< 16) (fun _ => rfl) h

/-! ## Compares -/

/-- Settles O33: operands of XLEN bits compare as their numbers. -/
theorem unsignedCompares : Obligations.UnsignedCompares := by
  intro s ra rb i a b c
  have ha : uval s.cfg.xlen (s.gpr ra) = a := uval_of_trunc (s.trunc_gpr ra)
  have hb : uval s.cfg.xlen (s.gpr rb) = b := uval_of_trunc (s.trunc_gpr rb)
  have hc : uval s.cfg.xlen (sext16 s.cfg.xlen i) = c := uval_of_trunc (trunc_trunc _ _)
  have run {j : Instr} {p : Nat → Nat → Bool} {op : State → Word} {n : Nat} {q : Bool} (hexec : ∀ s, exec j s = issue j s fun s =>
      s.cmpU p (s.gpr ra) (op s)) (hop : uval s.cfg.xlen (op s) = n) (hq : p a n = q) (h : Ready j s) :
      ∃ t, exec j s = .next t ∧ WritesFlag s t q :=
    flags_of_issue (fun s => p (uval s.cfg.xlen (s.gpr ra)) (uval s.cfg.xlen (op s))) hexec h (by
      show p (uval s.cfg.xlen (s.gpr ra)) (uval s.cfg.xlen (op s)) = q
      rw [ha, hop, hq])
  have hne : ∀ n, (a != n) = decide (a ≠ n) := fun n => by rw [bne, decide_not]; rfl
  exact ⟨run (fun _ => rfl) hb rfl, run (fun _ => rfl) hb (hne b), run (fun _ => rfl) hb rfl, run (fun _ => rfl) hb rfl,
    run (fun _ => rfl) hb rfl, run (fun _ => rfl) hb rfl, run (fun _ => rfl) hc rfl, run (fun _ => rfl) hc (hne c),
    run (fun _ => rfl) hc rfl, run (fun _ => rfl) hc rfl, run (fun _ => rfl) hc rfl, run (fun _ => rfl) hc rfl⟩

/-- The signed order by the signs, and by the unsigned order where they are equal. -/
theorem sval_lt {x : Xlen} {u v : Word} (hu : trunc x u = u) (hv : trunc x v = v) :
    decide (sval x u < sval x v) = if signBit x u = signBit x v then decide (u.toNat < v.toNat) else signBit x u := by
  have hu' := toNat_lt_of_trunc hu
  have hv' := toNat_lt_of_trunc hv
  rw [sval_eq, sval_eq, signBit_eq, signBit_eq, Nat.mod_eq_of_lt hu', Nat.mod_eq_of_lt hv']
  simp only [decide_eq_decide]
  by_cases hsign : 2 ^ (x.bits - 1) ≤ u.toNat ↔ 2 ^ (x.bits - 1) ≤ v.toNat
  · rw [if_pos hsign, decide_eq_decide]
    cases x
    · simp only [Xlen.bits] at *; split_ifs <;> omega
    · simp only [Xlen.bits] at *; split_ifs <;> omega
  · rw [if_neg hsign, decide_eq_decide]
    cases x
    · simp only [Xlen.bits] at *; split_ifs <;> omega
    · simp only [Xlen.bits] at *; split_ifs <;> omega

/-- Settles O34. -/
theorem signedCompares : Obligations.SignedCompares := by
  intro s ra rb i a b c lt
  have ha : trunc s.cfg.xlen a = a := s.trunc_gpr ra
  have hb : trunc s.cfg.xlen b = b := s.trunc_gpr rb
  have hc : trunc s.cfg.xlen c = c := trunc_trunc _ _
  have hlt : ∀ {u v}, trunc s.cfg.xlen u = u → trunc s.cfg.xlen v = v → decide (sval s.cfg.xlen u < sval s.cfg.xlen v) = lt u v :=
    fun hu hv => sval_lt hu hv
  have hge : ∀ {u v}, trunc s.cfg.xlen u = u → trunc s.cfg.xlen v = v →
      decide (sval s.cfg.xlen v ≤ sval s.cfg.xlen u) = !lt u v := fun hu hv => by
    rw [← hlt hu hv, ← decide_not]
    exact decide_eq_decide.mpr Int.not_lt.symm
  have run {j : Instr} {p : Int → Int → Bool} {op : State → Word} {q : Bool} (hexec : ∀ s, exec j s = issue j s fun s =>
      s.cmpS p (s.gpr ra) (op s)) (hq : p (sval s.cfg.xlen a) (sval s.cfg.xlen (op s)) = q) (h : Ready j s) :
      ∃ t, exec j s = .next t ∧ WritesFlag s t q :=
    flags_of_issue (fun s => p (sval s.cfg.xlen (s.gpr ra)) (sval s.cfg.xlen (op s))) hexec h hq
  exact ⟨run (fun _ => rfl) (hlt hb ha), run (fun _ => rfl) (hge ha hb), run (fun _ => rfl) (hlt ha hb),
    run (fun _ => rfl) (hge hb ha), run (fun _ => rfl) (hlt hc ha), run (fun _ => rfl) (hge ha hc),
    run (fun _ => rfl) (hlt ha hc), run (fun _ => rfl) (hge hc ha)⟩

end Sys2Proof.Machine
end

section
/-! PROOFS. The family 43_orbis_loadstore.md: loads and stores that have their effect, and the atomic pair. -/

namespace Sys2Proof.Machine

/-! ## Loads -/

/-- A translated access records page history and changes nothing else. -/
theorem translate_state {s : State} {k : Access} {ea : Word} {n : Nat} {l : Located} (h : translate s k ea n = .ok l) :
    ∃ d da i ia, l.state = { s with dtlbtr := d, datbtr := da, itlbtr := i, iatbtr := ia } := by
  rcases translate_ok h with ⟨_, rfl⟩ | ⟨_, e, _, hs, _⟩
  · exact ⟨_, _, _, _, rfl⟩
  · exact ⟨_, _, _, _, hs.trans (State.touch_rest s k e)⟩

/-- What is left where a load writes `v` after its translation. -/
theorem loadsTo_of_translate {s : State} {k : Access} {ea : Word} {n : Nat} {l : Located} (h : translate s k ea n = .ok l)
    (rd : Reg) (v : Word) : LoadsTo s (l.state.setGpr rd v).advance l rd v := by
  obtain ⟨as, c, ci, u⟩ := l
  obtain ⟨d, da, i, ia, hu⟩ := translate_state h
  obtain rfl := hu
  exact State.writesOnly _ rd v

/-- A load that reads the value `v` and has its register completes. -/
theorem load_of_issue {j : Instr} {s : State} {rd ra : Reg} {i : BitVec 16} {n v : Nat} {ext : Nat → Word} {l : Located}
    (hexec : ∀ s, exec j s = issue j s fun s => s.loadOp rd ra i n ext) (hr : s.regMissing rd = false)
    (hm : misaligned s (trunc s.cfg.xlen (s.gpr ra + i.signExtend 64)) n = false)
    (hl : locate s .load (trunc s.cfg.xlen (s.gpr ra + i.signExtend 64)) n = .ok l)
    (hv : s.loadPhys l.addrs l.cached = .ok v) (h : Ready j s) :
    ∃ t, exec j s = .next t ∧ LoadsTo s t l rd (ext v) := by
  have hread : s.memRead (s.effAddr ra i) n = .ok (v, l) := by
    simp only [State.memRead, effAddr_eq, hm, hl, hv, Bool.false_eq_true, if_false]
  refine ⟨_, ?_, loadsTo_of_translate (locate_ok hl).1 rd (ext v)⟩
  rw [hexec, issue_run h, State.loadOp, hread]
  exact if_neg (by rw [hr]; decide)

/-- A load of plain memory. -/
theorem load_of_reaches {j : Instr} {s : State} {rd ra : Reg} {i : BitVec 16} {n : Nat} {ext : Nat → Word} {l : Located}
    (hexec : ∀ s, exec j s = issue j s fun s => s.loadOp rd ra i n ext) (hr : s.regMissing rd = false) (h : Ready j s)
    (hreach : Reaches s .load (trunc s.cfg.xlen (s.gpr ra + i.signExtend 64)) n l) :
    ∃ t, exec j s = .next t ∧ LoadsTo s t l rd (ext (ofBytes (operandOrder s (l.addrs.map s.mem.read)))) := by
  obtain ⟨hm, hl, ho⟩ := hreach
  rw [operandOrder_eq]
  exact load_of_issue hexec hr hm hl (State.loadPhys_ram ho _) h

/-- Settles O35. -/
theorem loadResults : Obligations.LoadResults := by
  intro s rd ra i l hr
  refine ⟨load_of_reaches (ext := zextLoad) (fun _ => rfl) hr, load_of_reaches (ext := sextLoad 8) (fun _ => rfl) hr,
    load_of_reaches (ext := zextLoad) (fun _ => rfl) hr, load_of_reaches (ext := sextLoad 16) (fun _ => rfl) hr,
    load_of_reaches (ext := zextLoad) (fun _ => rfl) hr, load_of_reaches (ext := sextLoad 32) (fun _ => rfl) hr,
    load_of_reaches (ext := zextLoad) (fun _ => rfl) hr, ?_⟩
  intro b n hb hn hm hl hc h
  have hload : ∀ d < 2, l.addrs = [b + 8 * n + 4 * d, b + 8 * n + 4 * d + 1, b + 8 * n + 4 * d + 2, b + 8 * n + 4 * d + 3] →
      s.loadPhys l.addrs l.cached = .ok (if d = 1 then (s.ompic.getD n 0 &&& 0x7FFFFFFF).toNat else 0) := by
    intro d hd ha
    rw [ha, hc]
    exact State.loadPhys_ompic hb hn hd
  refine ⟨fun ha => ?_, fun ha => ?_⟩
  · have he : zextLoad (s.ompic.getD n 0 &&& 0x7FFFFFFF).toNat = zext32 (s.ompic.getD n 0 &&& 0x7FFFFFFF) := by
      rw [zextLoad, BitVec.ofNat_toNat]
      rfl
    rw [← he]
    exact load_of_issue (fun _ => rfl) hr hm hl (hload 1 (by decide) ha) h
  · exact load_of_issue (ext := zextLoad) (fun _ => rfl) hr hm hl (hload 0 (by decide) ha) h

/-! ## Stores -/

theorem State.dataOrder_dataOrder (s : State) (bs : List Byte) : s.dataOrder (s.dataOrder bs) = bs := by
  unfold State.dataOrder
  split
  · exact List.reverse_reverse bs
  · rfl

@[simp] theorem State.length_dataOrder (s : State) (bs : List Byte) : (s.dataOrder bs).length = bs.length := by
  unfold State.dataOrder
  split
  · exact List.length_reverse
  · rfl

/-- A store that is done where it is located, and has its register, completes. -/
theorem store_of_issue {j : Instr} {s t : State} {ra rb : Reg} {i : BitVec 16} {n : Nat} {l : Located}
    (hexec : ∀ s, exec j s = issue j s fun s => s.storeOp ra rb i n) (hr : s.regMissing rb = false)
    (hm : misaligned s (trunc s.cfg.xlen (s.gpr ra + i.signExtend 64)) n = false)
    (hl : locate s .store (trunc s.cfg.xlen (s.gpr ra + i.signExtend 64)) n = .ok l)
    (ht : l.state.storePhys l.addrs (s.gpr rb) l.cached = .ok t) (h : Ready j s) : exec j s = .next t.advance := by
  have hwrite : s.memWrite (s.effAddr ra i) n (s.gpr rb) = .ok t := by
    simp only [State.memWrite, effAddr_eq, hm, hl, ht, Bool.false_eq_true, if_false]
  rw [hexec, issue_run h, State.storeOp, hwrite]
  exact if_neg (by rw [hr]; decide)

/-- The bytes of a value written at the bytes `as` read back as it, and no other byte changes. -/
theorem State.stored_reads (s : State) {as : List Nat} (v : Word) (hwf : s.mem.wf = true) :
    (as.Nodup → ofBytes (operandOrder s (as.map (s.mem.writeAll (as.zip (s.dataOrder (toBytes as.length v)))).read)) =
      v.toNat % 2 ^ (8 * as.length)) ∧
    ∀ a, a ∉ as → (s.mem.writeAll (as.zip (s.dataOrder (toBytes as.length v)))).read a = s.mem.read a := by
  refine ⟨fun hn => ?_, fun a ha => Memory.read_writeAll_outside hwf _ fun c hc e => ?_⟩
  · rw [Memory.read_writeAll_zip hwf hn (by simp), operandOrder_eq, State.dataOrder_dataOrder, ofBytes_toBytes]
  · exact ha (e ▸ (List.of_mem_zip (a := c.1) (b := c.2) hc).1)

/-- A store to plain memory. -/
theorem store_of_reaches {j : Instr} {s : State} {ra rb : Reg} {i : BitVec 16} {n : Nat} {l : Located}
    (hexec : ∀ s, exec j s = issue j s fun s => s.storeOp ra rb i n) (hr : s.regMissing rb = false) (hwf : s.mem.wf = true)
    (h : Ready j s) (hreach : Reaches s .store (trunc s.cfg.xlen (s.gpr ra + i.signExtend 64)) n l) :
    ∃ t, exec j s = .next t ∧ StoresTo s t l n (s.gpr rb) := by
  obtain ⟨hm, hl, ho⟩ := hreach
  have htr := (locate_ok hl).1
  have hlen := translate_length htr
  have ht := State.storePhys_ram (s := l.state) (by rw [translate_cfg htr]; exact ho) (s.gpr rb) l.cached
  refine ⟨_, store_of_issue hexec hr hm hl ht h, ?_⟩
  obtain ⟨as, c, ci, u⟩ := l
  obtain ⟨d, da, i, ia, hu⟩ := translate_state htr
  obtain rfl := hu
  obtain rfl := hlen
  obtain ⟨hback, hother⟩ := s.stored_reads (as := as) (s.gpr rb) hwf
  refine ⟨fun hn => ?_, fun a ha => ?_, ?_, ?_, State.completes_advance _, ?_⟩
  · rw [State.advance_mem]
    exact hback hn
  · rw [State.advance_mem]
    exact hother a ha
  · rw [State.advance_resv]
  · rw [State.advance_stale]
    rfl
  · rw [State.advance_mem, State.advance_resv, State.advance_stale]
    exact State.advance_seq _

/-! ## Stores to the OMPIC -/

theorem getD_modify (st : List Word32) (i j : Nat) (f : Word32 → Word32) (hj : j < st.length) :
    (st.modify i f).getD j 0 = if i = j then f (st.getD j 0) else st.getD j 0 := by
  rw [List.getD_eq_getElem?_getD, List.getElem?_modify, List.getD_eq_getElem?_getD, List.getElem?_eq_getElem hj]
  split <;> rfl

theorem low16_eq (v : Word32) : (v.extractLsb' 0 16).setWidth 32 = v &&& 0xFFFF := by
  apply BitVec.eq_of_toNat_eq
  have h : v.toNat &&& (0xFFFF : Word32).toNat = v.toNat % 65536 := Nat.and_two_pow_sub_one_eq_mod v.toNat 16
  simp only [BitVec.toNat_setWidth, BitVec.extractLsb'_toNat, BitVec.toNat_and, Nat.shiftRight_zero, h]
  omega

/-- What a store to an OMPIC control register leaves in the status registers. -/
theorem ompicControl_getD (st : List Word32) (i j : Nat) (v : Word32) (hj : j < st.length) :
    (ompicControl st i v).getD j 0 =
      if v.getLsbD 30 && decide ((v.extractLsb' 16 14).toNat = j) then
        0x40000000 ||| BitVec.ofNat 32 (i % 2 ^ 14) <<< 16 ||| (v &&& 0xFFFF)
      else if v.getLsbD 31 && decide (j = i) then st.getD j 0 &&& 0xBFFFFFFF else st.getD j 0 := by
  have hack : (if v.getLsbD 31 then st.modify i (fun w => setBit w 30 false) else st).getD j 0 =
      if v.getLsbD 31 && decide (j = i) then st.getD j 0 &&& 0xBFFFFFFF else st.getD j 0 := by
    cases v.getLsbD 31
    · rfl
    · rw [if_pos rfl, getD_modify st i j _ hj, Bool.true_and]
      simp only [decide_eq_true_eq, eq_comm (a := i)]
      rfl
  unfold ompicControl
  rw [← hack, ← low16_eq]
  cases v.getLsbD 30
  · rfl
  · rw [if_pos rfl, getD_modify _ _ _ _ (by split <;> simpa using hj), Bool.true_and]
    simp only [decide_eq_true_eq]
    rfl

/-- A store to an OMPIC register, the `d`-th word of core `n`'s pair. -/
theorem State.storePhys_ompic {s : State} {b n d : Nat} (hb : s.cfg.ompicBase = some b) (hn : n < s.cfg.numCores) (hd : d < 2)
    {as : List Nat} (has : as = [b + 8 * n + 4 * d, b + 8 * n + 4 * d + 1, b + 8 * n + 4 * d + 2, b + 8 * n + 4 * d + 3])
    (v : Word) :
    s.storePhys as v false =
      .ok (if d = 1 then { s with resv := cancelOverlap s.resv as }
        else ({ s with resv := cancelOverlap s.resv as }).setOmpic (ompicControl s.ompic n (lo32 v))) := by
  have hin := ompicWord_in hb hn hd
  have hreg := ompicRegister_word hb hn hd
  rw [← has] at hin hreg
  have hany : as.any (inOmpic s.cfg) = true :=
    List.any_eq_true.mpr ⟨b + 8 * n + 4 * d, by rw [has]; exact List.mem_cons_self, hin _ (by rw [has]; exact List.mem_cons_self)⟩
  unfold State.storePhys
  rw [if_pos hany, hreg]
  obtain rfl | rfl : d = 0 ∨ d = 1 := by omega
  · rfl
  · rfl

theorem State.advance_irqLines (s : State) : s.advance.irqLines = s.irqLines := by simp [State.irqLines]

/-- Settles O36. -/
theorem storeResults : Obligations.StoreResults := by
  intro s ra rb i l hr hwf
  refine ⟨store_of_reaches (fun _ => rfl) hr hwf, store_of_reaches (fun _ => rfl) hr hwf,
    store_of_reaches (fun _ => rfl) hr hwf, store_of_reaches (fun _ => rfl) hr hwf, ?_, ?_⟩
  · intro b n hb hn hlen hm hl hc ha h
    have htr := (locate_ok hl).1
    have ht := State.storePhys_ompic (s := l.state) (d := 0) (by rw [translate_cfg htr]; exact hb)
      (by rw [translate_cfg htr]; exact hn) (by decide) ha (s.gpr rb)
    rw [← hc] at ht
    refine ⟨_, store_of_issue (fun _ => rfl) hr hm hl ht h, ?_⟩
    obtain ⟨as, c, ci, u⟩ := l
    obtain ⟨d, da, i, ia, hu⟩ := translate_state htr
    obtain rfl := hu
    rw [if_neg (by decide)]
    refine ⟨fun j hj => ?_, ?_, ?_, ?_, ?_, State.completes_advance _, fun a => ?_, ?_⟩
    · rw [State.advance_ompic]
      exact ompicControl_getD s.ompic n j _ (hlen ▸ hj)
    · rw [State.advance_ompic]
      exact (length_ompicControl _ _ _).trans hlen
    · rw [State.advance_irqLines, State.advance_ompic]
      exact State.irqLines_ompic (s := State.setOmpic _ _) (Option.isSome_of_mem hb)
    · rw [State.advance_irqLines, State.advance_picLatch]
      rfl
    · rw [State.advance_resv]
      rfl
    · rw [State.advance_mem]
      rfl
    · rw [State.advance_ompic, State.advance_picLatch, State.advance_resv]
      exact State.advance_seq _
  · intro b n hb hn hm hl hc ha h
    have htr := (locate_ok hl).1
    have ht := State.storePhys_ompic (s := l.state) (d := 1) (by rw [translate_cfg htr]; exact hb)
      (by rw [translate_cfg htr]; exact hn) (by decide) ha (s.gpr rb)
    rw [← hc] at ht
    refine ⟨_, store_of_issue (fun _ => rfl) hr hm hl ht h, ?_⟩
    obtain ⟨as, c, ci, u⟩ := l
    obtain ⟨d, da, i, ia, hu⟩ := translate_state htr
    obtain rfl := hu
    rw [if_pos rfl]
    refine ⟨?_, State.completes_advance _, fun a => ?_, ?_⟩
    · rw [State.advance_resv]
    · rw [State.advance_mem]
    · rw [State.advance_resv]
      exact State.advance_seq _

end Sys2Proof.Machine
end

section
/-! PROOFS. The family 43_orbis_loadstore.md: the atomic pair. -/

namespace Sys2Proof.Machine

/-- What a synchronisation point leaves in the record of replaced words (20_memory.md R234). -/
def State.waited (s : State) : List StaleWord := if s.cfg.strongOrder then s.stale else synced s.stale

theorem State.syncPoint_eq (s : State) : s.syncPoint = { s with stale := s.waited } := by
  unfold State.syncPoint State.waited
  split <;> rfl

/-! ## `l.lwa` -/

/-- The state that `l.lwa` leaves: a synchronisation point, the value in the register, and a reservation. -/
def State.afterLwa (u : State) (r : Reg) (v : Word) (as : List Nat) : State :=
  ({ u.syncPoint.setGpr r v with resv := reserve as }).advance

theorem State.setGpr_reserve (s : State) (r : Reg) (v : Word) (o : Option Nat) :
    { s.setGpr r v with resv := o } = State.setGpr { s with resv := o } r v := by
  unfold State.setGpr State.setGprAt
  split <;> rename_i h
  · exact (if_pos h).symm
  · exact (if_neg h).symm

theorem State.afterLwa_eq (u : State) (r : Reg) (v : Word) (as : List Nat) :
    u.afterLwa r v as = (State.setGpr { u with stale := u.waited, resv := as.head? } r v).advance := by
  rw [State.afterLwa, State.setGpr_reserve, State.syncPoint_eq]
  rfl

theorem State.afterLwa_resv (u : State) (r : Reg) (v : Word) (as : List Nat) : (u.afterLwa r v as).resv = as.head? := by
  rw [State.afterLwa_eq, State.advance_resv, State.setGpr_resv]

theorem State.afterLwa_stale (u : State) (r : Reg) (v : Word) (as : List Nat) : (u.afterLwa r v as).stale = u.waited := by
  rw [State.afterLwa_eq, State.advance_stale, State.setGpr_stale]

theorem State.afterLwa_writes (u : State) (r : Reg) (v : Word) (as : List Nat) :
    WritesOnly { u with stale := u.waited, resv := as.head? } (u.afterLwa r v as) r v := by
  rw [State.afterLwa_eq]
  exact State.writesOnly _ r v

/-- `l.lwa` at bytes that exist. -/
theorem lwa_of_located {s : State} {r ra : Reg} {i : BitVec 16} {l : Located} (hr : s.regMissing r = false)
    (ho : l.addrs.any (inOmpic s.cfg) = false) (h : Ready (.lLwa r ra i) s)
    (hm : misaligned s (trunc s.cfg.xlen (s.gpr ra + i.signExtend 64)) 4 = false)
    (hl : locate s .load (trunc s.cfg.xlen (s.gpr ra + i.signExtend 64)) 4 = .ok l) :
    exec (.lLwa r ra i) s = .next (l.state.afterLwa r
      (BitVec.ofNat 64 (ofBytes (operandOrder s (l.addrs.map s.mem.read)))) l.addrs) := by
  have hread : s.memRead (s.effAddr ra i) 4 = .ok (ofBytes (s.dataOrder (l.addrs.map s.mem.read)), l) := by
    simp only [State.memRead, effAddr_eq, hm, hl, State.loadPhys_ram ho, Bool.false_eq_true, if_false]
  show execLLwa r ra i s = _
  rw [execLLwa, issue_run h, hread, operandOrder_eq]
  exact if_neg (by rw [hr]; decide)

/-! ## `l.swa` -/

theorem State.finishSwa_flag (u : State) (b : Bool) : (u.finishSwa b).flag = b := by
  unfold State.finishSwa State.flag
  rw [State.advance_sr]
  exact u.setFlag_flag b

theorem State.finishSwa_srOutside (u : State) (b : Bool) : SrOutside 0x200 u (u.finishSwa b) := by
  unfold State.finishSwa SrOutside
  rw [State.advance_sr]
  exact setBit_outside u.sr 9 b _ (by decide) (by decide)

theorem State.finishSwa_resv (u : State) (b : Bool) : (u.finishSwa b).resv = none := State.advance_resv _

theorem State.finishSwa_mem (u : State) (b : Bool) : (u.finishSwa b).mem = u.mem := State.advance_mem _

theorem State.finishSwa_stale (u : State) (b : Bool) : (u.finishSwa b).stale = u.stale := State.advance_stale _

theorem State.finishSwa_completes (u : State) (b : Bool) : Completes u (u.finishSwa b) := State.completes_advance _

theorem State.finishSwa_rest (u : State) (b : Bool) :
    u.finishSwa b = { u.seqOf (u.finishSwa b) with sr := (u.finishSwa b).sr, resv := none } := by
  have hsr : (u.finishSwa b).sr = (u.setFlag b).sr := State.advance_sr _
  rw [hsr]
  exact State.advance_seq _

/-- `l.swa` at an aligned address that translates: what is left of it. -/
theorem swa_of_translated {s : State} {r ra : Reg} {i : BitVec 16} {l : Located} (h : Ready (.lSwa ra r i) s)
    (ha : (trunc s.cfg.xlen (s.gpr ra + i.signExtend 64)).toNat % 4 = 0)
    (hl : translate s .store (trunc s.cfg.xlen (s.gpr ra + i.signExtend 64)) 4 = .ok l) :
    exec (.lSwa ra r i) s =
      if s.reserved l.addrs then
        if physValid s.cfg l.addrs then
          (l.state.syncPoint.storePhys l.addrs (s.gpr r) l.cached).run s fun t =>
            if s.regMissing r then s.raise .range 0 else .next (t.finishSwa true)
        else s.raise .busError (s.effAddr ra i)
      else if s.regMissing r then s.raise .range 0
      else .next (l.state.syncPoint.finishSwa false) := by
  rw [← effAddr_eq] at ha hl
  show execLSwa ra r i s = _
  rw [execLSwa, issue_run h, if_neg (by rw [ha]; decide), hl]
  rfl

theorem State.reserved_iff (s : State) (as : List Nat) : s.reserved as = true ↔ s.resv ≠ none ∧ s.resv = as.head? := by
  rw [State.reserved, Bool.and_eq_true, Option.isSome_iff_ne_none, beq_iff_eq]

/-- `l.swa` under its reservation stores. -/
theorem swa_stores {s : State} {r ra : Reg} {i : BitVec 16} {l : Located} (hr : s.regMissing r = false)
    (ho : l.addrs.any (inOmpic s.cfg) = false) (h : Ready (.lSwa ra r i) s)
    (ha : (trunc s.cfg.xlen (s.gpr ra + i.signExtend 64)).toNat % 4 = 0)
    (hl : translate s .store (trunc s.cfg.xlen (s.gpr ra + i.signExtend 64)) 4 = .ok l)
    (hv : physValid s.cfg l.addrs = true) (hres : s.reserved l.addrs = true) :
    exec (.lSwa ra r i) s = .next (State.finishSwa { l.state with
      resv := cancelOverlap l.state.resv l.addrs
      mem := l.state.mem.writeAll (l.addrs.zip (l.state.dataOrder (toBytes l.addrs.length (s.gpr r))))
      stale := State.noteStale { l.state with stale := l.state.waited } l.addrs (firstStage l.state.cfg) } true) := by
  rw [swa_of_translated h ha hl, if_pos hres, if_pos hv, State.syncPoint_eq,
    State.storePhys_ram (s := { l.state with stale := l.state.waited }) (by rw [translate_cfg hl]; exact ho)]
  exact if_neg (by rw [hr]; decide)

/-! ## Writes of other agents -/

theorem cancelOverlap_some (r : Nat) (as : List Nat) :
    cancelOverlap (some r) as = if ∃ a ∈ as, r ≤ a ∧ a < r + 4 then none else some r := by
  simp [cancelOverlap, List.any_eq_true]

theorem cancelOverlap_none (as : List Nat) : cancelOverlap none as = none := rfl

theorem State.foreignMessage_resv (s : State) (m : Nat × Word32) :
    (s.foreignMessage m).resv = if m.1 < s.cfg.numCores then cancelOverlap s.resv (controlBytes s.cfg m.1) else s.resv := by
  unfold State.foreignMessage
  split <;> rfl

theorem State.foreignMessage_cfg (s : State) (m : Nat × Word32) : (s.foreignMessage m).cfg = s.cfg := by
  unfold State.foreignMessage
  split <;> rfl

/-- A store to the reserved control register cancels the reservation, whatever the others do. -/
theorem foldl_foreignMessage_resv {b n : Nat} (ms : List (Nat × Word32)) (s : State) (hb : s.cfg.ompicBase = some b)
    (hn : n < s.cfg.numCores) (h : s.resv = none ∨ s.resv = some (b + 8 * n) ∧ ∃ m ∈ ms, m.1 = n) :
    (ms.foldl State.foreignMessage s).resv = none := by
  induction ms generalizing s with
  | nil => exact h.elim id fun h => (List.not_mem_nil h.2.choose_spec.1).elim
  | cons m ms ih =>
    refine ih (s.foreignMessage m) (by rw [State.foreignMessage_cfg]; exact hb) (by rw [State.foreignMessage_cfg]; exact hn) ?_
    rw [State.foreignMessage_resv]
    rcases h with hnone | ⟨hres, d, hd, hdn⟩
    · left
      rw [hnone, cancelOverlap_none, ite_self]
    · rcases List.mem_cons.mp hd with rfl | hd
      · left
        rw [if_pos (hdn ▸ hn), hres, hdn, cancelOverlap_some, if_pos]
        exact ⟨b + 8 * n, by simp [controlBytes, hb], Nat.le_refl _, by omega⟩
      · split
        · rcases cancelOverlap_eq s.resv (controlBytes s.cfg m.1) with hc | hc
          · exact .inl hc
          · exact .inr ⟨hc.trans hres, d, hd, hdn⟩
        · exact .inr ⟨hres, d, hd, hdn⟩

/-- Settles O37. -/
theorem atomicPair : Obligations.AtomicPair := by
  refine ⟨?_, ?_, ?_⟩
  · intro s r ra i l hr hwf ho
    refine ⟨fun h hm hl => ?_, fun h ha hl hv hne hres => ?_, fun h ha hl hres => ?_⟩
    · refine ⟨_, lwa_of_located hr ho h hm hl, ?_⟩
      rw [State.afterLwa_resv, State.afterLwa_stale]
      obtain ⟨as, c, ci, u⟩ := l
      obtain ⟨d, da, i, ia, hu⟩ := translate_state (locate_ok hl).1
      obtain rfl := hu
      obtain ⟨hreg, hc, heq, hmem⟩ := State.afterLwa_writes
        { s with dtlbtr := d, datbtr := da, itlbtr := i, iatbtr := ia } r
        (BitVec.ofNat 64 (ofBytes (operandOrder s (as.map s.mem.read)))) as
      exact ⟨hreg, rfl, rfl, hc, heq, hmem⟩
    · refine ⟨_, swa_stores hr ho h ha hl hv ((s.reserved_iff _).mpr ⟨hne, hres⟩), State.finishSwa_flag _ _, ?_⟩
      rw [State.finishSwa_mem, State.finishSwa_stale]
      have hlen := translate_length hl
      obtain ⟨as, c, ci, u⟩ := l
      obtain ⟨d, da, i, ia, hu⟩ := translate_state hl
      obtain rfl := hu
      obtain ⟨hback, hother⟩ := s.stored_reads (as := as) (s.gpr r) hwf
      refine ⟨State.finishSwa_srOutside _ _, State.finishSwa_resv _ _, fun hn => (hback hn).trans ?_, hother, rfl, ?_, State.finishSwa_rest _ _⟩
      · rw [show as.length = 4 from hlen]
      · exact State.finishSwa_completes _ _
    · have hno : ¬ s.reserved l.addrs = true := by
        rw [State.reserved_iff]
        rintro ⟨hne, heq⟩
        exact hres.elim hne fun h => h heq
      refine ⟨l.state.syncPoint.finishSwa false, ?_, State.finishSwa_flag _ _, ?_⟩
      · rw [swa_of_translated h ha hl, if_neg hno, if_neg (by rw [hr]; decide)]
      · rw [State.finishSwa_stale, State.syncPoint_eq]
        obtain ⟨as, c, ci, u⟩ := l
        obtain ⟨d, da, i, ia, hu⟩ := translate_state hl
        obtain rfl := hu
        refine ⟨State.finishSwa_srOutside _ _, rfl, State.finishSwa_completes _ _, State.finishSwa_rest _ _, fun a => ?_⟩
        rw [State.finishSwa_mem]
  · intro s r cs hr
    have hcancel : (s.foreignWrites cs).resv =
        cancelOverlap (some r) ((cs.filter fun c => byteValid s.cfg c.1).map Prod.fst) := by rw [← hr]; rfl
    rw [hcancel, cancelOverlap_some]
    refine ⟨fun ⟨c, hc, hv, hlo, hhi⟩ => if_pos ⟨c.1, ?_, hlo, hhi⟩, fun hout => if_neg ?_⟩
    · exact List.mem_map_of_mem (List.mem_filter.mpr ⟨hc, hv⟩)
    · rintro ⟨a, ha, hlo, hhi⟩
      obtain ⟨c, hc, rfl⟩ := List.mem_map.mp ha
      have := hout c (List.mem_filter.mp hc).1
      omega
  · intro s b n ms hb hr hn hm
    unfold State.foreignMessages
    rw [if_pos (Option.isSome_of_mem hb)]
    exact foldl_foreignMessage_resv ms s hb hn (.inr ⟨hr, hm⟩)

end Sys2Proof.Machine
end

section
/-! PROOFS. The family 43_orbis_loadstore.md and 20_memory.md: accesses that raise an exception. -/

namespace Sys2Proof.Machine

/-! ## What a translation finds -/

/-- An effective address has one entry: one in the TLB, or none there and one in the ATB (20_memory.md R254). -/
def OneEntry (s : State) (k : Access) (ea : Word) (e : Entry) : Prop :=
  tlbHits s (s.mmu k) ea = [e] ∨ (tlbHits s (s.mmu k) ea = [] ∧ atbHits s (s.mmu k) ea = [e])

theorem findEntry_one {s : State} {k : Access} {ea : Word} {e : Entry} (h : OneEntry s k ea e) : findEntry s k ea = .ok e := by
  rcases h with h | ⟨ht, ha⟩
  · simp only [findEntry, h]
  · simp only [findEntry, ht, ha]

theorem findEntry_none {s : State} {k : Access} {ea : Word} (ht : tlbHits s (s.mmu k) ea = []) (ha : atbHits s (s.mmu k) ea = []) :
    findEntry s k ea = if (s.mmu k).cfg.htr then .refuse .hwTlbReload else .raise k.missExc ea := by
  simp only [findEntry, ht, ha]

/-- A miss of both raises the TLB miss. -/
theorem translate_miss {s : State} {k : Access} {ea : Word} (n : Nat) (hon : s.translates k = true)
    (ht : tlbHits s (s.mmu k) ea = []) (ha : atbHits s (s.mmu k) ea = []) :
    translate s k ea n = if (s.mmu k).cfg.htr then .refuse .hwTlbReload else .raise k.missExc ea := by
  unfold translate
  rw [if_pos hon, findEntry_none ht ha]
  cases (s.mmu k).cfg.htr <;> rfl

/-- An entry that denies the access raises the page fault. -/
theorem translate_denied {s : State} {k : Access} {ea : Word} {e : Entry} (n : Nat) (hon : s.translates k = true)
    (he : OneEntry s k ea e) (hp : ((s.mmu k).translateReg e).getLsbD (permissionBit k e s.sm) = false) :
    translate s k ea n = .raise k.faultExc ea := by
  simp only [translate, if_pos hon, findEntry_one he, hp, Bool.false_eq_true, if_false]

/-! ## Accesses that fail -/

/-- The data MMU is on and gives exception `x` (20_memory.md R254, R255). -/
def Untranslatable (s : State) (x : Exc) (ea : Word) (k : Access) : Prop :=
  (s.cfg.dmp = true ∧ s.sr.getLsbD 5 = true) ∧
  ((x = .dtlbMiss ∧ tlbHits s (s.mmu k) ea = [] ∧ atbHits s (s.mmu k) ea = [] ∧ s.cfg.dmmu.htr = false) ∨
   (x = .dataPageFault ∧ ∃ e, OneEntry s k ea e ∧ ((s.mmu k).translateReg e).getLsbD (permissionBit k e s.sm) = false))

/-- A load or store of `n` bytes at `ea` with data register `r` gives exception `x`. -/
def AccessFails (s : State) (x : Exc) (r : Reg) (ea : Word) (k : Access) (n : Nat) : Prop :=
  (x = .alignment ∧ s.cfg.unalignedSupported = false ∧ ea.toNat % n ≠ 0) ∨
  ((s.cfg.unalignedSupported = true ∨ ea.toNat % n = 0) ∧
    (Untranslatable s x ea k ∨
     (x = .busError ∧ ∃ l, translate s k ea n = .ok l ∧ ∃ a ∈ l.addrs, byteValid s.cfg a = false))) ∨
  (x = .range ∧ s.regMissing r = true ∧ ∃ l, Reaches s k ea n l)

theorem translate_untranslatable {s : State} {x : Exc} {ea : Word} {k : Access} (hk : k ≠ .fetch)
    (h : Untranslatable s x ea k) (n : Nat) : translate s k ea n = .raise x ea := by
  obtain ⟨⟨hdmp, hdme⟩, hx⟩ := h
  have hon : s.translates k = true := by
    cases k
    case fetch => exact absurd rfl hk
    all_goals exact Bool.and_eq_true_iff.mpr ⟨hdmp, hdme⟩
  have hmmu : (s.mmu k).cfg = s.cfg.dmmu := by
    cases k
    case fetch => exact absurd rfl hk
    all_goals rfl
  rcases hx with ⟨rfl, ht, ha, hh⟩ | ⟨rfl, e, he, hp⟩
  · rw [translate_miss n hon ht ha, hmmu, hh]
    cases k
    case fetch => exact absurd rfl hk
    all_goals rfl
  · rw [translate_denied n hon he hp]
    cases k
    case fetch => exact absurd rfl hk
    all_goals rfl

/-- Where an access that fails fails: at its alignment, where it is located, or, with the access made, at its register. -/
theorem AccessFails.where {s : State} {x : Exc} {r : Reg} {ea : Word} {k : Access} {n : Nat} (hk : k ≠ .fetch)
    (h : AccessFails s x r ea k n) :
    (x = .alignment ∧ misaligned s ea n = true) ∨ (misaligned s ea n = false ∧ locate s k ea n = .raise x ea) ∨
      (x = .range ∧ s.regMissing r = true ∧ ∃ l, Reaches s k ea n l) := by
  rcases h with ⟨hx, hu, ha⟩ | ⟨ha, hx⟩ | hx
  · exact .inl ⟨hx, by simp [misaligned, hu, ha]⟩
  · refine .inr (.inl ⟨?_, ?_⟩)
    · rcases ha with ha | ha <;> simp [misaligned, ha]
    · rcases hx with hx | ⟨rfl, l, hl, hv⟩
      · exact locate_of_raise (translate_untranslatable hk hx n)
      · exact locate_of_invalid hl hv
  · exact .inr (.inr hx)

/-- Range writes no EEAR, so what is raised with it does not matter. -/
theorem Enters.range {s t : State} {ea : Word} (h : Enters s t .range ea) (ea' : Word) : Enters s t .range ea' := h

/-- An exception raised in place of an access is entered with EEAR the effective address, or is Range. -/
theorem enters_of_raise {j : Instr} {s : State} {x : Exc} {ea a : Word} (hx : s.redirects x = false)
    (h : exec j s = .next (s.enter x a)) (ha : a = ea ∨ x = .range) : ∃ t, exec j s = .next t ∧ Enters s t x ea := by
  refine ⟨_, h, ?_⟩
  rcases ha with rfl | rfl
  · exact (State.raises_enter s x a).1 hx
  · exact ((State.raises_enter s .range a).1 hx).range ea

/-- A load that reads memory and then writes a register, or raises Range where there is none, fails as its access does. -/
theorem load_fails {j : Instr} {s : State} {r ra : Reg} {i : BitVec 16} {n : Nat} {x : Exc}
    (next : Nat × Located → State)
    (hexec : Ready j s → exec j s = (s.memRead (s.effAddr ra i) n).run s fun v =>
      if s.regMissing r then s.raise .range 0 else .next (next v))
    (hx : s.redirects x = false) (h : Ready j s)
    (hf : AccessFails s x r (trunc s.cfg.xlen (s.gpr ra + i.signExtend 64)) .load n) :
    ∃ t, exec j s = .next t ∧ Enters s t x (trunc s.cfg.xlen (s.gpr ra + i.signExtend 64)) := by
  rw [← effAddr_eq] at hf ⊢
  rcases hf.where (by decide) with ⟨rfl, hm⟩ | ⟨hm, hl⟩ | ⟨rfl, hr, l, hm, hl, ho⟩
  · refine enters_of_raise hx ?_ (.inl rfl)
    rw [hexec h, State.memRead, if_pos hm]
    rfl
  · refine enters_of_raise hx ?_ (.inl rfl)
    rw [hexec h]
    simp only [State.memRead, hm, hl, Bool.false_eq_true, if_false]
    rfl
  · refine enters_of_raise hx (a := 0) ?_ (.inr rfl)
    rw [hexec h]
    simp only [State.memRead, hm, hl, State.loadPhys_ram ho, Bool.false_eq_true, if_false]
    exact if_pos hr

/-- A store fails as its access does. -/
theorem store_fails {j : Instr} {s : State} {ra r : Reg} {i : BitVec 16} {n : Nat} {x : Exc}
    (hexec : ∀ s, exec j s = issue j s fun s => s.storeOp ra r i n) (hx : s.redirects x = false) (h : Ready j s)
    (hf : AccessFails s x r (trunc s.cfg.xlen (s.gpr ra + i.signExtend 64)) .store n) :
    ∃ t, exec j s = .next t ∧ Enters s t x (trunc s.cfg.xlen (s.gpr ra + i.signExtend 64)) := by
  rw [← effAddr_eq] at hf ⊢
  rcases hf.where (by decide) with ⟨rfl, hm⟩ | ⟨hm, hl⟩ | ⟨rfl, hr, l, hm, hl, ho⟩
  · refine enters_of_raise hx ?_ (.inl rfl)
    rw [hexec, issue_run h, State.storeOp, State.memWrite, if_pos hm]
    rfl
  · refine enters_of_raise hx ?_ (.inl rfl)
    rw [hexec, issue_run h, State.storeOp]
    simp only [State.memWrite, hm, hl, Bool.false_eq_true, if_false]
    rfl
  · refine enters_of_raise hx (a := 0) ?_ (.inr rfl)
    have hcfg := translate_cfg (locate_ok hl).1
    rw [hexec, issue_run h, State.storeOp]
    simp only [State.memWrite, hm, hl, State.storePhys_ram (hcfg ▸ ho), Bool.false_eq_true, if_false]
    exact if_pos hr

/-- `l.swa` fails at its alignment, at its translation, at its bytes or at its register. -/
theorem swa_fails {s : State} {ra r : Reg} {i : BitVec 16} {x : Exc} {ea : Word}
    (hea : s.effAddr ra i = ea) (hx : s.redirects x = false) (h : Ready (.lSwa ra r i) s)
    (hf : (x = .alignment ∧ ea.toNat % 4 ≠ 0) ∨
      (ea.toNat % 4 = 0 ∧ (Untranslatable s x ea .store ∨
        ∃ l, translate s .store ea 4 = .ok l ∧
          ((x = .busError ∧ s.resv ≠ none ∧ s.resv = l.addrs.head? ∧ ∃ a ∈ l.addrs, byteValid s.cfg a = false) ∨
           (x = .range ∧ s.regMissing r = true ∧ physValid s.cfg l.addrs = true ∧
             l.addrs.any (inOmpic s.cfg) = false))))) :
    ∃ t, exec (.lSwa ra r i) s = .next t ∧ Enters s t x ea := by
  have hswa : s.effAddr ra i = trunc s.cfg.xlen (s.gpr ra + i.signExtend 64) := effAddr_eq s ra i
  rcases hf with ⟨rfl, ha⟩ | ⟨ha, hu | ⟨l, hl, ⟨rfl, hne, hres, b, hb, hv⟩ | ⟨rfl, hr, hv, ho⟩⟩⟩
  · refine enters_of_raise hx ?_ (.inl rfl)
    show execLSwa ra r i s = _
    rw [execLSwa, issue_run h, hea, if_pos (by simpa using ha)]
    rfl
  · refine enters_of_raise hx ?_ (.inl rfl)
    show execLSwa ra r i s = _
    rw [execLSwa, issue_run h, hea, if_neg (by rw [ha]; decide), translate_untranslatable (by decide) hu]
    rfl
  · refine enters_of_raise hx ?_ (.inl rfl)
    rw [swa_of_translated h (by rw [← hswa, hea]; exact ha) (by rw [← hswa, hea]; exact hl),
      if_pos ((s.reserved_iff _).mpr ⟨hne, hres⟩), if_neg, hea]
    · rfl
    · rw [physValid, List.all_eq_true]
      exact fun hall => by simpa [hv] using hall b hb
  · refine enters_of_raise hx (a := 0) ?_ (.inr rfl)
    rw [swa_of_translated h (by rw [← hswa, hea]; exact ha) (by rw [← hswa, hea]; exact hl)]
    by_cases hres : s.reserved l.addrs = true
    · rw [if_pos hres, if_pos hv, State.storePhys_ram (by rw [State.syncPoint_cfg, translate_cfg hl]; exact ho)]
      exact if_pos hr
    · rw [if_neg hres]
      exact if_pos hr

/-- A load by `loadOp` is one of these loads. -/
theorem loadOp_fails {j : Instr} {s : State} {r ra : Reg} {i : BitVec 16} {n : Nat} {x : Exc} (ext : Nat → Word)
    (hexec : ∀ s, exec j s = issue j s fun s => s.loadOp r ra i n ext) (hx : s.redirects x = false) (h : Ready j s)
    (hf : AccessFails s x r (trunc s.cfg.xlen (s.gpr ra + i.signExtend 64)) .load n) :
    ∃ t, exec j s = .next t ∧ Enters s t x (trunc s.cfg.xlen (s.gpr ra + i.signExtend 64)) :=
  load_fails _ (fun h => by rw [hexec, issue_run h]; rfl) hx h hf

theorem lwa_fails {s : State} {r ra : Reg} {i : BitVec 16} {x : Exc} (hx : s.redirects x = false) (h : Ready (.lLwa r ra i) s)
    (hf : AccessFails s x r (trunc s.cfg.xlen (s.gpr ra + i.signExtend 64)) .load 4) :
    ∃ t, exec (.lLwa r ra i) s = .next t ∧ Enters s t x (trunc s.cfg.xlen (s.gpr ra + i.signExtend 64)) := by
  refine load_fails (fun v => v.2.state.afterLwa r (zextLoad v.1) v.2.addrs) (fun h => ?_) hx h hf
  show execLLwa r ra i s = _
  rw [execLLwa, issue_run h]
  rfl

/-- Settles O38. -/
theorem accessTraps : Obligations.AccessTraps := by
  intro s r ra i x ea one untranslated bad traps hx
  exact ⟨loadOp_fails zextLoad (fun _ => rfl) hx, loadOp_fails (sextLoad 8) (fun _ => rfl) hx,
    loadOp_fails zextLoad (fun _ => rfl) hx, loadOp_fails (sextLoad 16) (fun _ => rfl) hx,
    loadOp_fails zextLoad (fun _ => rfl) hx, loadOp_fails (sextLoad 32) (fun _ => rfl) hx,
    lwa_fails hx, loadOp_fails zextLoad (fun _ => rfl) hx,
    store_fails (fun _ => rfl) hx, store_fails (fun _ => rfl) hx, store_fails (fun _ => rfl) hx, store_fails (fun _ => rfl) hx,
    swa_fails (effAddr_eq s ra i) hx⟩

end Sys2Proof.Machine
end

section
/-! PROOFS. 20_memory.md: the outcome of a translation. -/

namespace Sys2Proof.Machine

/-! ## The entries that match -/

theorem cidMatches_iff (s : State) (f : BitVec 4) : cidMatches s f = true ↔ s.cfg.nsgf = 0 ∨ f = s.sr.extractLsb' 28 4 := by
  rw [cidMatches, Bool.or_eq_true, beq_iff_eq, beq_iff_eq]
  rfl

theorem tlbTagMatches_iff (x : Xlen) (mr : Word32) (ea : Word) : tlbTagMatches x mr ea = true ↔ TagMatches x mr ea := by
  cases x
  · simp only [tlbTagMatches, TagMatches]
    cases mr.getLsbD 1 <;> exact beq_iff_eq
  · exact Iff.rfl

theorem tlbHit_iff (s : State) (mr : Word32) (ea : Word) :
    tlbHit s mr ea = true ↔ mr.getLsbD 0 = true ∧ TagMatches s.cfg.xlen mr ea ∧
      (s.cfg.nsgf = 0 ∨ mr.extractLsb' 2 4 = s.sr.extractLsb' 28 4) := by
  rw [tlbHit, Bool.and_eq_true, Bool.and_eq_true, cidMatches_iff, tlbTagMatches_iff, and_assoc, and_comm (a := _ ∨ _)]

theorem areaSize_eq (mr : Word32) : areaSize mr = 2 ^ areaBits mr := by
  unfold areaSize areaBits
  split <;> rfl

theorem atbHit_iff (s : State) (m : Mmu) (ea : Word) (j : BitVec 2) (hj : j.toNat < m.cfg.nae.toNat) :
    atbHit s (m.amr.at j) ea = true ↔ AtbFinds s m ea j := by
  rw [atbHit, Bool.and_eq_true, Bool.and_eq_true, cidMatches_iff, and_assoc]
  unfold AtbFinds atbTagMatches
  cases s.cfg.xlen <;> simp only [areaSize_eq, Bool.and_eq_true, Bool.not_eq_true', beq_iff_eq, hj, true_and]

/-- A register is in the set of an address exactly where it is one of those looked up. -/
theorem inSet_iff (c : MmuCfg) (ea : Word) (i : BitVec 9) :
    InSet c ea i ↔ ∃ y < c.ntw.toNat + 1, tlbIndex (BitVec.ofNat 2 y) (tlbSet c ea) = i := by
  have hset := tlbSet_toNat c ea
  have hlt := (tlbSet c ea).isLt
  have hw := c.ntw.isLt
  unfold InSet
  constructor
  · rintro ⟨hy, hn⟩
    refine ⟨i.toNat / 128, by omega, BitVec.eq_of_toNat_eq ?_⟩
    rw [tlbIndex_toNat, hset, BitVec.toNat_ofNat, ← hn]
    omega
  · rintro ⟨y, hy, rfl⟩
    rw [tlbIndex_toNat, BitVec.toNat_ofNat, ← hset]
    omega

theorem mem_tlbHits (s : State) (m : Mmu) (ea : Word) (e : Entry) :
    e ∈ tlbHits s m ea ↔ ∃ i, e = .tlb i ∧ TlbFinds s m ea i := by
  simp only [tlbHits, List.mem_map, List.mem_filter, List.mem_range, tlbHit_iff, TlbFinds, inSet_iff]
  exact ⟨fun ⟨i, hi, he⟩ => ⟨i, he.symm, hi⟩, fun ⟨i, he, hi⟩ => ⟨i, hi, he.symm⟩⟩

theorem mem_atbHits (s : State) (m : Mmu) (ea : Word) (e : Entry) :
    e ∈ atbHits s m ea ↔ ∃ j, e = .atb j ∧ AtbFinds s m ea j := by
  simp only [atbHits, List.mem_map, List.mem_filter, List.mem_range]
  constructor
  · rintro ⟨j, ⟨⟨n, hn, rfl⟩, hj⟩, rfl⟩
    have hlt : (BitVec.ofNat 2 n).toNat < m.cfg.nae.toNat := by rw [BitVec.toNat_ofNat]; omega
    exact ⟨_, rfl, (atbHit_iff s m ea _ hlt).mp hj⟩
  · rintro ⟨j, rfl, hj⟩
    have hlt := j.isLt
    refine ⟨j, ⟨⟨j.toNat, ?_, BitVec.eq_of_toNat_eq (by rw [BitVec.toNat_ofNat]; omega)⟩, (atbHit_iff s m ea j hj.1).mpr hj⟩, rfl⟩
    have := hj.1
    omega

theorem nodup_tlbHits (s : State) (m : Mmu) (ea : Word) : (tlbHits s m ea).Nodup := by
  refine List.Nodup.map (fun i j h => Entry.tlb.inj h) (List.Nodup.filter _ (List.Nodup.map_on ?_ List.nodup_range))
  intro x hx y hy h
  have hw := m.cfg.ntw.isLt
  have := congrArg BitVec.toNat h
  rw [List.mem_range] at hx hy
  rw [tlbIndex_toNat, tlbIndex_toNat, BitVec.toNat_ofNat, BitVec.toNat_ofNat] at this
  omega

theorem nodup_atbHits (s : State) (m : Mmu) (ea : Word) : (atbHits s m ea).Nodup := by
  refine List.Nodup.map (fun i j h => Entry.atb.inj h) (List.Nodup.filter _ (List.Nodup.map_on ?_ List.nodup_range))
  intro x hx y hy h
  have := congrArg BitVec.toNat h
  rw [List.mem_range] at hx hy
  rw [BitVec.toNat_ofNat, BitVec.toNat_ofNat] at this
  omega

/-! ## Untranslated accesses -/

/-- Where a window holds an address, and where it puts it. -/
theorem windowPlace_eq (w : EaWindow) (a : Nat) :
    windowPlace w a = if 8 * w.ea ≤ a ∧ a < 8 * (w.ea + w.size) then some (8 * w.pa + (a - 8 * w.ea)) else none := by
  unfold windowPlace
  by_cases h : 8 * w.ea ≤ a ∧ a < 8 * (w.ea + w.size)
  · rw [if_pos h, if_pos (by omega)]
    congr 1
    omega
  · rw [if_neg h, if_neg (by omega)]

theorem windowPlace_outside {w : EaWindow} {a : Nat} (h : ¬ (8 * w.ea ≤ a ∧ a < 8 * (w.ea + w.size))) :
    windowPlace w a = none := by
  rw [windowPlace_eq, if_neg h]

theorem findSome_windowPlace {ws pre post : List EaWindow} {w : EaWindow} {a : Nat} (hws : ws = pre ++ w :: post)
    (hpre : ∀ v ∈ pre, ¬ (8 * v.ea ≤ a ∧ a < 8 * (v.ea + v.size))) (hw : 8 * w.ea ≤ a ∧ a < 8 * (w.ea + w.size)) :
    ws.findSome? (windowPlace · a) = some (8 * w.pa + (a - 8 * w.ea)) := by
  rw [hws, List.findSome?_append, List.findSome?_eq_none_iff.mpr fun v hv => windowPlace_outside (hpre v hv),
    List.findSome?_cons, windowPlace_eq, if_pos hw]
  rfl

theorem untranslatedBytes_spec (c : Config) (ea : Word) (n : Nat) : Untranslated c ea n (untranslatedBytes c ea n) := by
  refine ⟨by simp [untranslatedBytes], fun i hi => ?_⟩
  have hget : (untranslatedBytes c ea n)[i]? = some (untranslated c (trunc c.xlen (ea + BitVec.ofNat 64 i))) := by
    simp [untranslatedBytes, hi]
  have hsum : (ea + BitVec.ofNat 64 i).toNat = (ea.toNat + i) % 2 ^ 64 := by
    rw [BitVec.toNat_add, BitVec.toNat_ofNat, Nat.add_mod_mod]
  rw [hget]
  unfold untranslated
  cases c.xlen
  · show some (uval .x32 (trunc .x32 _)) = _
    rw [uval_x32, trunc_toNat, hsum]
    congr 1
    show (ea.toNat + i) % 2 ^ 64 % 2 ^ 32 % 2 ^ 32 = _
    omega
  · show ((∀ w ∈ c.eaMap, _) → some ((c.eaMap.findSome? (windowPlace · (ea + BitVec.ofNat 64 i).toNat)).getD
        (ea + BitVec.ofNat 64 i).toNat % 2 ^ c.paBits) = _) ∧ ∀ pre w post, _ → _ → _ → some ((c.eaMap.findSome?
        (windowPlace · (ea + BitVec.ofNat 64 i).toNat)).getD (ea + BitVec.ofNat 64 i).toNat % 2 ^ c.paBits) = _
    rw [hsum]
    refine ⟨fun hout => ?_, fun pre w post hws hpre hw => ?_⟩
    · rw [List.findSome?_eq_none_iff.mpr fun w hw => windowPlace_outside (hout w hw)]
      rfl
    · rw [findSome_windowPlace hws hpre hw]
      rfl

/-! ## Translated accesses -/

/-- Two entries have no meaning (U10). -/
theorem translate_multi {s : State} {k : Access} {ea : Word} (n : Nat) (hon : s.translates k = true)
    (h : 2 ≤ (tlbHits s (s.mmu k) ea).length ∨ (tlbHits s (s.mmu k) ea = [] ∧ 2 ≤ (atbHits s (s.mmu k) ea).length)) :
    translate s k ea n = .refuse .tlbMultiHit := by
  have hfind : findEntry s k ea = .refuse .tlbMultiHit := by
    rcases h with h | ⟨ht, h⟩
    · match htlb : tlbHits s (s.mmu k) ea, h with
      | _ :: _ :: _, _ => simp only [findEntry, htlb]
    · match hatb : atbHits s (s.mmu k) ea, h with
      | _ :: _ :: _, _ => simp only [findEntry, ht, hatb]
  simp only [translate, if_pos hon, hfind]

/-- The one entry decides by its translate register. -/
theorem translatesBy_entry {s : State} {k : Access} {ea : Word} {e : Entry} (n : Nat) (hon : s.translates k = true)
    (he : OneEntry s k ea e) {base : Nat} {put : Word32 → State}
    (hbase : (s.mmu k).physical s.cfg e ea = base + ea.toNat % 2 ^ (s.mmu k).pageBits e)
    (hput : s.touch k e = put ((s.mmu k).translateReg e ||| k.history)) :
    TranslatesBy s k ea n ((s.mmu k).translateReg e) (permissionBit k e s.sm) (2 ^ (s.mmu k).pageBits e) base put := by
  refine ⟨fun hp => ?_, fun hp hn => ?_, fun hp hn => ?_⟩
  · rw [translate_denied n hon he hp]
    cases k <;> rfl
  · simp only [translate, if_pos hon, findEntry_one he, if_pos hp]
    exact if_neg (by omega)
  · refine ⟨_, by simp only [translate, if_pos hon, findEntry_one he, if_pos hp, if_pos hn]; rfl, ?_, ?_, ?_, rfl⟩
    · rw [hbase]
    · refine hput.trans (congrArg put ?_)
      cases k <;> rfl
    · cases k <;> rfl

theorem permissionBit_tlb (k : Access) (i : BitVec 9) (sm : Bool) : permissionBit k (.tlb i) sm = tlbPermission k sm := by
  cases k <;> cases sm <;> rfl

theorem permissionBit_atb (k : Access) (j : BitVec 2) (sm : Bool) : permissionBit k (.atb j) sm = atbPermission k sm := by
  cases k <;> cases sm <;> rfl

/-- A mask of the bits from `k` up keeps the multiple of `2 ^ k` below a number. -/
theorem and_high_toNat (w m : Word32) (k : Nat) (hm : ∀ i < 32, m.getLsbD i = decide (k ≤ i)) :
    (w &&& m).toNat = w.toNat / 2 ^ k * 2 ^ k := by
  have hand : w &&& m = (w >>> k) <<< k := by
    apply BitVec.eq_of_getLsbD_eq
    intro i hi
    rw [BitVec.getLsbD_and, hm i hi, BitVec.getLsbD_shiftLeft, BitVec.getLsbD_ushiftRight]
    by_cases h : k ≤ i
    · simp [h, hi, Nat.not_lt.mpr h]
    · simp [h, Nat.not_le.mp h]
  have hle : w.toNat / 2 ^ k * 2 ^ k ≤ w.toNat := Nat.div_mul_le_self _ _
  rw [hand, BitVec.toNat_shiftLeft, BitVec.toNat_ushiftRight, Nat.shiftRight_eq_div_pow, Nat.shiftLeft_eq,
    Nat.mod_eq_of_lt (Nat.lt_of_le_of_lt hle w.isLt)]

/-- The page of a translate register: its number without the bits below the page. -/
theorem pageBase_eq (w : Word32) (large : Bool) :
    (w &&& 0xFFFFE000).toNat / 2 ^ (if large then 24 else 13) * 2 ^ (if large then 24 else 13) =
      (w &&& (if large then 0xFF000000 else 0xFFFFE000)).toNat := by
  have h13 := and_high_toNat w 0xFFFFE000 13 (by decide)
  have h24 := and_high_toNat w 0xFF000000 24 (by decide)
  cases large
  · rw [if_neg (by decide), if_neg (by decide)]
    omega
  · rw [if_pos rfl, if_pos rfl]
    omega

/-- Settles O39: the registers looked in, then the entries found, no translation, and each case of one. -/
theorem translationOutcome : Obligations.TranslationOutcome := by
  intro s k ea n data m on tlb atb
  have hdata : data = s.byDataMmu k := by cases k <;> rfl
  have hm : m = s.mmu k := by
    show (if data = true then s.dataMmu else s.insnMmu) = _
    rw [hdata]
    rfl
  have hon : on = s.translates k := by cases k <;> rfl
  have htlb : tlb = tlbHits s (s.mmu k) ea := by rw [← hm]
  have hatb : atb = atbHits s (s.mmu k) ea := by rw [← hm]
  clear_value tlb atb on m data
  subst htlb hatb hon hm hdata
  refine ⟨⟨nodup_tlbHits _ _ _, mem_tlbHits _ _ _⟩, ⟨nodup_atbHits _ _ _, mem_atbHits _ _ _⟩, fun hoff => ?_, fun hon => ?_⟩
  · exact ⟨_, translate_off hoff ea n, untranslatedBytes_spec s.cfg ea n, rfl, rfl, rfl⟩
  · refine ⟨translate_multi n hon, fun ht ha => ?_, fun i ht => ?_, fun j ht ha => ?_⟩
    · rw [translate_miss n hon ht ha]
      cases k <;> rfl
    · have hby := translatesBy_entry n hon (.inl ht)
        (base := ((s.mmu k).tr.at i &&& (if ((s.mmu k).mr.at i).getLsbD 1 then 0xFF000000 else 0xFFFFE000)).toNat)
        (put := fun v => if s.byDataMmu k then { s with dtlbtr := s.dtlbtr.put i v } else { s with itlbtr := s.itlbtr.put i v })
        ?_ ?_
      · rw [permissionBit_tlb] at hby
        have hsize : (if ((s.mmu k).mr.at i).getLsbD 1 then 2 ^ 24 else 2 ^ 13) = 2 ^ (s.mmu k).pageBits (.tlb i) := by
          show _ = 2 ^ (if ((s.mmu k).mr.at i).getLsbD 1 then 24 else 13)
          cases ((s.mmu k).mr.at i).getLsbD 1 <;> rfl
        show TranslatesBy s k ea n _ _ (if ((s.mmu k).mr.at i).getLsbD 1 then 2 ^ 24 else 2 ^ 13) _ _
        rw [hsize]
        exact hby
      · exact congrArg (· + _) (pageBase_eq _ _)
      · unfold State.touch State.mmu
        cases s.byDataMmu k <;> rfl
    · have hby := translatesBy_entry n hon (.inr ⟨ht, ha⟩)
        (base := (((s.mmu k).atr.at j).extractLsb' 10 22).toNat * 2 ^ s.cfg.atbPpnBit / areaSize ((s.mmu k).amr.at j) *
          areaSize ((s.mmu k).amr.at j))
        (put := fun v => if s.byDataMmu k then { s with datbtr := s.datbtr.put j v } else { s with iatbtr := s.iatbtr.put j v })
        ?_ ?_
      · rw [permissionBit_atb] at hby
        show TranslatesBy s k ea n _ _ (areaSize ((s.mmu k).amr.at j)) _ _
        rw [areaSize_eq]
        rw [areaSize_eq] at hby
        exact hby
      · rw [areaSize_eq]
        rfl
      · unfold State.touch State.mmu
        cases s.byDataMmu k <;> rfl

end Sys2Proof.Machine
end

section
/-! PROOFS. The family 44_orbis_control_system.md: jumps, branches and the delay slot. -/

namespace Sys2Proof.Machine

/-! ## Transfers outside a slot -/

/-- The state after a control transfer that is in no slot. -/
def State.transferred (s : State) (taken : Bool) (target : Word) : State :=
  if s.cfg.nd then
    { s with pc := if taken then target else s.pcPlus 4, ppc := s.pc, hist := if taken then .branched else .straight }
  else
    { s with
      pc := s.pcPlus 4, dsPending := true, dsTarget := if taken then target else s.pcPlus 8, ppc := s.pc, hist := .slot taken }

theorem State.transfer_of_not_slot {s : State} (h : s.dsPending = false) (taken : Bool) (target : Word) :
    s.transfer taken target = .next (s.transferred taken target) := by
  rw [State.transfer, if_neg (by rw [h]; decide), State.transferred]
  cases s.cfg.nd <;> rfl

theorem State.transferred_to {s : State} (h : s.dsPending = false) (taken : Bool) (target : Word) :
    TransfersTo s (s.transferred taken target) taken target := by
  unfold State.transferred
  refine ⟨fun hnd => ?_, fun hnd => ?_, ?_⟩
  · rw [hnd, if_neg Bool.false_ne_true]
    exact ⟨rfl, rfl, rfl⟩
  · rw [hnd, if_pos rfl]
    exact ⟨rfl, h⟩
  · cases s.cfg.nd <;> rfl

theorem State.transferred_rest (s : State) (taken : Bool) (target : Word) :
    s.transferred taken target = s.seqOf (s.transferred taken target) := by
  unfold State.transferred
  cases s.cfg.nd <;> rfl

theorem State.transferred_gprs (s : State) (taken : Bool) (target : Word) : (s.transferred taken target).gprs = s.gprs := by
  rw [State.transferred_rest]
  rfl

theorem State.transferred_cfg (s : State) (taken : Bool) (target : Word) : (s.transferred taken target).cfg = s.cfg := by
  rw [State.transferred_rest]
  rfl

/-! ## Targets -/

theorem State.jumpTarget_eq (s : State) (n : BitVec 26) :
    s.jumpTarget n = trunc s.cfg.xlen (s.pc + (n ++ 0#2).signExtend 64) := by
  unfold State.jumpTarget State.pcPlus jumpOffset
  refine trunc_eq_of_toNat ?_
  rw [BitVec.toNat_add, BitVec.toNat_add, trunc_toNat, mod_word_mod, mod_word_mod, Nat.add_mod_mod]

theorem targetMisaligned_eq (v : Word) : targetMisaligned v = !decide (v.toNat % 4 = 0) := by
  rw [targetMisaligned, Bool.eq_iff_iff, bne_iff_ne, ne_eq, aligned_iff, Bool.not_eq_true', decide_eq_false_iff_not]

/-- The state after a linking jump has written r9. -/
def State.linked (s : State) : State := s.setGpr 9 s.linkAddress

theorem State.linked_rest (s : State) : ∃ g, s.linked = { s with gprs := g } := by
  unfold State.linked State.setGpr State.setGprAt
  split
  · exact ⟨_, rfl⟩
  · exact ⟨_, rfl⟩

/-! ## What each jump and branch answers -/

section Jumps
variable {s : State} {n : BitVec 26} {rb : Reg}

theorem exec_lJ (h : Ready (.lJ n) s) : exec (.lJ n) s = s.transfer true (s.jumpTarget n) := by
  show execLJ n s = _
  rw [execLJ, issue_run h]

theorem exec_lJal (h : Ready (.lJal n) s) : exec (.lJal n) s = s.linked.transfer true (s.jumpTarget n) := by
  show execLJal n s = _
  rw [execLJal, issue_run h]
  rfl

theorem exec_lBf (h : Ready (.lBf n) s) : exec (.lBf n) s = s.transfer (s.sr.getLsbD 9) (s.jumpTarget n) := by
  show execLBf n s = _
  rw [execLBf, issue_run h]
  rfl

theorem exec_lBnf (h : Ready (.lBnf n) s) : exec (.lBnf n) s = s.transfer (!s.sr.getLsbD 9) (s.jumpTarget n) := by
  show execLBnf n s = _
  rw [execLBnf, issue_run h]
  rfl

theorem exec_lJr (h : Ready (.lJr rb) s) :
    exec (.lJr rb) s = if targetMisaligned (s.gpr rb) then s.raise .alignment (s.gpr rb) else s.transfer true (s.gpr rb) := by
  show execLJr rb s = _
  rw [execLJr, issue_run h]

theorem exec_lJalr (h : Ready (.lJalr rb) s) :
    exec (.lJalr rb) s =
      if targetMisaligned (s.gpr rb) then s.raise .alignment (s.gpr rb) else s.linked.transfer true (s.gpr rb) := by
  show execLJalr rb s = _
  rw [execLJalr, issue_run h]
  rfl

theorem exec_lJr_aligned (h : Ready (.lJr rb) s) (ha : (s.gpr rb).toNat % 4 = 0) :
    exec (.lJr rb) s = s.transfer true (s.gpr rb) := by
  rw [exec_lJr h, if_neg (by rw [targetMisaligned_eq, ha]; decide)]

theorem exec_lJalr_aligned (h : Ready (.lJalr rb) s) (ha : (s.gpr rb).toNat % 4 = 0) :
    exec (.lJalr rb) s = s.linked.transfer true (s.gpr rb) := by
  rw [exec_lJalr h, if_neg (by rw [targetMisaligned_eq, ha]; decide)]

end Jumps

/-! ## The results -/

theorem jump_results {j : Instr} {s : State} {taken : Bool} {v : Word} (hd : s.dsPending = false)
    (h : exec j s = s.transfer taken v) :
    ∃ t, exec j s = .next t ∧ TransfersTo s t taken v ∧ t = s.seqOf t ∧ MemSame s t := by
  refine ⟨_, h.trans (s.transfer_of_not_slot hd taken v), State.transferred_to hd taken v, State.transferred_rest s taken v, ?_⟩
  rw [State.transferred_rest]
  exact fun _ => rfl

theorem link_results {j : Instr} {s : State} {v : Word} (hd : s.dsPending = false) (h : exec j s = s.linked.transfer true v) :
    ∃ t, exec j s = .next t ∧ TransfersTo s t true v ∧
      WritesReg s t 9 (trunc s.cfg.xlen (s.pc + (if s.cfg.nd then 4 else 8))) ∧
      t = { s.seqOf t with gprs := t.gprs } ∧ MemSame s t := by
  have hwrites : WritesReg s (s.linked.transferred true v) 9 s.linkAddress := by
    have hcfg : s.linked.cfg = s.cfg := State.setGpr_cfg _ _ _
    refine ⟨?_, fun j hj => ?_⟩ <;>
      rw [State.gprAt_congr (State.transferred_gprs _ _ _) (State.transferred_cfg _ _ _), State.linked, State.gprAt_setGpr]
    · rw [if_pos rfl]
    · rw [if_neg hj]
  obtain ⟨g, hg⟩ := s.linked_rest
  rw [hg] at h hwrites
  refine ⟨_, h.trans (State.transfer_of_not_slot (s := { s with gprs := g }) hd true v),
    State.transferred_to (s := { s with gprs := g }) hd true v, hwrites, ?_, ?_⟩
  · rw [State.transferred_gprs]
    exact State.transferred_rest _ true v
  · rw [State.transferred_rest]
    exact fun _ => rfl

/-- Settles O40. -/
theorem jumpResults : Obligations.JumpResults := by
  intro s n rb hd
  have htarget := s.jumpTarget_eq n
  refine ⟨fun h => ?_, fun h => ?_, fun h => ?_, fun h => ?_, fun h ha => ?_, fun h ha => ?_⟩
  · exact jump_results hd (htarget ▸ exec_lJ h)
  · exact link_results hd (htarget ▸ exec_lJal h)
  · exact jump_results hd (htarget ▸ exec_lBf h)
  · exact jump_results hd (htarget ▸ exec_lBnf h)
  · exact jump_results hd (exec_lJr_aligned h ha)
  · exact link_results hd (exec_lJalr_aligned h ha)

theorem State.transfer_in_slot {s : State} (h : s.dsPending = true) (taken : Bool) (target : Word) :
    s.transfer taken target = .refused .jumpInDelaySlot := by
  rw [State.transfer, if_pos h]

theorem State.linked_transfer_in_slot {s : State} (h : s.dsPending = true) (target : Word) :
    s.linked.transfer true target = .refused .jumpInDelaySlot := by
  obtain ⟨g, hg⟩ := s.linked_rest
  rw [hg]
  exact State.transfer_in_slot (s := { s with gprs := g }) h true target

/-- Settles O41. -/
theorem transferStops : Obligations.TransferStops := by
  intro s n rb
  refine ⟨fun ha hx => ?_, fun hd => ?_⟩
  · have hmis : targetMisaligned (s.gpr rb) = true := by rw [targetMisaligned_eq, decide_eq_false ha]; rfl
    refine ⟨fun h => ⟨_, ?_, State.enters_enter hx _⟩, fun h => ⟨_, ?_, State.enters_enter hx _⟩⟩
    · rw [exec_lJr h, if_pos hmis]
      rfl
    · rw [exec_lJalr h, if_pos hmis]
      rfl
  · have hj := State.transfer_in_slot hd
    have hl := State.linked_transfer_in_slot hd
    refine ⟨fun h => ?_, fun h => ?_, fun h => ?_, fun h => ?_, fun h ha => ?_, fun h ha => ?_, fun h hsm => ?_⟩
    · rw [exec_lJ h, hj]
    · rw [exec_lJal h, hl]
    · rw [exec_lBf h, hj]
    · rw [exec_lBnf h, hj]
    · rw [exec_lJr_aligned h ha, hj]
    · rw [exec_lJalr_aligned h ha, hl]
    · show execLRfe s = _
      rw [execLRfe, issue_run h]
      simp only [State.sm, hsm, hd, if_true]

/-! ## The delay slot -/

/-- A transfer in no slot, after which its slot is next: whatever register it has written, and where it goes. -/
structure InSlot (s t : State) (goesTo : Word) : Prop where
  inv : Inv t
  cfg : t.cfg = s.cfg
  pc : t.pc = trunc s.cfg.xlen (s.pc + 4)
  pending : t.dsPending = true
  target : t.dsTarget = goesTo

theorem InSlot.of_transfer {j : Instr} {s : State} {g : Bank 9 Word} {taken : Bool} {v : Word} (hi : Inv s)
    (hnd : s.cfg.nd = false) (hd : s.dsPending = false) (h : exec j s = State.transfer { s with gprs := g } taken v) :
    ∃ t, exec j s = .next t ∧ InSlot s t (if taken then v else trunc s.cfg.xlen (s.pc + 8)) := by
  have ht := h.trans (State.transfer_of_not_slot (s := { s with gprs := g }) hd taken v)
  obtain ⟨hslot, -, -⟩ := State.transferred_to (s := { s with gprs := g }) hd taken v
  obtain ⟨hpc, hp, htarget⟩ := hslot hnd
  exact ⟨_, ht, hi.outcome (exec_outcome ht), State.transferred_cfg _ _ _, hpc, hp, htarget⟩

/-- An exception in the slot saves the address of the jump. -/
theorem InSlot.epcFor {s t : State} {goesTo : Word} (hi : Inv s) (h : InSlot s t goesTo) (x : Exc) : t.epcFor x = s.pc := by
  have hback : trunc s.cfg.xlen (trunc s.cfg.xlen (s.pc + 4) - 4) = trunc s.cfg.xlen s.pc := by
    refine trunc_eq_of_toNat ?_
    have hmod : (trunc s.cfg.xlen (s.pc + 4)).toNat % 2 ^ s.cfg.xlen.bits = (s.pc.toNat + 4) % 2 ^ s.cfg.xlen.bits := by
      rw [trunc_toNat, Nat.mod_mod, BitVec.toNat_add, mod_word_mod]
      rfl
    rw [BitVec.toNat_sub, mod_word_mod]
    cases hx : s.cfg.xlen <;> rw [hx] at hmod
    all_goals
      simp only [Xlen.bits] at *
      have h4 : (4 : Word).toNat = 4 := rfl
      rw [h4]
      omega
  rw [State.epcFor, h.pending, if_pos rfl, h.cfg, h.pc, hback]
  exact hi.pcWidth

/-- What follows in the slot: completing it, an exception in it, and the return from that. -/
theorem InSlot.sequence {s t : State} {goesTo : Word} (hi : Inv s) (h : InSlot s t goesTo) :
    (∀ (i : Instr) (u : State), exec i t = .next u → Completes t u → u.pc = goesTo ∧ u.dsPending = false) ∧
    (∀ k, Ready (.lNop k) t → ∃ u, exec (.lNop k) t = .next u ∧ u.pc = goesTo ∧ u.dsPending = false) ∧
    (∀ (x : Exc) (ea : Word), t.redirects x = false →
      (t.enter x ea).epcr.at t.entryCtx = s.pc ∧ (t.enter x ea).sr.getLsbD 13 = true ∧
      (t.enter x ea).leave.pc = s.pc ∧ (t.enter x ea).leave.dsPending = false) ∧
    (∀ k, Ready (.lSys k) t → t.redirects .syscall = false →
      ∃ u, exec (.lSys k) t = .next u ∧ Enters t u .syscall 0 ∧ u.epcr.at t.entryCtx = s.pc ∧ u.leave.pc = s.pc) := by
  have hdone : ∀ u, Completes t u → u.pc = goesTo ∧ u.dsPending = false := by
    rintro u ⟨hpc, hp, -⟩
    rw [h.pending, if_pos rfl, h.target] at hpc
    exact ⟨hpc, hp⟩
  have hsaves : ∀ (x : Exc) (ea : Word), t.redirects x = false → (t.enter x ea).epcr.at t.entryCtx = s.pc := by
    intro x ea hx
    rw [State.enter_eq hx, ← h.epcFor hi x]
    exact Bank.at_put_self _ _ _
  have hreturns : ∀ (x : Exc) (ea : Word), t.redirects x = false → (t.enter x ea).leave.pc = s.pc := by
    intro x ea hx
    obtain ⟨-, hpc, -⟩ := entryThenReturn t x ea h.inv hx
    rw [hpc, h.epcFor hi x]
  refine ⟨fun i u _ => hdone u, fun k hr => ?_, fun x ea hx => ⟨hsaves x ea hx, ?_, hreturns x ea hx, rfl⟩, fun k hr hx => ?_⟩
  · refine ⟨t.advance, ?_, hdone _ t.completes_advance⟩
    show execLNop k t = _
    rw [execLNop, issue_run hr]
    rfl
  · rw [State.enter_sr hx, State.entrySr_getLsbD _ _ (by decide), if_neg (by decide), if_neg (by decide), if_pos rfl, h.pending]
  · refine ⟨t.enter .syscall 0, ?_, State.enters_enter hx 0, hsaves _ 0 hx, hreturns _ 0 hx⟩
    show execLSys k t = _
    rw [execLSys, issue_run hr]
    rfl

/-- The sequence of a jump or branch, its slot, and where it goes. -/
theorem sequence_of_transfer {j : Instr} {s : State} {g : Bank 9 Word} {taken : Bool} {v goesTo : Word} (hi : Inv s)
    (hnd : s.cfg.nd = false) (hd : s.dsPending = false) (h : exec j s = State.transfer { s with gprs := g } taken v)
    (hgoes : (if taken then v else trunc s.cfg.xlen (s.pc + 8)) = goesTo) :
    ∃ t, exec j s = .next t ∧ t.pc = trunc s.cfg.xlen (s.pc + 4) ∧ t.dsPending = true ∧
      (∀ (i : Instr) (u : State), exec i t = .next u → Completes t u → u.pc = goesTo ∧ u.dsPending = false) ∧
      (∀ k, Ready (.lNop k) t → ∃ u, exec (.lNop k) t = .next u ∧ u.pc = goesTo ∧ u.dsPending = false) ∧
      (∀ (x : Exc) (ea : Word), t.redirects x = false →
        (t.enter x ea).epcr.at t.entryCtx = s.pc ∧ (t.enter x ea).sr.getLsbD 13 = true ∧
        (t.enter x ea).leave.pc = s.pc ∧ (t.enter x ea).leave.dsPending = false) ∧
      (∀ k, Ready (.lSys k) t → t.redirects .syscall = false →
        ∃ u, exec (.lSys k) t = .next u ∧ Enters t u .syscall 0 ∧ u.epcr.at t.entryCtx = s.pc ∧ u.leave.pc = s.pc) := by
  obtain ⟨t, ht, hslot⟩ := InSlot.of_transfer hi hnd hd h
  exact ⟨t, ht, hslot.pc, hslot.pending, hgoes ▸ hslot.sequence hi⟩

/-- Settles O42. -/
theorem delaySlotSequence : Obligations.DelaySlotSequence := by
  intro s n rb hi hnd hd
  have htarget := s.jumpTarget_eq n
  obtain ⟨g, hg⟩ := s.linked_rest
  refine ⟨fun h => ?_, fun h => ?_, fun h => ?_, fun h => ?_, fun ha => ⟨fun h => ?_, fun h => ?_⟩⟩
  · exact sequence_of_transfer (g := s.gprs) hi hnd hd (exec_lJ h) ((if_pos rfl).trans htarget)
  · exact sequence_of_transfer hi hnd hd (hg ▸ exec_lJal h) ((if_pos rfl).trans htarget)
  · exact sequence_of_transfer (g := s.gprs) hi hnd hd (exec_lBf h) (by rw [htarget])
  · refine sequence_of_transfer (g := s.gprs) hi hnd hd (exec_lBnf h) ?_
    rw [htarget]
    cases s.sr.getLsbD 9 <;> rfl
  · exact sequence_of_transfer (g := s.gprs) hi hnd hd (exec_lJr_aligned h ha) rfl
  · exact sequence_of_transfer hi hnd hd (hg ▸ exec_lJalr_aligned h ha) rfl

end Sys2Proof.Machine
end

section
/-! PROOFS. 10_state.md R50, R53, R54: the addresses of the special-purpose registers. -/

namespace Sys2Proof.Machine

/-! ## Addresses -/

/-- The address of a special-purpose register (10_state.md R54). -/
def Spr.address : Spr → Nat
  | .vr => 0x0000
  | .upr => 0x0001
  | .cpucfgr => 0x0002
  | .dmmucfgr => 0x0003
  | .immucfgr => 0x0004
  | .dccfgr => 0x0005
  | .iccfgr => 0x0006
  | .dcfgr => 0x0007
  | .pccfgr => 0x0008
  | .vr2 => 0x0009
  | .avr => 0x000A
  | .evbar => 0x000B
  | .aecr => 0x000C
  | .aesr => 0x000D
  | .npc => 0x0010
  | .sr => 0x0011
  | .ppc => 0x0012
  | .fpcsr => 0x0014
  | .isr i => 0x0015 + i.toNat
  | .epcr i => 0x0020 + i.toNat
  | .eear i => 0x0030 + i.toNat
  | .esr i => 0x0040 + i.toNat
  | .coreid => 0x0080
  | .numcores => 0x0081
  | .gpr i => 0x0400 + i.toNat
  | .dmmucr => 0x0800
  | .dmmupr => 0x0801
  | .dtlbeir => 0x0802
  | .datbmr i => 0x0804 + i.toNat
  | .datbtr i => 0x0808 + i.toNat
  | .dtlbmr i => 0x0A00 + 0x100 * (i.toNat / 128) + i.toNat % 128
  | .dtlbtr i => 0x0A80 + 0x100 * (i.toNat / 128) + i.toNat % 128
  | .immucr => 0x1000
  | .immupr => 0x1001
  | .itlbeir => 0x1002
  | .iatbmr i => 0x1004 + i.toNat
  | .iatbtr i => 0x1008 + i.toNat
  | .itlbmr i => 0x1200 + 0x100 * (i.toNat / 128) + i.toNat % 128
  | .itlbtr i => 0x1280 + 0x100 * (i.toNat / 128) + i.toNat % 128
  | .dccr => 0x1800
  | .dcbpr => 0x1801
  | .dcbfr => 0x1802
  | .dcbir => 0x1803
  | .dcbwr => 0x1804
  | .dcblr => 0x1805
  | .iccr => 0x2000
  | .icbpr => 0x2001
  | .icbir => 0x2002
  | .icblr => 0x2003
  | .maclo => 0x2801
  | .machi => 0x2802
  | .dvr i => 0x3000 + i.toNat
  | .dcr i => 0x3008 + i.toNat
  | .dmr1 => 0x3010
  | .dmr2 => 0x3011
  | .dwcr i => 0x3012 + i.toNat
  | .dsr => 0x3014
  | .drr => 0x3015
  | .pccr i => 0x3800 + i.toNat
  | .pcmr i => 0x3808 + i.toNat
  | .pmr => 0x4000
  | .picmr => 0x4800
  | .picsr => 0x4802
  | .ttmr => 0x5000
  | .ttcr => 0x5001

theorem tlbRegister_eq {r : Nat} {m : Bool} {i : BitVec 9} (h : tlbRegister r = some (m, i)) :
    r = (if m then 0x200 else 0x280) + 0x100 * (i.toNat / 128) + i.toNat % 128 := by
  unfold tlbRegister at h
  split at h
  case isFalse => cases h
  case isTrue hr =>
    simp only [Option.some.injEq, Prod.mk.injEq] at h
    obtain ⟨hm, hi⟩ := h
    rw [← hi, tlbIndex_toNat, BitVec.toNat_ofNat, BitVec.toNat_ofNat]
    cases m
    · have := of_decide_eq_false hm
      rw [if_neg (by decide)]
      omega
    · have := of_decide_eq_true hm
      rw [if_pos rfl]
      omega

/-- A row of a table of registers is the one that is found, or the rest of the table holds it. -/
theorem row_or_rest {p : Prop} [Decidable p] {x r : Spr} {rest : Option Spr} (h : (if p then some x else rest) = some r) :
    (p ∧ x = r) ∨ rest = some r := by
  by_cases hp : p
  · rw [if_pos hp, Option.some.injEq] at h
    exact .inl ⟨hp, h⟩
  · rw [if_neg hp] at h
    exact .inr h

theorem sprSystem_address {k : Nat} {r : Spr} (h : sprSystem k = some r) : r.address = k := by
  unfold sprSystem at h
  repeat
    rcases row_or_rest h with ⟨hk, rfl⟩ | h
    · simp only [Spr.address, BitVec.toNat_ofNat]
      omega
  cases h

theorem sprDmmu_address {k : Nat} {r : Spr} (h : sprDmmu k = some r) : r.address = 0x800 + k := by
  unfold sprDmmu at h
  split_ifs at h
  case neg =>
    split at h
    · rename_i i hi
      have : k = 0x200 + 0x100 * (i.toNat / 128) + i.toNat % 128 := tlbRegister_eq hi
      cases h
      simp only [Spr.address]
      omega
    · rename_i i hi
      have : k = 0x280 + 0x100 * (i.toNat / 128) + i.toNat % 128 := tlbRegister_eq hi
      cases h
      simp only [Spr.address]
      omega
    · cases h
  all_goals cases h; simp only [Spr.address, BitVec.toNat_ofNat]; omega

theorem sprImmu_address {k : Nat} {r : Spr} (h : sprImmu k = some r) : r.address = 0x1000 + k := by
  unfold sprImmu at h
  split_ifs at h
  case neg =>
    split at h
    · rename_i i hi
      have : k = 0x200 + 0x100 * (i.toNat / 128) + i.toNat % 128 := tlbRegister_eq hi
      cases h
      simp only [Spr.address]
      omega
    · rename_i i hi
      have : k = 0x280 + 0x100 * (i.toNat / 128) + i.toNat % 128 := tlbRegister_eq hi
      cases h
      simp only [Spr.address]
      omega
    · cases h
  all_goals cases h; simp only [Spr.address, BitVec.toNat_ofNat]; omega

theorem sprDcache_address {k : Nat} {r : Spr} (h : sprDcache k = some r) : r.address = 0x1800 + k := by
  unfold sprDcache at h
  split_ifs at h <;> cases h <;> simp only [Spr.address] <;> omega

theorem sprIcache_address {k : Nat} {r : Spr} (h : sprIcache k = some r) : r.address = 0x2000 + k := by
  unfold sprIcache at h
  split_ifs at h <;> cases h <;> simp only [Spr.address] <;> omega

theorem sprDebug_address {k : Nat} {r : Spr} (h : sprDebug k = some r) : r.address = 0x3000 + k := by
  unfold sprDebug at h
  split_ifs at h <;> cases h <;> simp only [Spr.address, BitVec.toNat_ofNat, BitVec.reduceToNat] <;> omega

/-- A register is named at its own address only. -/
theorem sprName_address {a : BitVec 16} {r : Spr} (h : sprName a = some r) : a.toNat = r.address := by
  simp only [sprName] at h
  split at h
  · have := sprSystem_address h; omega
  · have := sprDmmu_address h; omega
  · have := sprImmu_address h; omega
  · have := sprDcache_address h; omega
  · have := sprIcache_address h; omega
  · split_ifs at h <;> cases h <;> simp only [Spr.address] <;> omega
  · have := sprDebug_address h; omega
  · split_ifs at h <;> cases h <;> simp only [Spr.address, BitVec.toNat_ofNat] <;> omega
  · split_ifs at h
    cases h
    simp only [Spr.address]
    omega
  · split_ifs at h <;> cases h <;> simp only [Spr.address] <;> omega
  · split_ifs at h <;> cases h <;> simp only [Spr.address] <;> omega
  · cases h

/-! ## Names -/

theorem sprName_system {a : BitVec 16} {k : Nat} (h : a.toNat = k) (hk : k < 2048) : sprName a = sprSystem k := by
  have hg : a.toNat / 2048 = 0 := by omega
  have hr : a.toNat % 2048 = k := by omega
  simp only [sprName, hg, hr]

theorem sprName_dmmu {a : BitVec 16} {k : Nat} (h : a.toNat = 0x800 + k) (hk : k < 2048) : sprName a = sprDmmu k := by
  have hg : a.toNat / 2048 = 1 := by omega
  have hr : a.toNat % 2048 = k := by omega
  simp only [sprName, hg, hr]

theorem sprName_immu {a : BitVec 16} {k : Nat} (h : a.toNat = 0x1000 + k) (hk : k < 2048) : sprName a = sprImmu k := by
  have hg : a.toNat / 2048 = 2 := by omega
  have hr : a.toNat % 2048 = k := by omega
  simp only [sprName, hg, hr]

/-- The numbers of the registers of TLB entry `i`: from 512 on the match register, from 640 on the translate register. -/
def tlbNumber (m : Bool) (i : BitVec 9) : Nat := (if m then 512 else 640) + 256 * (i.toNat / 128) + i.toNat % 128

theorem tlbNumber_range (m : Bool) (i : BitVec 9) : 512 ≤ tlbNumber m i ∧ tlbNumber m i ≤ 1535 := by
  have hi := i.isLt
  unfold tlbNumber
  cases m
  · rw [if_neg (by decide)]
    omega
  · rw [if_pos rfl]
    omega

theorem tlbRegister_number (m : Bool) (i : BitVec 9) : tlbRegister (tlbNumber m i) = some (m, i) := by
  have hi := i.isLt
  have hrange := tlbNumber_range m i
  have hnumber : tlbNumber m i = (if m then 512 else 640) + 256 * (i.toNat / 128) + i.toNat % 128 := rfl
  have hmatch : decide ((tlbNumber m i - 512) % 256 < 128) = m := by
    cases m
    · rw [if_neg (by decide)] at hnumber
      exact decide_eq_false (by omega)
    · rw [if_pos rfl] at hnumber
      exact decide_eq_true (by omega)
  have hindex : tlbIndex (BitVec.ofNat 2 ((tlbNumber m i - 512) / 256)) (BitVec.ofNat 7 (tlbNumber m i % 128)) = i := by
    apply BitVec.eq_of_toNat_eq
    rw [tlbIndex_toNat, BitVec.toNat_ofNat, BitVec.toNat_ofNat]
    cases m
    · rw [if_neg (by decide)] at hnumber
      omega
    · rw [if_pos rfl] at hnumber
      omega
  unfold tlbRegister
  rw [if_pos hrange, hmatch, hindex]

theorem sprDmmu_tlb (m : Bool) (i : BitVec 9) : sprDmmu (tlbNumber m i) = some (if m then .dtlbmr i else .dtlbtr i) := by
  obtain ⟨hlo, hhi⟩ := tlbNumber_range m i
  unfold sprDmmu
  rw [if_neg (by omega), if_neg (by omega), if_neg (by omega), if_neg (by omega), if_neg (by omega), tlbRegister_number]
  cases m <;> rfl

theorem sprImmu_tlb (m : Bool) (i : BitVec 9) : sprImmu (tlbNumber m i) = some (if m then .itlbmr i else .itlbtr i) := by
  obtain ⟨hlo, hhi⟩ := tlbNumber_range m i
  unfold sprImmu
  rw [if_neg (by omega), if_neg (by omega), if_neg (by omega), if_neg (by omega), if_neg (by omega), tlbRegister_number]
  cases m <;> rfl

theorem sprSystem_of_gpr {k : Nat} (h : 1024 ≤ k ∧ k ≤ 1535) : sprSystem k = some (.gpr (BitVec.ofNat 9 (k - 1024))) := by
  unfold sprSystem
  simp (disch := omega) only [if_neg]
  rw [if_pos h]

/-- The address of a TLB register, as an address of its group. -/
theorem tlbAddress_toNat (g : Nat) (hg : g ≤ 0x1000) (m : Bool) (i : BitVec 9) :
    (BitVec.ofNat 16 (g + tlbNumber m i)).toNat = g + tlbNumber m i := by
  have := (tlbNumber_range m i).2
  exact Nat.mod_eq_of_lt (by omega)

/-- The address of a register names it. -/
theorem sprName_ofNat (r : Spr) : sprName (BitVec.ofNat 16 r.address) = some r := by
  cases r with
  | isr i | epcr i | eear i | esr i | datbmr i | datbtr i | iatbmr i | iatbtr i | dvr i | dcr i | dwcr i | pccr i | pcmr i =>
    revert i
    decide
  | gpr i =>
    have hi := i.isLt
    have ha : (BitVec.ofNat 16 (1024 + i.toNat)).toNat = 1024 + i.toNat := Nat.mod_eq_of_lt (by omega)
    refine (sprName_system ha (by omega)).trans ?_
    rw [sprSystem_of_gpr (by omega), Nat.add_sub_cancel_left, BitVec.ofNat_toNat, BitVec.setWidth_eq]
  | dtlbmr i =>
    rw [show (Spr.dtlbmr i).address = 0x800 + tlbNumber true i by simp only [Spr.address, tlbNumber, if_true]; omega,
      sprName_dmmu (tlbAddress_toNat _ (by decide) _ _) (by have := tlbNumber_range true i; omega), sprDmmu_tlb]
    rfl
  | dtlbtr i =>
    rw [show (Spr.dtlbtr i).address = 0x800 + tlbNumber false i by
        simp only [Spr.address, tlbNumber, Bool.false_eq_true, if_false]; omega,
      sprName_dmmu (tlbAddress_toNat _ (by decide) _ _) (by have := tlbNumber_range false i; omega), sprDmmu_tlb]
    rfl
  | itlbmr i =>
    rw [show (Spr.itlbmr i).address = 0x1000 + tlbNumber true i by simp only [Spr.address, tlbNumber, if_true]; omega,
      sprName_immu (tlbAddress_toNat _ (by decide) _ _) (by have := tlbNumber_range true i; omega), sprImmu_tlb]
    rfl
  | itlbtr i =>
    rw [show (Spr.itlbtr i).address = 0x1000 + tlbNumber false i by
        simp only [Spr.address, tlbNumber, Bool.false_eq_true, if_false]; omega,
      sprName_immu (tlbAddress_toNat _ (by decide) _ _) (by have := tlbNumber_range false i; omega), sprImmu_tlb]
    rfl
  | _ => rfl

theorem sprName_iff (a : BitVec 16) (r : Spr) : sprName a = some r ↔ a.toNat = r.address := by
  refine ⟨sprName_address, fun h => ?_⟩
  rw [← sprName_ofNat r, ← h, BitVec.ofNat_toNat, BitVec.setWidth_eq]

end Sys2Proof.Machine
end

section
/-! PROOFS. The family 44_orbis_control_system.md: system instructions. -/

namespace Sys2Proof.Machine

/-! ## No operation, synchronisation, exceptions -/

theorem State.advance_stays (s : State) : Completes s s.advance ∧ s.advance = s.seqOf s.advance ∧ MemSame s s.advance :=
  ⟨s.completes_advance, s.advance_seq, fun _ => by rw [State.advance_mem]⟩

/-- An instruction that only replaces the record of replaced words. -/
theorem sync_results {i : Instr} {s : State} (es : List StaleWord) (h : exec i s = State.noEffect { s with stale := es }) :
    ∃ t, exec i s = .next t ∧ Completes s t ∧ t = { s.seqOf t with stale := t.stale } ∧ MemSame s t ∧ t.stale = es := by
  have hstale : (State.advance { s with stale := es }).stale = es := State.advance_stale _
  obtain ⟨hc, hseq, hmem⟩ := State.advance_stays { s with stale := es }
  refine ⟨_, h, hc, ?_, hmem, hstale⟩
  rw [hstale]
  exact hseq

/-- Settles O43. -/
theorem nopAndSync : Obligations.NopAndSync := by
  intro s k
  refine ⟨fun h => ⟨s.advance, ?_, s.advance_stays⟩, fun i hi h => ?_, fun h => ?_⟩
  · show execLNop k s = _
    rw [execLNop, issue_run h]
    rfl
  · have hexec : exec i s = State.noEffect { s with stale := synced s.stale } := by
      rcases hi with rfl | rfl
      · show execLMsync s = _
        rw [execLMsync, issue_run h]
      · show execLCsync s = _
        rw [execLCsync, issue_run h]
    obtain ⟨t, ht, hc, hseq, hmem, hstale⟩ := sync_results _ hexec
    exact ⟨t, ht, hc, hstale ▸ hseq, hmem⟩
  · have hexec : exec .lPsync s = State.noEffect { s with stale := flushedOld s.cfg s.stale } := by
      show execLPsync s = _
      rw [execLPsync, issue_run h]
    obtain ⟨t, ht, hc, hseq, hmem, hstale⟩ := sync_results _ hexec
    exact ⟨t, ht, hc, hseq, hmem, fun e => by rw [hstale]; exact mem_flushedOld⟩

/-- Settles O44. -/
theorem exceptionInstructions : Obligations.ExceptionInstructions := by
  intro s k
  refine ⟨fun h => ⟨s.enter .syscall 0, ?_, s.raises_enter _ _⟩, fun h => ⟨s.enter .trap 0, ?_, s.raises_enter _ _⟩,
    fun h hsm hd => ⟨s.leave, ?_, rfl, rfl, rfl, rfl, fun _ => rfl⟩, fun h hsm hx => ⟨_, ?_, State.enters_enter hx s.pc⟩⟩
  · show execLSys k s = _
    rw [execLSys, issue_run h]
    rfl
  · show execLTrap k s = _
    rw [execLTrap, issue_run h]
    rfl
  · show execLRfe s = _
    rw [execLRfe, issue_run h]
    simp only [State.sm, hsm, hd, Bool.false_eq_true, if_true, if_false]
  · show execLRfe s = _
    rw [execLRfe, issue_run h]
    simp only [State.sm, hsm, Bool.false_eq_true, if_false]
    rfl

theorem custom_traps {i : Instr} {s : State} (hexec : ∀ s, exec i s = issue i s fun s => s.customSpace) (h : Ready i s)
    (hx : s.redirects .illegal = false) : ∃ t, exec i s = .next t ∧ Enters s t .illegal s.pc :=
  ⟨_, by rw [hexec, issue_run h]; rfl, State.enters_enter hx s.pc⟩

/-- Settles O51. -/
theorem customSpaceTraps : Obligations.CustomSpaceTraps := by
  intro s rd ra rb l k i hi
  rcases hi with rfl | rfl | rfl | rfl | rfl | rfl | rfl | rfl | rfl | rfl | rfl | rfl | rfl | rfl
  all_goals exact custom_traps fun _ => rfl

end Sys2Proof.Machine
end

section
/-! PROOFS. 10_state.md section 3 and 44_orbis_control_system.md R565, R566: moves of special-purpose registers. -/

namespace Sys2Proof.Machine

/-! ## The register at an address -/

theorem sprAt_of_address {a : BitVec 16} {r : Spr} (c : Config) (h : a.toNat = r.address) : sprAt c a = some (r.shared c) := by
  rw [sprAt, (sprName_iff a r).mpr h]
  rfl

/-- A register that unified units do not rename. -/
theorem Spr.shared_of_fixed (c : Config) {r : Spr} (hm : r.unifyMmu = r) (hc : r.unifyCache = r) : r.shared c = r := by
  unfold Spr.shared
  split <;> split <;> simp only [hm, hc]

theorem sprAt_fixed {a : BitVec 16} (c : Config) (r : Spr) (h : a.toNat = r.address) (hm : r.unifyMmu = r := by rfl)
    (hc : r.unifyCache = r := by rfl) : sprAt c a = some r := by
  rw [sprAt_of_address c h, Spr.shared_of_fixed c hm hc]

/-- A register of the instruction MMU, where the MMUs are two. -/
theorem sprAt_insnMmu {a : BitVec 16} {c : Config} (hu : c.unifiedMmu = false) (r : Spr) (h : a.toNat = r.address)
    (hc : r.unifyCache = r := by rfl) : sprAt c a = some r := by
  rw [sprAt_of_address c h, Spr.shared, hu]
  cases c.unifiedCache
  · rfl
  · exact congrArg some hc

/-- A register of the instruction MMU, where the MMU is one. -/
theorem sprAt_unifiedMmu {a : BitVec 16} {c : Config} (hu : c.unifiedMmu = true) (r : Spr) (h : a.toNat = r.address) {q : Spr}
    (hm : r.unifyMmu = q := by rfl) (hc : q.unifyCache = q := by rfl) : sprAt c a = some q := by
  rw [sprAt_of_address c h, Spr.shared, hu, if_pos rfl, hm]
  cases c.unifiedCache
  · rfl
  · exact congrArg some hc

/-- The address of the `j`-th register of an array. -/
theorem indexed_toNat {w : Nat} (base : Nat) (j : BitVec w) (hw : w ≤ 9) (hb : base < 2 ^ 15) :
    (BitVec.ofNat 16 base + j.setWidth 16).toNat = base + j.toNat := by
  have hj : j.toNat < 2 ^ 9 := Nat.lt_of_lt_of_le j.isLt (Nat.pow_le_pow_right (by decide) hw)
  rw [BitVec.toNat_add, BitVec.toNat_ofNat, BitVec.toNat_setWidth]
  omega

/-! ## Reads and writes at an address -/

theorem State.sprAddress_eq (s : State) (ra : Reg) (k : BitVec 16) :
    s.sprAddress ra k = (s.gpr ra ||| k.setWidth 64).setWidth 16 := rfl

theorem State.readSprAt_present {s : State} {o : Option Spr} {r : Spr} (h : o = some r) (hp : r.present s.cfg = true) :
    s.readSprAt o = s.readSpr r := by
  rw [h]
  exact if_pos hp

/-- A register that reads as zero does so whether or not it is implemented. -/
theorem State.readSprAt_zero {s : State} {o : Option Spr} {r : Spr} (h : o = some r) (h0 : (s.readSpr r).1 = 0) :
    (s.readSprAt o).1 = 0 := by
  rw [h]
  show (if r.present s.cfg then s.readSpr r else (0, s)).1 = 0
  split
  · exact h0
  · rfl

theorem State.readSprAt_absent {s : State} {o : Option Spr} (h : ∀ r, o = some r → r.present s.cfg = false) :
    s.readSprAt o = (0, s) := by
  cases o with
  | none => rfl
  | some r => exact if_neg (by rw [h r rfl]; decide)

theorem State.writeSprAt_absent {s : State} {o : Option Spr} (h : ∀ r, o = some r → r.present s.cfg = false) (v : Word) :
    s.writeSprAt o v = s := by
  cases o with
  | none => rfl
  | some r => exact if_neg (by rw [h r rfl, Bool.false_and]; decide)

theorem mayWrite_supervisor {s : State} (h : s.sr.getLsbD 0 = true) (r : Spr) : mayWrite s r = true := by
  rw [mayWrite, State.sm, h]
  rfl

theorem State.writeSprAt_present {s : State} {o : Option Spr} {r : Spr} (h : o = some r) (hp : r.present s.cfg = true)
    (hw : mayWrite s r = true) (v : Word) : s.writeSprAt o v = s.writeSpr v r := by
  rw [h]
  exact if_pos (by rw [hp, hw]; rfl)

theorem State.finishMtspr_of_ne (s : State) {o : Option Spr} (h : o ≠ some .npc) (v : Word) : s.finishMtspr o v = s.advance :=
  if_neg h

/-- What `l.mfspr` leaves: the register written, a free value drawn where the value is open. -/
theorem State.readWrites (s : State) (o : Option Spr) (rd : Reg) :
    WritesReg s (((s.readSprAt o).2.setGpr rd (s.readSprAt o).1).advance) rd (s.readSprAt o).1 ∧
    Completes s (((s.readSprAt o).2.setGpr rd (s.readSprAt o).1).advance) ∧
    (((s.readSprAt o).2.setGpr rd (s.readSprAt o).1).advance) =
      { s.seqOf (((s.readSprAt o).2.setGpr rd (s.readSprAt o).1).advance) with
        gprs := (((s.readSprAt o).2.setGpr rd (s.readSprAt o).1).advance).gprs
        freeCtr := (((s.readSprAt o).2.setGpr rd (s.readSprAt o).1).advance).freeCtr } ∧
    MemSame s (((s.readSprAt o).2.setGpr rd (s.readSprAt o).1).advance) := by
  have hrest := s.readSprAt_rest o
  generalize (s.readSprAt o).1 = v
  generalize (s.readSprAt o).2 = u at hrest ⊢
  generalize u.freeCtr = n at hrest
  subst hrest
  obtain ⟨hreg, hc, heq, hmem⟩ := State.writesOnly { s with freeCtr := n } rd v
  refine ⟨hreg, hc, ?_, hmem⟩
  have hn : (State.setGpr { s with freeCtr := n } rd v).advance.freeCtr = n := by
    rw [State.advance_freeCtr, State.setGpr_freeCtr]
  rw [hn]
  exact heq

/-- Settles O47. -/
theorem unimplementedSpr : Obligations.UnimplementedSpr := by
  intro s r ra k hsm hr hout
  rw [← State.sprAddress_eq] at hout
  have hmay := mayAccess_supervisor hsm (sprAt s.cfg (s.sprAddress ra k))
  refine ⟨fun h => ⟨_, execLMfspr_run h hmay hr, ?_⟩, fun h => ⟨_, execLMtspr_run h hmay hr, ?_⟩⟩
  · rw [State.readSprAt_absent hout]
    exact s.writesOnly r 0
  · rw [State.writeSprAt_absent hout, State.finishMtspr_of_ne]
    · exact s.advance_stays
    · intro hnpc
      exact Bool.noConfusion (hout .npc hnpc)

/-! ## SR -/

/-- Each bit that a write of SR leaves (10_state.md R61). -/
theorem srWritten_getLsbD (c : Config) (v : Word32) {n : Nat} (hn : n < 32) :
    (srWritten c v).getLsbD n =
      if n = 7 then c.leeSupported && v.getLsbD 7 else if n = 15 then true else if 17 ≤ n ∧ n ≤ 27 then false else v.getLsbD n := by
  have masks : ∀ n < 32, (0xF0017FFF : Word32).getLsbD n = !decide (n = 15 ∨ 17 ≤ n ∧ n ≤ 27) ∧
      (0x00008000 : Word32).getLsbD n = decide (n = 15) ∧ (0xFFFFFFFF : Word32).getLsbD n = true ∧
      (0xFFFFFF7F : Word32).getLsbD n = !decide (n = 7) := by decide
  obtain ⟨hkeep, hfo, hones, hlee⟩ := masks n hn
  unfold srWritten
  rw [BitVec.getLsbD_and, BitVec.getLsbD_or, BitVec.getLsbD_and, hkeep, hfo]
  have hsel : (if c.leeSupported then (0xFFFFFFFF : Word32) else 0xFFFFFF7F).getLsbD n = (c.leeSupported || !decide (n = 7)) := by
    cases c.leeSupported
    · exact hlee
    · exact hones
  rw [hsel]
  by_cases h7 : n = 7
  · subst h7
    simp [Bool.and_comm]
  · by_cases h15 : n = 15
    · subst h15
      simp
    · by_cases hfixed : 17 ≤ n ∧ n ≤ 27
      · simp [h7, h15, hfixed]
      · simp [h7, h15, hfixed]

/-- Settles O48. -/
theorem srWrite : Obligations.SrWrite := by
  intro s ra rb k h hsm hr ha
  rw [← State.sprAddress_eq] at ha
  have hat : sprAt s.cfg (s.sprAddress ra k) = some .sr := sprAt_fixed s.cfg .sr (congrArg BitVec.toNat ha)
  have hrun := execLMtspr_run h (mayAccess_supervisor hsm _) hr
  rw [hat, State.writeSprAt_present rfl rfl (mayWrite_supervisor hsm _), State.finishMtspr_of_ne _ (by decide)] at hrun
  have hsr : (State.advance (s.writeSpr (s.gpr rb) .sr)).sr = srWritten s.cfg (lo32 (s.gpr rb)) := State.advance_sr _
  have hbit : ∀ n < 32, (lo32 (s.gpr rb)).getLsbD n = (s.gpr rb).getLsbD n := by
    intro n hn
    rw [lo32, BitVec.getLsbD_setWidth, decide_eq_true hn, Bool.true_and]
  have hfield : ∀ lo len, lo + len ≤ 32 → (∀ n, lo ≤ n → n < lo + len → n ≠ 7 ∧ n ≠ 15 ∧ ¬ (17 ≤ n ∧ n ≤ 27)) →
      (srWritten s.cfg (lo32 (s.gpr rb))).extractLsb' lo len = (s.gpr rb).extractLsb' lo len := by
    intro lo len hlen hout
    apply BitVec.eq_of_getLsbD_eq
    intro n hn
    obtain ⟨h7, h15, hfix⟩ := hout (lo + n) (by omega) (by omega)
    rw [BitVec.getLsbD_extractLsb', BitVec.getLsbD_extractLsb', srWritten_getLsbD _ _ (by omega), if_neg h7, if_neg h15,
      if_neg hfix, hbit _ (by omega)]
  refine ⟨_, hrun, State.completes_advance _, ?_, fun a => ?_, ?_, ?_, ?_, ?_, ?_, ?_, ?_⟩
  · rw [hsr]
    exact State.advance_seq _
  · rw [State.advance_mem]
    rfl
  · rw [hsr]
    exact hfield 28 4 (by decide) (by omega)
  · rw [hsr]
    apply BitVec.eq_of_getLsbD_eq
    intro n hn
    rw [BitVec.getLsbD_extractLsb', srWritten_getLsbD _ _ (by omega), if_neg (by omega), if_neg (by omega), if_pos (by omega),
      Bool.and_false]
    exact BitVec.getLsbD_zero.symm
  · rw [hsr, srWritten_getLsbD _ _ (by decide)]
    exact hbit 16 (by decide)
  · rw [hsr, srWritten_getLsbD _ _ (by decide)]
    rfl
  · rw [hsr]
    exact hfield 8 7 (by decide) (by omega)
  · rw [hsr, srWritten_getLsbD _ _ (by decide), if_pos rfl, hbit 7 (by decide)]
  · rw [hsr]
    exact hfield 0 7 (by decide) (by omega)

end Sys2Proof.Machine
end

section
/-! PROOFS. 44_orbis_control_system.md R566: what `l.mfspr` reads. -/

namespace Sys2Proof.Machine

/-! ## The registers of each unit -/

/-- What is read at the address of an implemented register. -/
theorem State.reads_of {s : State} {o : Option Spr} {r : Spr} (h : o = some r) (hp : r.present s.cfg = true) :
    (s.readSprAt o).1 = (s.readSpr r).1 := by rw [State.readSprAt_present h hp]

/-- The same for a register that unified units do not rename. -/
theorem State.reads_at (s : State) {a : BitVec 16} (r : Spr) (h : a.toNat = r.address) (hp : r.present s.cfg = true)
    (hm : r.unifyMmu = r := by rfl) (hc : r.unifyCache = r := by rfl) :
    (s.readSprAt (sprAt s.cfg a)).1 = (s.readSpr r).1 := State.reads_of (sprAt_fixed s.cfg r h hm hc) hp

theorem configReads (s : State) (a : BitVec 16) : ConfigReads s.cfg a (s.readSprAt (sprAt s.cfg a)).1 := by
  refine ⟨fun h => ?_, fun h hp => ?_, fun hcfg => ?_, fun h hp => ?_, fun h hp => ?_, fun j h hp => ?_, fun h hp => ?_,
    fun h hp => ?_⟩
  · rw [s.reads_at .vr (congrArg BitVec.toNat h) rfl]
    exact congrArg zext32 (vrValue_fields s.cfg)
  · rw [s.reads_at .upr (congrArg BitVec.toNat h) hp]
    exact congrArg zext32 (uprValue_fields s.cfg)
  · have hregs : hasConfigRegs s.cfg = true := decide_eq_true hcfg
    have hboth : ∀ {b : Bool}, b = true → (hasConfigRegs s.cfg && b) = true := fun hb => by rw [hregs, hb]; rfl
    refine ⟨fun h => ?_, fun h hp => ?_, fun h hp => ?_, fun h hp => ?_, fun h hp => ?_, fun h hp => ?_, fun h hp => ?_⟩
    · rw [s.reads_at .cpucfgr (congrArg BitVec.toNat h) hregs]
      exact congrArg zext32 (cpucfgrValue_fields s.cfg)
    · rw [s.reads_at .dmmucfgr (congrArg BitVec.toNat h) (hboth hp)]
      exact congrArg zext32 (mmucfgrValue_fields s.cfg.dmmu)
    · rw [s.reads_at .immucfgr (congrArg BitVec.toNat h) (hboth hp)]
      exact congrArg zext32 (mmucfgrValue_fields s.cfg.immu)
    · rw [s.reads_at .dccfgr (congrArg BitVec.toNat h) (hboth hp)]
      exact congrArg zext32 (dccfgrValue_fields s.cfg.dc)
    · rw [s.reads_at .iccfgr (congrArg BitVec.toNat h) (hboth hp)]
      exact congrArg zext32 (iccfgrValue_fields s.cfg.ic)
    · rw [s.reads_at .dcfgr (congrArg BitVec.toNat h) (hboth hp)]
      exact congrArg zext32 (dcfgrValue_fields s.cfg)
    · rw [s.reads_at .pccfgr (congrArg BitVec.toNat h) (hboth hp)]
      exact congrArg zext32 (pccfgrValue_fields s.cfg)
  · rw [s.reads_at .vr2 (congrArg BitVec.toNat h) hp]
    exact congrArg zext32 (vr2Value_fields s.cfg)
  · rw [s.reads_at .avr (congrArg BitVec.toNat h) hp]
    exact congrArg zext32 (avrValue_fields s.cfg)
  · exact s.reads_at (.isr j) ((congrArg BitVec.toNat h).trans (indexed_toNat 0x15 j (by decide) (by decide))) hp
  · exact s.reads_at .coreid (congrArg BitVec.toNat h) hp
  · exact s.reads_at .numcores (congrArg BitVec.toNat h) hp

/-- The registers of one MMU. -/
structure MmuNames where
  control : Spr
  protection : Spr
  invalidate : Spr
  atbMatch : BitVec 2 → Spr
  atbTranslate : BitVec 2 → Spr
  tlbMatch : BitVec 9 → Spr
  tlbTranslate : BitVec 9 → Spr

def MmuNames.data : MmuNames := ⟨.dmmucr, .dmmupr, .dtlbeir, .datbmr, .datbtr, .dtlbmr, .dtlbtr⟩

def MmuNames.insn : MmuNames := ⟨.immucr, .immupr, .itlbeir, .iatbmr, .iatbtr, .itlbmr, .itlbtr⟩

/-- The group of registers that begins at address `g` is these registers (20_memory.md R240-R251). -/
structure MmuNames.At (n : MmuNames) (c : Config) (g : BitVec 16) : Prop where
  control : sprAt c g = some n.control
  protection : sprAt c (g + 1) = some n.protection
  invalidate : sprAt c (g + 2) = some n.invalidate
  atbMatch : ∀ j : BitVec 2, sprAt c (g + 4 + j.setWidth 16) = some (n.atbMatch j)
  atbTranslate : ∀ j : BitVec 2, sprAt c (g + 8 + j.setWidth 16) = some (n.atbTranslate j)
  tlbMatch : ∀ (y : BitVec 2) (k : BitVec 7),
    sprAt c (g + 0x200 + 0x100 * y.setWidth 16 + k.setWidth 16) = some (n.tlbMatch (y ++ k))
  tlbTranslate : ∀ (y : BitVec 2) (k : BitVec 7),
    sprAt c (g + 0x280 + 0x100 * y.setWidth 16 + k.setWidth 16) = some (n.tlbTranslate (y ++ k))

/-- The address of a TLB register of way `y` and set `k`. -/
theorem tlbAddress_eq (base : Nat) (hb : base ≤ 0x1280) (y : BitVec 2) (k : BitVec 7) :
    (BitVec.ofNat 16 base + 0x100 * y.setWidth 16 + k.setWidth 16 : BitVec 16).toNat =
      base + 0x100 * ((y ++ k).toNat / 128) + (y ++ k).toNat % 128 := by
  have happ : (y ++ k).toNat = y.toNat * 128 + k.toNat := tlbIndex_toNat y k
  have hy := y.isLt
  have hk := k.isLt
  rw [happ, BitVec.toNat_add, BitVec.toNat_add, BitVec.toNat_mul, BitVec.toNat_setWidth, BitVec.toNat_setWidth,
    BitVec.toNat_ofNat]
  have h100 : (0x100 : BitVec 16).toNat = 256 := rfl
  rw [h100]
  omega

theorem MmuNames.at_data (c : Config) : MmuNames.data.At c 0x0800 where
  control := sprAt_fixed c .dmmucr rfl
  protection := sprAt_fixed c .dmmupr rfl
  invalidate := sprAt_fixed c .dtlbeir rfl
  atbMatch j := sprAt_fixed c (.datbmr j) (indexed_toNat 0x804 j (by decide) (by decide))
  atbTranslate j := sprAt_fixed c (.datbtr j) (indexed_toNat 0x808 j (by decide) (by decide))
  tlbMatch y k := sprAt_fixed c (.dtlbmr (y ++ k)) (tlbAddress_eq 0xA00 (by decide) y k)
  tlbTranslate y k := sprAt_fixed c (.dtlbtr (y ++ k)) (tlbAddress_eq 0xA80 (by decide) y k)

theorem MmuNames.at_unified {c : Config} (hu : c.unifiedMmu = true) : MmuNames.data.At c 0x1000 where
  control := sprAt_unifiedMmu hu .immucr rfl
  protection := sprAt_unifiedMmu hu .immupr rfl
  invalidate := sprAt_unifiedMmu hu .itlbeir rfl
  atbMatch j := sprAt_unifiedMmu hu (.iatbmr j) (indexed_toNat 0x1004 j (by decide) (by decide))
  atbTranslate j := sprAt_unifiedMmu hu (.iatbtr j) (indexed_toNat 0x1008 j (by decide) (by decide))
  tlbMatch y k := sprAt_unifiedMmu hu (.itlbmr (y ++ k)) (tlbAddress_eq 0x1200 (by decide) y k)
  tlbTranslate y k := sprAt_unifiedMmu hu (.itlbtr (y ++ k)) (tlbAddress_eq 0x1280 (by decide) y k)

theorem MmuNames.at_insn {c : Config} (hu : c.unifiedMmu = false) : MmuNames.insn.At c 0x1000 where
  control := sprAt_insnMmu hu .immucr rfl
  protection := sprAt_insnMmu hu .immupr rfl
  invalidate := sprAt_insnMmu hu .itlbeir rfl
  atbMatch j := sprAt_insnMmu hu (.iatbmr j) (indexed_toNat 0x1004 j (by decide) (by decide))
  atbTranslate j := sprAt_insnMmu hu (.iatbtr j) (indexed_toNat 0x1008 j (by decide) (by decide))
  tlbMatch y k := sprAt_insnMmu hu (.itlbmr (y ++ k)) (tlbAddress_eq 0x1200 (by decide) y k)
  tlbTranslate y k := sprAt_insnMmu hu (.itlbtr (y ++ k)) (tlbAddress_eq 0x1280 (by decide) y k)

/-- A TLB register exists where its way and its set do. -/
theorem tlbExists_append {c : MmuCfg} {y : BitVec 2} {k : BitVec 7} (hy : y.toNat ≤ c.ntw.toNat) (hk : k.toNat < 2 ^ c.nts.toNat) :
    tlbExists c (y ++ k) = true := by
  have happ : (y ++ k).toNat = y.toNat * 128 + k.toNat := tlbIndex_toNat y k
  have hlt := k.isLt
  have hdiv : (y ++ k).toNat / 128 = y.toNat := by omega
  have hmod : (y ++ k).toNat % 128 = k.toNat := by omega
  rw [tlbExists, hdiv, hmod, decide_eq_true hy, decide_eq_true hk]
  rfl

theorem and_true_of {b d : Bool} (hb : b = true) (hd : d = true) : (b && d) = true := by rw [hb, hd]; rfl

theorem and_decide_of {b : Bool} {p : Prop} [Decidable p] (hb : b = true) (hp : p) : (b && decide p) = true :=
  and_true_of hb (decide_eq_true hp)

theorem dataMmuReads {s : State} {g : BitVec 16} (hat : MmuNames.data.At s.cfg g) (hd : s.cfg.dmp = true) (a : BitVec 16) :
    MmuReads s.dataMmu s.dmmucr s.dmmupr g a (s.readSprAt (sprAt s.cfg a)).1 := by
  refine ⟨?_, ?_, ?_, fun j hj => ⟨?_, ?_⟩, fun y k hy hk => ⟨?_, ?_⟩⟩
  · rintro rfl hp
    exact State.reads_of hat.control (and_true_of hd hp)
  · rintro rfl hp
    exact State.reads_of hat.protection (and_true_of hd hp)
  · rintro rfl
    exact State.readSprAt_zero hat.invalidate rfl
  · rintro rfl
    exact State.reads_of (hat.atbMatch j) (and_decide_of hd hj)
  · rintro rfl
    exact State.reads_of (hat.atbTranslate j) (and_decide_of hd hj)
  · rintro rfl
    exact State.reads_of (hat.tlbMatch y k) (and_true_of hd (tlbExists_append hy hk))
  · rintro rfl
    exact State.reads_of (hat.tlbTranslate y k) (and_true_of hd (tlbExists_append hy hk))

theorem insnMmuReads {s : State} (hu : s.cfg.unifiedMmu = false) (hd : s.cfg.imp = true) (a : BitVec 16) :
    MmuReads s.insnMmu s.immucr s.immupr 0x1000 a (s.readSprAt (sprAt s.cfg a)).1 := by
  have hat := MmuNames.at_insn hu
  refine ⟨?_, ?_, ?_, fun j hj => ⟨?_, ?_⟩, fun y k hy hk => ⟨?_, ?_⟩⟩
  · rintro rfl hp
    exact State.reads_of hat.control (and_true_of hd hp)
  · rintro rfl hp
    exact State.reads_of hat.protection (and_true_of hd hp)
  · rintro rfl
    exact State.readSprAt_zero hat.invalidate rfl
  · rintro rfl
    exact State.reads_of (hat.atbMatch j) (and_decide_of hd hj)
  · rintro rfl
    exact State.reads_of (hat.atbTranslate j) (and_decide_of hd hj)
  · rintro rfl
    exact State.reads_of (hat.tlbMatch y k) (and_true_of hd (tlbExists_append hy hk))
  · rintro rfl
    exact State.reads_of (hat.tlbTranslate y k) (and_true_of hd (tlbExists_append hy hk))

theorem debugUnitReads {s : State} (hd : s.cfg.dup = true) (a : BitVec 16) :
    DebugUnitReads s a (s.readSprAt (sprAt s.cfg a)).1 := by
  refine ⟨fun j hj => ⟨fun h => ?_, fun h => ?_⟩, fun h => ?_, fun h => ?_, fun j hw h => ?_, fun h => ?_, fun h => ?_⟩
  · exact s.reads_at (.dvr j) ((congrArg BitVec.toNat h).trans (indexed_toNat 0x3000 j (by decide) (by decide))) (and_decide_of hd hj)
  · exact s.reads_at (.dcr j) ((congrArg BitVec.toNat h).trans (indexed_toNat 0x3008 j (by decide) (by decide))) (and_decide_of hd hj)
  · exact s.reads_at .dmr1 (congrArg BitVec.toNat h) hd
  · exact s.reads_at .dmr2 (congrArg BitVec.toNat h) hd
  · exact s.reads_at (.dwcr j) ((congrArg BitVec.toNat h).trans (indexed_toNat 0x3012 j (by decide) (by decide))) (and_true_of hd hw)
  · exact s.reads_at .dsr (congrArg BitVec.toNat h) hd
  · exact s.reads_at .drr (congrArg BitVec.toNat h) hd

/-- A counter that counts no event reads as it stands, another as some 32-bit count. -/
theorem State.readSpr_pccr (s : State) (j : BitVec 3) :
    (s.readSpr (.pccr j)).1.toNat < 2 ^ 32 ∧
      ((s.pcmr.at j).extractLsb' 4 22 = 0 → (s.readSpr (.pccr j)).1 = zext32 (s.pccr.at j)) := by
  have h32 : ∀ w : Word32, (zext32 w).toNat < 2 ^ 32 := by
    intro w
    have hw : (zext32 w).toNat = w.toNat := BitVec.toNat_setWidth_of_le (by decide)
    rw [hw]
    exact w.isLt
  simp only [State.readSpr]
  refine ⟨?_, fun h0 => ?_⟩
  · split
    · exact h32 _
    · exact h32 _
  · have hdead : s.pccrLive j = false := by
      rw [State.pccrLive, h0]
      rfl
    rw [hdead]
    rfl

theorem counterReads {s : State} (hp : s.cfg.pcup = true) (a : BitVec 16) :
    CounterReads s a (s.readSprAt (sprAt s.cfg a)).1 := by
  intro j hj
  refine ⟨fun h => ?_, fun h => ?_⟩
  · rw [s.reads_at (.pccr j) ((congrArg BitVec.toNat h).trans (indexed_toNat 0x3800 j (by decide) (by decide)))
      (and_decide_of hp hj)]
    exact s.readSpr_pccr j
  · exact s.reads_at (.pcmr j) ((congrArg BitVec.toNat h).trans (indexed_toNat 0x3808 j (by decide) (by decide))) (and_decide_of hp hj)

/-! ## The caches -/

/-- The control register of a data cache, or of a unified one under its second name. -/
theorem sprAt_dccr {c : Config} {a : BitVec 16} (h : a = 0x1800 ∨ (c.unifiedCache = true ∧ a = 0x2000)) : sprAt c a = some .dccr := by
  rcases h with rfl | ⟨hu, rfl⟩
  · exact sprAt_fixed c .dccr rfl
  · rw [sprAt_of_address (r := .iccr) c rfl, Spr.shared, hu, if_pos rfl]
    cases c.unifiedMmu <;> rfl

theorem sprAt_iccr {c : Config} {a : BitVec 16} (h : c.unifiedCache = false ∧ a = 0x2000) : sprAt c a = some .iccr := by
  obtain ⟨hu, rfl⟩ := h
  rw [sprAt_of_address (r := .iccr) c rfl, Spr.shared, hu, if_neg Bool.false_ne_true]
  cases c.unifiedMmu <;> rfl

/-- A cache block register reads as zero. -/
theorem State.reads_block (s : State) {a : BitVec 16} (h : (0x1801 ≤ a ∧ a ≤ 0x1805) ∨ (0x2001 ≤ a ∧ a ≤ 0x2003)) :
    (s.readSprAt (sprAt s.cfg a)).1 = 0 := by
  have ha : a.toNat = 0x1801 ∨ a.toNat = 0x1802 ∨ a.toNat = 0x1803 ∨ a.toNat = 0x1804 ∨ a.toNat = 0x1805 ∨
      a.toNat = 0x2001 ∨ a.toNat = 0x2002 ∨ a.toNat = 0x2003 := by bv_omega
  rcases ha with h | h | h | h | h | h | h | h
  · exact State.readSprAt_zero (sprAt_fixed s.cfg .dcbpr h) rfl
  · exact State.readSprAt_zero (sprAt_fixed s.cfg .dcbfr h) rfl
  · exact State.readSprAt_zero (sprAt_fixed s.cfg .dcbir h) rfl
  · exact State.readSprAt_zero (sprAt_fixed s.cfg .dcbwr h) rfl
  · exact State.readSprAt_zero (sprAt_fixed s.cfg .dcblr h) rfl
  · exact State.readSprAt_zero (sprAt_fixed s.cfg .icbpr h) rfl
  · exact State.readSprAt_zero (sprAt_fixed s.cfg .icbir h) rfl
  · exact State.readSprAt_zero (sprAt_fixed s.cfg .icblr h) rfl

/-! ## The obligation -/

theorem contextReg_of {c : Config} {j : BitVec 4} (h : c.nsgf ≠ 0 ∨ j = 0) : contextReg c j = true := by
  rw [contextReg, Bool.or_eq_true, bne_iff_ne, beq_iff_eq]
  exact h

theorem gpr_present {c : Config} {j : BitVec 9} (hn : j.toNat / 32 ≤ c.nsgf.toNat) (hm : c.ngpr16 = false ∨ j.getLsbD 4 = false) :
    (Spr.gpr j).present c = true := by
  refine and_true_of (decide_eq_true hn) ?_
  rcases hm with hm | hm
  · rw [hm]
    rfl
  · rw [hm, Bool.and_false]
    rfl

theorem fpcsr_present {c : Config} (h : c.orfpx32 = true ∨ c.orfpx64 = true) : Spr.fpcsr.present c = true :=
  Bool.or_eq_true_iff.mpr h

/-- Settles O45: the move writes its register, and what it reads is said unit by unit. -/
theorem mfsprResults : Obligations.MfsprResults := by
  intro s rd ra k h hsm hr a data insn
  obtain ⟨hreg, hc, hseq, hmem⟩ := s.readWrites (sprAt s.cfg a) rd
  refine ⟨_, (s.readSprAt (sprAt s.cfg a)).1, execLMfspr_run h (mayAccess_supervisor hsm _) hr, hreg, hc, hseq, hmem,
    configReads s a, fun h => ?_, fun j hj => ⟨fun h => ?_, fun h => ?_, fun h => ?_⟩, fun h hh => ?_, fun h hh => ?_,
    fun h hp => ?_, fun h hp => ?_, fun h hp => ?_, fun h hp => ?_, fun j h hn hm => ?_,
    fun hd => ⟨dataMmuReads (MmuNames.at_data _) hd a, fun hu => dataMmuReads (MmuNames.at_unified hu) hd a⟩,
    fun hi hu => insnMmuReads hu hi a, fun h hd hcr => ?_, fun h hi hcr => ?_, fun h => s.reads_block h, fun h hp => ?_,
    fun h hp => ?_, fun hd => debugUnitReads hd a, fun hp => counterReads hp a, fun h hp => ?_, fun h hp => ?_, fun h hp => ?_,
    fun h hp => ?_, fun h hp => ?_⟩
  · exact s.reads_at .sr (congrArg BitVec.toNat h) rfl
  · exact s.reads_at (.epcr j) ((congrArg BitVec.toNat h).trans (indexed_toNat 0x20 j (by decide) (by decide))) (contextReg_of hj)
  · exact s.reads_at (.eear j) ((congrArg BitVec.toNat h).trans (indexed_toNat 0x30 j (by decide) (by decide))) (contextReg_of hj)
  · exact s.reads_at (.esr j) ((congrArg BitVec.toNat h).trans (indexed_toNat 0x40 j (by decide) (by decide))) (contextReg_of hj)
  · rw [s.reads_at .npc (congrArg BitVec.toNat h) rfl]
    simp only [State.readSpr, State.readNpc, hh]
    rfl
  · rw [s.reads_at .ppc (congrArg BitVec.toNat h) rfl]
    simp only [State.readSpr, State.readPpc, hh]
  · exact s.reads_at .fpcsr (congrArg BitVec.toNat h) (fpcsr_present hp)
  · exact s.reads_at .evbar (congrArg BitVec.toNat h) hp
  · exact s.reads_at .aecr (congrArg BitVec.toNat h) hp
  · exact s.reads_at .aesr (congrArg BitVec.toNat h) hp
  · exact s.reads_at (.gpr j) ((congrArg BitVec.toNat h).trans (indexed_toNat 0x400 j (by decide) (by decide))) (gpr_present hn hm)
  · exact State.reads_of (sprAt_dccr h) (and_true_of hd hcr)
  · exact State.reads_of (sprAt_iccr h) (and_true_of hi hcr)
  · exact s.reads_at .maclo (congrArg BitVec.toNat h) hp
  · exact s.reads_at .machi (congrArg BitVec.toNat h) hp
  · exact s.reads_at .pmr (congrArg BitVec.toNat h) hp
  · exact s.reads_at .picmr (congrArg BitVec.toNat h) hp
  · exact s.reads_at .picsr (congrArg BitVec.toNat h) hp
  · exact s.reads_at .ttmr (congrArg BitVec.toNat h) hp
  · exact s.reads_at .ttcr (congrArg BitVec.toNat h) hp

end Sys2Proof.Machine
end

section
/-! PROOFS. 44_orbis_control_system.md R565, R570: what `l.mtspr` writes. -/

namespace Sys2Proof.Machine

/-! ## What a write leaves unchanged -/

theorem State.writeBackBlock_rest (s : State) (ea : Word) :
    s.writeBackBlock ea = { s with stale := (s.writeBackBlock ea).stale } := by
  unfold State.writeBackBlock
  split <;> rfl

theorem State.invalidateInsnBlock_rest (s : State) (ea : Word) :
    s.invalidateInsnBlock ea = { s with stale := (s.invalidateInsnBlock ea).stale } := by
  unfold State.invalidateInsnBlock
  split <;> rfl

theorem State.settlePccr_rest (s : State) (i : BitVec 3) :
    s.settlePccr i = { s with pccr := (s.settlePccr i).pccr, freeCtr := (s.settlePccr i).freeCtr } := by
  unfold State.settlePccr
  split <;> rfl

theorem State.setGprAt_rest (s : State) (i : BitVec 9) (v : Word) :
    s.setGprAt i v = { s with gprs := (s.setGprAt i v).gprs } := by
  unfold State.setGprAt
  split <;> rfl

/-- No register is written that sequences instructions or holds memory: SR, NPC and the counters among them. -/
theorem State.writeSpr_keeps (s : State) (v : Word) (r : Spr) :
    (s.writeSpr v r).pc = s.pc ∧ (s.writeSpr v r).dsPending = s.dsPending ∧ (s.writeSpr v r).dsTarget = s.dsTarget ∧
      (s.writeSpr v r).mem = s.mem := by
  cases r
  case dmmucr | immucr =>
    simp only [State.writeSpr]
    split <;> exact ⟨rfl, rfl, rfl, rfl⟩
  case gpr i =>
    simp only [State.writeSpr]
    rw [State.setGprAt_rest]
    exact ⟨rfl, rfl, rfl, rfl⟩
  case dcbfr | dcbwr =>
    simp only [State.writeSpr]
    rw [State.writeBackBlock_rest]
    exact ⟨rfl, rfl, rfl, rfl⟩
  case icbir =>
    simp only [State.writeSpr]
    split
    · exact ⟨rfl, rfl, rfl, rfl⟩
    · rw [State.invalidateInsnBlock_rest]
      exact ⟨rfl, rfl, rfl, rfl⟩
  case pcmr i =>
    simp only [State.writeSpr]
    rw [State.settlePccr_rest]
    exact ⟨rfl, rfl, rfl, rfl⟩
  all_goals exact ⟨rfl, rfl, rfl, rfl⟩

/-! ## The state after the move -/

/-- The state after `l.mtspr` of `v` to the address `a`. -/
def State.afterMtspr (s : State) (a : BitVec 16) (v : Word) : State :=
  (s.writeSprAt (sprAt s.cfg a) v).finishMtspr (sprAt s.cfg a) v

/-- Completing after a write that keeps what sequences instructions. -/
theorem State.advance_after {s u : State} (hcfg : u.cfg = s.cfg) (hpc : u.pc = s.pc) (hp : u.dsPending = s.dsPending)
    (ht : u.dsTarget = s.dsTarget) : Completes s u.advance := by
  have h := u.completes_advance
  unfold Completes at h ⊢
  rw [hcfg, hpc, hp, ht] at h
  exact h

theorem State.writeSprAt_cases (s : State) (o : Option Spr) (v : Word) :
    s.writeSprAt o v = s ∨ ∃ r, o = some r ∧ s.writeSprAt o v = s.writeSpr v r := by
  cases o with
  | none => exact .inl rfl
  | some r =>
    by_cases h : (r.present s.cfg && mayWrite s r) = true
    · exact .inr ⟨r, rfl, if_pos h⟩
    · exact .inl (if_neg h)

theorem State.writeSprAt_keeps (s : State) (o : Option Spr) (v : Word) :
    (s.writeSprAt o v).pc = s.pc ∧ (s.writeSprAt o v).dsPending = s.dsPending ∧ (s.writeSprAt o v).dsTarget = s.dsTarget ∧
      (s.writeSprAt o v).mem = s.mem := by
  rcases s.writeSprAt_cases o v with h | ⟨r, -, h⟩
  · rw [h]
    exact ⟨rfl, rfl, rfl, rfl⟩
  · rw [h]
    exact s.writeSpr_keeps v r

theorem State.writeSprAt_completes (s : State) (o : Option Spr) (v : Word) :
    Completes s (s.writeSprAt o v).advance ∧ MemSame s (s.writeSprAt o v).advance := by
  obtain ⟨hpc, hp, ht, hmem⟩ := s.writeSprAt_keeps o v
  exact ⟨State.advance_after (State.writeSprAt_cfg s o v) hpc hp ht, fun _ => by rw [State.advance_mem, hmem]⟩

theorem Spr.unifyMmu_eq (r : Spr) : r.unifyMmu = r ∨ (r.unifyMmu.userRight = .none ∧ r.unifyMmu ≠ .npc) := by
  cases r <;> simp [Spr.unifyMmu, Spr.userRight]

theorem Spr.unifyCache_eq (r : Spr) : r.unifyCache = r ∨ (r.unifyCache.userRight = .none ∧ r.unifyCache ≠ .npc) := by
  cases r <;> simp [Spr.unifyCache, Spr.userRight]

/-- A name that stands for another register stands for one without a user right, and not for NPC. -/
theorem Spr.shared_eq (c : Config) (r : Spr) : r.shared c = r ∨ ((r.shared c).userRight = .none ∧ r.shared c ≠ .npc) := by
  have hcache : ∀ q : Spr, (q = r ∨ (q.userRight = .none ∧ q ≠ .npc)) →
      q.unifyCache = r ∨ (q.unifyCache.userRight = .none ∧ q.unifyCache ≠ .npc) := by
    intro q hq
    rcases q.unifyCache_eq with h | h
    · rw [h]
      exact hq
    · exact .inr h
  unfold Spr.shared
  cases c.unifiedMmu <;> cases c.unifiedCache
  · exact .inl rfl
  · exact hcache r (.inl rfl)
  · exact r.unifyMmu_eq
  · exact hcache _ r.unifyMmu_eq

theorem sprAt_some {c : Config} {a : BitVec 16} {q : Spr} (h : sprAt c a = some q) : ∃ r : Spr, a.toNat = r.address ∧ r.shared c = q := by
  obtain ⟨r, hr, hq⟩ := Option.map_eq_some_iff.mp h
  exact ⟨r, sprName_address hr, hq⟩

theorem sprAt_ne_npc {c : Config} {a : BitVec 16} (h : a ≠ 0x0010) : sprAt c a ≠ some .npc := by
  intro hn
  obtain ⟨r, ha, hr⟩ := sprAt_some hn
  rcases r.shared_eq c with hs | ⟨-, hs⟩
  · obtain rfl : r = .npc := hs.symm.trans hr
    exact h (BitVec.eq_of_toNat_eq ha)
  · exact hs hr

theorem State.afterMtspr_of_ne (s : State) {a : BitVec 16} (v : Word) (h : a ≠ 0x0010) :
    s.afterMtspr a v = (s.writeSprAt (sprAt s.cfg a) v).advance := State.finishMtspr_of_ne _ (sprAt_ne_npc h) v

/-- A write to an implemented register that the mode may write. -/
theorem State.afterMtspr_present {s : State} {a : BitVec 16} {v : Word} {r : Spr} (hat : sprAt s.cfg a = some r)
    (hp : r.present s.cfg = true) (hw : mayWrite s r = true) (hn : r ≠ .npc) :
    s.afterMtspr a v = (s.writeSpr v r).advance := by
  rw [State.afterMtspr, hat, State.writeSprAt_present rfl hp hw, State.finishMtspr_of_ne]
  exact fun h => hn (Option.some.inj h)

end Sys2Proof.Machine
end

section
/-! PROOFS. 44_orbis_control_system.md R565, R570: what `l.mtspr` writes in each unit. -/

namespace Sys2Proof.Machine

/-- In supervisor mode a write reaches every implemented register. -/
theorem State.mtspr_of {s : State} (hsm : s.sr.getLsbD 0 = true) {a : BitVec 16} (v : Word) {r : Spr} (hat : sprAt s.cfg a = some r)
    (hp : r.present s.cfg = true) (hn : r ≠ .npc := by nofun) : s.afterMtspr a v = (s.writeSpr v r).advance :=
  State.afterMtspr_present hat hp (mayWrite_supervisor hsm r) hn

/-- The same for a register that unified units do not rename. -/
theorem State.mtspr_at {s : State} (hsm : s.sr.getLsbD 0 = true) {a : BitVec 16} (v : Word) (r : Spr) (ha : a.toNat = r.address)
    (hp : r.present s.cfg = true) (hn : r ≠ .npc := by nofun) (hm : r.unifyMmu = r := by rfl) (hc : r.unifyCache = r := by rfl) :
    s.afterMtspr a v = (s.writeSpr v r).advance := State.mtspr_of hsm v (sprAt_fixed s.cfg r ha hm hc) hp hn

/-! ## The MMUs -/

/-- Which match registers an invalidation takes V from, as the statements say it. -/
theorem invalidated_spec (s : State) (m : Mmu) (ea : Word) (i : BitVec 9) :
    (InSet m.cfg ea i ∧ TagMatches s.cfg.xlen (m.mr.at i) ea → (invalidated s m ea).at i = m.mr.at i &&& 0xFFFFFFFE) ∧
    (¬ (InSet m.cfg ea i ∧ TagMatches s.cfg.xlen (m.mr.at i) ea) → (invalidated s m ea).at i = m.mr.at i) := by
  have hiff : (tlbTagMatches s.cfg.xlen (m.mr.at i) ea = true ∧ i.toNat / 128 ≤ m.cfg.ntw.toNat ∧
      i.toNat % 128 = (tlbSet m.cfg ea).toNat) ↔ InSet m.cfg ea i ∧ TagMatches s.cfg.xlen (m.mr.at i) ea := by
    rw [tlbTagMatches_iff, tlbSet_toNat, and_comm]
    rfl
  rw [invalidated_at]
  exact ⟨fun h => if_pos (hiff.mpr h), fun h => if_neg fun hh => h (hiff.mp hh)⟩

theorem lo32_getLsbD_zero (v : Word) : (v.setWidth 32 : Word32).getLsbD 0 = v.getLsbD 0 := by
  rw [BitVec.getLsbD_setWidth]
  rfl

theorem dataMmuWrites {s : State} (hsm : s.sr.getLsbD 0 = true) {g : BitVec 16} (hat : MmuNames.data.At s.cfg g)
    (hd : s.cfg.dmp = true) (a : BitVec 16) {v : Word} (hv : trunc s.cfg.xlen v = v) :
    DataMmuWrites s (s.afterMtspr a v) g a v := by
  refine ⟨?_, ?_, ?_, fun j hj => ⟨?_, ?_⟩, fun y k hy hk => ⟨?_, ?_⟩⟩
  · rintro rfl hp
    rw [State.mtspr_of hsm v hat.control (and_true_of hd hp), State.advance_dmmucr, State.advance_dtlbmr]
    simp only [MmuNames.data, State.writeSpr, lo32_getLsbD_zero]
    cases v.getLsbD 0
    · exact ⟨rfl, fun _ => rfl, State.advance_seq _⟩
    · exact ⟨rfl, fun i => flushed_at _ i, State.advance_seq _⟩
  · rintro rfl hp
    rw [State.mtspr_of hsm v hat.protection (and_true_of hd hp), State.advance_dmmupr]
    exact ⟨rfl, State.advance_seq _⟩
  · rintro rfl hp
    rw [State.mtspr_of hsm v hat.invalidate (and_true_of hd hp), State.advance_dtlbmr]
    have hmr : (s.writeSpr v .dtlbeir).dtlbmr = invalidated s s.dataMmu v := congrArg (invalidated s s.dataMmu) hv
    refine ⟨fun i => ?_, State.advance_seq _⟩
    rw [MmuNames.data, hmr]
    exact invalidated_spec s s.dataMmu v i
  · rintro rfl
    rw [State.mtspr_of hsm v (hat.atbMatch j) (and_decide_of hd hj), State.advance_datbmr]
    exact ⟨rfl, State.advance_seq _⟩
  · rintro rfl
    rw [State.mtspr_of hsm v (hat.atbTranslate j) (and_decide_of hd hj), State.advance_datbtr]
    exact ⟨rfl, State.advance_seq _⟩
  · rintro rfl
    rw [State.mtspr_of hsm v (hat.tlbMatch y k) (and_true_of hd (tlbExists_append hy hk)), State.advance_dtlbmr]
    exact ⟨rfl, State.advance_seq _⟩
  · rintro rfl
    rw [State.mtspr_of hsm v (hat.tlbTranslate y k) (and_true_of hd (tlbExists_append hy hk)), State.advance_dtlbtr]
    exact ⟨rfl, State.advance_seq _⟩

theorem insnMmuWrites {s : State} (hsm : s.sr.getLsbD 0 = true) (hu : s.cfg.unifiedMmu = false) (hd : s.cfg.imp = true)
    (a : BitVec 16) {v : Word} (hv : trunc s.cfg.xlen v = v) : InsnMmuWrites s (s.afterMtspr a v) a v := by
  have hat := MmuNames.at_insn hu
  refine ⟨?_, ?_, ?_, fun j hj => ⟨?_, ?_⟩, fun y k hy hk => ⟨?_, ?_⟩⟩
  · rintro rfl hp
    rw [State.mtspr_of hsm v hat.control (and_true_of hd hp), State.advance_immucr, State.advance_itlbmr]
    simp only [MmuNames.insn, State.writeSpr, lo32_getLsbD_zero]
    cases v.getLsbD 0
    · exact ⟨rfl, fun _ => rfl, State.advance_seq _⟩
    · exact ⟨rfl, fun i => flushed_at _ i, State.advance_seq _⟩
  · rintro rfl hp
    rw [State.mtspr_of (a := 0x1001) hsm v hat.protection (and_true_of hd hp), State.advance_immupr]
    exact ⟨rfl, State.advance_seq _⟩
  · rintro rfl hp
    rw [State.mtspr_of (a := 0x1002) hsm v hat.invalidate (and_true_of hd hp), State.advance_itlbmr]
    have hmmu : s.mmu .fetch = s.insnMmu := by rw [State.mmu_fetch, hu]; rfl
    have hmr : (s.writeSpr v .itlbeir).itlbmr = invalidated s s.insnMmu v := by
      rw [← hmmu]
      exact congrArg (invalidated s (s.mmu .fetch)) hv
    refine ⟨fun i => ?_, State.advance_seq _⟩
    rw [MmuNames.insn, hmr]
    exact invalidated_spec s s.insnMmu v i
  · rintro rfl
    rw [State.mtspr_of (a := 0x1004 + j.setWidth 16) hsm v (hat.atbMatch j) (and_decide_of hd hj), State.advance_iatbmr]
    exact ⟨rfl, State.advance_seq _⟩
  · rintro rfl
    rw [State.mtspr_of (a := 0x1008 + j.setWidth 16) hsm v (hat.atbTranslate j) (and_decide_of hd hj), State.advance_iatbtr]
    exact ⟨rfl, State.advance_seq _⟩
  · rintro rfl
    rw [State.mtspr_of (a := 0x1200 + 0x100 * y.setWidth 16 + k.setWidth 16) hsm v (hat.tlbMatch y k)
      (and_true_of hd (tlbExists_append hy hk)), State.advance_itlbmr]
    exact ⟨rfl, State.advance_seq _⟩
  · rintro rfl
    rw [State.mtspr_of (a := 0x1280 + 0x100 * y.setWidth 16 + k.setWidth 16) hsm v (hat.tlbTranslate y k)
      (and_true_of hd (tlbExists_append hy hk)), State.advance_itlbtr]
    exact ⟨rfl, State.advance_seq _⟩

/-! ## The debug unit, the counters and the PIC -/

theorem debugUnitWrites {s : State} (hsm : s.sr.getLsbD 0 = true) (hd : s.cfg.dup = true) (a : BitVec 16) (v : Word) :
    DebugUnitWrites s (s.afterMtspr a v) a (v.setWidth 32) := by
  refine ⟨fun j hj => ⟨fun h => ?_, fun h => ?_⟩, fun h => ?_, fun h => ?_, fun j hw h => ?_, fun h => ?_, fun h => ?_⟩
  · rw [State.mtspr_at hsm v (.dvr j) ((congrArg BitVec.toNat h).trans (indexed_toNat 0x3000 j (by decide) (by decide)))
      (and_decide_of hd hj), State.advance_dvr]
    exact ⟨rfl, State.advance_seq _⟩
  · rw [State.mtspr_at hsm v (.dcr j) ((congrArg BitVec.toNat h).trans (indexed_toNat 0x3008 j (by decide) (by decide)))
      (and_decide_of hd hj), State.advance_dcr]
    exact ⟨rfl, State.advance_seq _⟩
  · rw [State.mtspr_at hsm v .dmr1 (congrArg BitVec.toNat h) hd, State.advance_dmr1]
    exact ⟨rfl, State.advance_seq _⟩
  · rw [State.mtspr_at hsm v .dmr2 (congrArg BitVec.toNat h) hd, State.advance_dmr2]
    exact ⟨rfl, State.advance_seq _⟩
  · rw [State.mtspr_at hsm v (.dwcr j) ((congrArg BitVec.toNat h).trans (indexed_toNat 0x3012 j (by decide) (by decide)))
      (and_true_of hd hw), State.advance_dwcr]
    exact ⟨rfl, State.advance_seq _⟩
  · rw [State.mtspr_at hsm v .dsr (congrArg BitVec.toNat h) hd, State.advance_dsr]
    exact ⟨rfl, State.advance_seq _⟩
  · rw [State.mtspr_at hsm v .drr (congrArg BitVec.toNat h) hd, State.advance_drr]
    exact ⟨rfl, State.advance_seq _⟩

theorem State.settlePccr_idle {s : State} {j : BitVec 3} (h : (s.pcmr.at j).extractLsb' 4 22 = 0) : s.settlePccr j = s := by
  refine if_neg ?_
  rw [State.pccrLive, h]
  decide

theorem State.settlePccr_other {s : State} {i j : BitVec 3} (h : i ≠ j) : (s.settlePccr j).pccr.at i = s.pccr.at i := by
  unfold State.settlePccr
  split
  · exact Bank.at_put_ne _ _ h
  · rfl

theorem counterWrites {s : State} (hsm : s.sr.getLsbD 0 = true) (hp : s.cfg.pcup = true) (a : BitVec 16) (v : Word) :
    CounterWrites s (s.afterMtspr a v) a (v.setWidth 32) := by
  intro j hj
  refine ⟨fun h => ?_, fun h => ?_⟩
  · rw [State.mtspr_at hsm v (.pccr j) ((congrArg BitVec.toNat h).trans (indexed_toNat 0x3800 j (by decide) (by decide)))
      (and_decide_of hp hj), State.advance_pccr]
    exact ⟨rfl, State.advance_seq _⟩
  · rw [State.mtspr_at hsm v (.pcmr j) ((congrArg BitVec.toNat h).trans (indexed_toNat 0x3808 j (by decide) (by decide)))
      (and_decide_of hp hj), State.advance_pcmr, State.advance_pccr, State.advance_freeCtr]
    simp only [State.writeSpr]
    refine ⟨rfl, fun h0 => ?_, fun i hi => State.settlePccr_other hi, ?_⟩
    · rw [State.settlePccr_idle h0]
      exact State.advance_seq _
    · rw [State.settlePccr_rest]
      exact State.advance_seq _

/-- The bits of PICSR where latches of edge-triggered inputs are cleared. -/
theorem picsr_cleared (lines latch edge w : Word32) :
    (lines &&& ~~~edge) ||| ((latch &&& ~~~(w &&& edge)) &&& edge) =
      ((lines &&& ~~~edge) ||| (latch &&& edge)) &&& ~~~(w &&& edge) := by
  apply BitVec.eq_of_getLsbD_eq
  intro k hk
  simp only [BitVec.getLsbD_or, BitVec.getLsbD_and, BitVec.getLsbD_not, hk, decide_true, Bool.true_and]
  cases edge.getLsbD k <;> simp

theorem picWrites {s : State} (hsm : s.sr.getLsbD 0 = true) (hp : s.cfg.picp = true) (a : BitVec 16) (v : Word) :
    PicWrites s (s.afterMtspr a v) a (v.setWidth 32) := by
  refine ⟨fun h => ?_, fun h => ?_⟩
  · rw [State.mtspr_at hsm v .picmr (congrArg BitVec.toNat h) hp, State.advance_picmr]
    exact ⟨rfl, State.advance_seq _⟩
  · rw [State.mtspr_at hsm v .picsr (congrArg BitVec.toNat h) hp, State.advance_picLatch]
    refine ⟨?_, rfl, State.advance_seq _⟩
    unfold State.picsr
    rw [State.advance_irqLines, State.advance_picLatch, State.advance_cfg]
    exact picsr_cleared _ _ _ _

end Sys2Proof.Machine
end

section
/-! PROOFS. 44_orbis_control_system.md R565: the cache block registers, the read-only registers, and the whole of `l.mtspr`. -/

namespace Sys2Proof.Machine

/-! ## The cache block registers -/

theorem BlockMoves.congr {s t u : State} {k : Access} {v : Word} {wide : Bool} {gs : List Coherence} {h : Coherence}
    (hm : BlockMoves s u k v wide gs h) (ht : t.stale = u.stale) : BlockMoves s t k v wide gs h := by
  unfold BlockMoves at hm ⊢
  rw [ht]
  exact hm

/-- A write of the cache block register at `a` writes data back. -/
def WritesBack (s : State) (a : BitVec 16) : Prop :=
  s.cfg.dcp = true ∧ ((a = 0x1802 ∧ s.cfg.dc.cbfri = true) ∨ (a = 0x1804 ∧ s.cfg.dc.cbwbri = true))

/-- A write of the cache block register at `a` invalidates instructions. -/
def InvalidatesInsn (s : State) (a : BitVec 16) : Prop :=
  s.cfg.icp = true ∧ a = 0x2002 ∧ s.cfg.ic.cbiri = true ∧ s.cfg.unifiedCache = false

theorem BlockWrites.of_stale {s t : State} {a : BitVec 16} {v : Word}
    (hback : WritesBack s a → t.stale = (s.writeBackBlock v).stale)
    (hinv : InvalidatesInsn s a → t.stale = (s.invalidateInsnBlock v).stale)
    (hnone : ¬ WritesBack s a → ¬ InvalidatesInsn s a → t.stale = s.stale) : BlockWrites s t a v :=
  ⟨fun h => (writeBackBlock_moves s v).congr (hback h), fun h => (invalidateInsnBlock_moves s v).congr (hinv h), hnone⟩

/-- A write to a register that any mode with a right to it may write. -/
theorem State.writeSprAt_if {s : State} {o : Option Spr} {r : Spr} (h : o = some r) (hr : r.userRight ≠ .readSumra) (v : Word) :
    s.writeSprAt o v = if r.present s.cfg then s.writeSpr v r else s := by
  have hw : mayWrite s r = true := by rw [mayWrite, bne_iff_ne.mpr hr, Bool.or_true]
  rw [h]
  show (if r.present s.cfg && mayWrite s r then _ else _) = _
  rw [hw, Bool.and_true]

/-- The registers whose writes move the record of replaced words. -/
theorem blockWrites {s : State} {a : BitVec 16} {v : Word} (hv : trunc s.cfg.xlen v = v)
    (ha : a = 0x1802 ∨ a = 0x1804 ∨ a = 0x2002) :
    BlockWrites s (s.writeSprAt (sprAt s.cfg a) v) a v ∧
      s.writeSprAt (sprAt s.cfg a) v = { s with stale := (s.writeSprAt (sprAt s.cfg a) v).stale } := by
  rcases ha with rfl | rfl | rfl
  · rw [State.writeSprAt_if (sprAt_fixed s.cfg .dcbfr rfl) (by decide)]
    simp only [Spr.present, State.writeSpr, hv]
    by_cases hp : (s.cfg.dcp && s.cfg.dc.cbfri) = true
    · rw [if_pos hp]
      obtain ⟨hd, hb⟩ := Bool.and_eq_true_iff.mp hp
      exact ⟨.of_stale (fun _ => rfl) (fun ⟨_, h, _⟩ => absurd h (by decide)) (fun h => absurd ⟨hd, .inl ⟨rfl, hb⟩⟩ h),
        s.writeBackBlock_rest v⟩
    · rw [if_neg hp]
      refine ⟨.of_stale (fun ⟨hd, h⟩ => ?_) (fun ⟨_, h, _⟩ => absurd h (by decide)) (fun _ _ => rfl), rfl⟩
      rcases h with ⟨-, hb⟩ | ⟨h, -⟩
      · exact absurd (and_true_of hd hb) hp
      · exact absurd h (by decide)
  · rw [State.writeSprAt_if (sprAt_fixed s.cfg .dcbwr rfl) (by decide)]
    simp only [Spr.present, State.writeSpr, hv]
    by_cases hp : (s.cfg.dcp && s.cfg.dc.cbwbri) = true
    · rw [if_pos hp]
      obtain ⟨hd, hb⟩ := Bool.and_eq_true_iff.mp hp
      exact ⟨.of_stale (fun _ => rfl) (fun ⟨_, h, _⟩ => absurd h (by decide)) (fun h => absurd ⟨hd, .inr ⟨rfl, hb⟩⟩ h),
        s.writeBackBlock_rest v⟩
    · rw [if_neg hp]
      refine ⟨.of_stale (fun ⟨hd, h⟩ => ?_) (fun ⟨_, h, _⟩ => absurd h (by decide)) (fun _ _ => rfl), rfl⟩
      rcases h with ⟨h, -⟩ | ⟨-, hb⟩
      · exact absurd h (by decide)
      · exact absurd (and_true_of hd hb) hp
  · rw [State.writeSprAt_if (sprAt_fixed s.cfg .icbir rfl) (by decide)]
    simp only [Spr.present, State.writeSpr, hv]
    have hback : ¬ WritesBack s 0x2002 := by
      rintro ⟨-, ⟨h, -⟩ | ⟨h, -⟩⟩ <;> exact absurd h (by decide)
    by_cases hp : (s.cfg.icp && s.cfg.ic.cbiri) = true
    · rw [if_pos hp]
      obtain ⟨hi, hb⟩ := Bool.and_eq_true_iff.mp hp
      cases hu : s.cfg.unifiedCache
      · rw [if_neg (by decide)]
        exact ⟨.of_stale (fun h => absurd h hback) (fun _ => rfl) (fun _ h => absurd ⟨hi, rfl, hb, hu⟩ h),
          s.invalidateInsnBlock_rest v⟩
      · rw [if_pos rfl]
        exact ⟨.of_stale (fun h => absurd h hback) (fun ⟨_, _, _, h⟩ => absurd (hu.symm.trans h) (by decide)) (fun _ _ => rfl), rfl⟩
    · rw [if_neg hp]
      exact ⟨.of_stale (fun h => absurd h hback) (fun ⟨hi, _, hb, _⟩ => absurd (and_true_of hi hb) hp) (fun _ _ => rfl), rfl⟩

/-! ## Writes that change nothing -/

theorem State.writeSprAt_ignored {s : State} {o : Option Spr} {v : Word} (h : ∀ r, o = some r → s.writeSpr v r = s) :
    s.writeSprAt o v = s := by
  rcases s.writeSprAt_cases o v with hs | ⟨r, ho, hs⟩
  · exact hs
  · exact hs.trans (h r ho)

/-- The registers of group 0 keep their names. -/
theorem Spr.shared_of_system (c : Config) {r : Spr} (h : r.address < 0x800) : r.shared c = r := by
  refine Spr.shared_of_fixed c ?_ ?_ <;> cases r <;> first | rfl | (simp only [Spr.address] at h; omega)

/-- The read-only registers of group 0. -/
theorem State.writeSpr_readOnly (s : State) (v : Word) {r : Spr}
    (h : r.address ≤ 0x000A ∨ r.address = 0x0012 ∨ (0x0015 ≤ r.address ∧ r.address ≤ 0x001C) ∨ r.address = 0x0080 ∨
      r.address = 0x0081) : s.writeSpr v r = s := by
  cases r <;> first | rfl | (simp only [Spr.address] at h; omega)

theorem State.writeSprAt_readOnly (s : State) (v : Word) {a : BitVec 16}
    (h : a ≤ 0x000A ∨ a = 0x0012 ∨ (0x0015 ≤ a ∧ a ≤ 0x001C) ∨ a = 0x0080 ∨ a = 0x0081) : s.writeSprAt (sprAt s.cfg a) v = s := by
  refine State.writeSprAt_ignored fun q hq => ?_
  obtain ⟨r, ha, rfl⟩ := sprAt_some hq
  have hr : r.address ≤ 0x000A ∨ r.address = 0x0012 ∨ (0x0015 ≤ r.address ∧ r.address ≤ 0x001C) ∨ r.address = 0x0080 ∨
      r.address = 0x0081 := by
    rw [← ha]
    bv_omega
  rw [Spr.shared_of_system _ (by omega)]
  exact s.writeSpr_readOnly v hr

/-- The cache block registers whose operation the model does not need. -/
theorem State.writeSprAt_block (s : State) (v : Word) {a : BitVec 16}
    (h : a = 0x1801 ∨ a = 0x1803 ∨ a = 0x1805 ∨ a = 0x2001 ∨ a = 0x2003) : s.writeSprAt (sprAt s.cfg a) v = s := by
  refine State.writeSprAt_ignored fun q hq => ?_
  rcases h with rfl | rfl | rfl | rfl | rfl
  · rw [sprAt_fixed s.cfg .dcbpr rfl] at hq
    cases hq
    rfl
  · rw [sprAt_fixed s.cfg .dcbir rfl] at hq
    cases hq
    rfl
  · rw [sprAt_fixed s.cfg .dcblr rfl] at hq
    cases hq
    rfl
  · rw [sprAt_fixed s.cfg .icbpr rfl] at hq
    cases hq
    rfl
  · rw [sprAt_fixed s.cfg .icblr rfl] at hq
    cases hq
    rfl

/-! ## The obligation -/

/-- A write that changes nothing leaves the state advanced. -/
theorem State.afterMtspr_ignored {s : State} {a : BitVec 16} {v : Word} (hne : a ≠ 0x0010)
    (h : s.writeSprAt (sprAt s.cfg a) v = s) : s.afterMtspr a v = s.advance := by
  rw [State.afterMtspr_of_ne s v hne, h]

/-- A write of a cache block register that moves the record leaves nothing else changed. -/
theorem blockWrites_afterMtspr {s : State} {a : BitVec 16} {v : Word} (hv : trunc s.cfg.xlen v = v)
    (ha : a = 0x1802 ∨ a = 0x1804 ∨ a = 0x2002) :
    BlockWrites s (s.afterMtspr a v) a v ∧ s.afterMtspr a v = { s.seqOf (s.afterMtspr a v) with stale := (s.afterMtspr a v).stale } := by
  have hne : a ≠ 0x0010 := by rcases ha with rfl | rfl | rfl <;> decide
  obtain ⟨⟨hback, hinv, hnone⟩, hrest⟩ := blockWrites hv ha
  rw [State.afterMtspr_of_ne s v hne]
  have hstale : (s.writeSprAt (sprAt s.cfg a) v).advance.stale = (s.writeSprAt (sprAt s.cfg a) v).stale := State.advance_stale _
  refine ⟨⟨fun h => (hback h).congr hstale, fun h => (hinv h).congr hstale, fun h h' => hstale.trans (hnone h h')⟩, ?_⟩
  rw [hstale]
  generalize (s.writeSprAt (sprAt s.cfg a) v) = u at hrest ⊢
  rw [hrest]
  exact State.advance_seq _

/-- A write of NPC sets the next `pc` and nothing else. -/
theorem State.afterMtspr_npc (s : State) (v : Word) : s.afterMtspr 0x0010 v = s.setNpc v := by
  have hat : sprAt s.cfg 0x0010 = some .npc := sprAt_fixed s.cfg .npc rfl
  rw [State.afterMtspr, hat, State.writeSprAt_ignored fun r hr => by cases hr; rfl]
  exact if_pos rfl

/-- Every move sequences as it should and leaves memory alone. -/
theorem State.afterMtspr_seq (s : State) (a : BitVec 16) (v : Word) :
    MemSame s (s.afterMtspr a v) ∧ (s.afterMtspr a v).ppc = s.pc ∧ (a ≠ 0x0010 → Completes s (s.afterMtspr a v)) := by
  by_cases hne : a = 0x0010
  · subst hne
    rw [State.afterMtspr_npc]
    exact ⟨fun _ => rfl, rfl, fun h => absurd rfl h⟩
  · obtain ⟨hc, hmem⟩ := s.writeSprAt_completes (sprAt s.cfg a) v
    rw [State.afterMtspr_of_ne s v hne]
    exact ⟨hmem, hc.2.2, fun _ => hc⟩

/-- Settles O46: what every move leaves, then unit by unit what it writes. -/
theorem mtsprResults : Obligations.MtsprResults := by
  intro s ra rb k h hsm hr a v w
  have hv : trunc s.cfg.xlen v = v := s.trunc_gpr rb
  obtain ⟨hmem, hppc, hcompletes⟩ := s.afterMtspr_seq a v
  have hrun : exec (.lMtspr ra rb k) s = .next (s.afterMtspr a v) := execLMtspr_run h (mayAccess_supervisor hsm _) hr
  refine ⟨s.afterMtspr a v, hrun, hmem, hppc, hcompletes, fun h => ?_, fun j hj => ⟨fun h => ?_, fun h => ?_, fun h => ?_⟩,
    fun h hp => ?_, fun h hp => ?_, fun h hp => ?_, fun h hp => ?_, fun h hp => ?_, fun h hp => ?_, fun h hp => ?_,
    fun h hp => ?_, fun h hp => ?_,
    fun hd => ⟨dataMmuWrites hsm (MmuNames.at_data _) hd a hv, fun hu => dataMmuWrites hsm (MmuNames.at_unified hu) hd a hv⟩,
    fun hi hu => insnMmuWrites hsm hu hi a hv, fun hd => debugUnitWrites hsm hd a v, fun hp => counterWrites hsm hp a v,
    fun hp => picWrites hsm hp a v, fun h hd hcr => ?_, fun h hi hcr => ?_, fun h => blockWrites_afterMtspr hv h, fun h => ?_,
    fun h => ?_, fun j h hn hm => ?_⟩
  · rw [h, State.afterMtspr_npc]
    exact ⟨rfl, rfl, rfl⟩
  · rw [State.mtspr_at hsm v (.epcr j) ((congrArg BitVec.toNat h).trans (indexed_toNat 0x20 j (by decide) (by decide)))
      (contextReg_of hj), State.advance_epcr]
    exact ⟨congrArg (Bank.put s.epcr j) hv, State.advance_seq _⟩
  · rw [State.mtspr_at hsm v (.eear j) ((congrArg BitVec.toNat h).trans (indexed_toNat 0x30 j (by decide) (by decide)))
      (contextReg_of hj), State.advance_eear]
    exact ⟨congrArg (Bank.put s.eear j) hv, State.advance_seq _⟩
  · rw [State.mtspr_at hsm v (.esr j) ((congrArg BitVec.toNat h).trans (indexed_toNat 0x40 j (by decide) (by decide)))
      (contextReg_of hj), State.advance_esr]
    exact ⟨congrArg (Bank.put s.esr j) hv, State.advance_seq _⟩
  · rw [State.mtspr_at hsm v .fpcsr (congrArg BitVec.toNat h) (fpcsr_present hp), State.advance_fpcsr]
    exact ⟨rfl, State.advance_seq _⟩
  · rw [State.mtspr_at hsm v .evbar (congrArg BitVec.toNat h) hp, State.advance_evbar]
    exact ⟨rfl, State.advance_seq _⟩
  · rw [State.mtspr_at hsm v .aecr (congrArg BitVec.toNat h) hp, State.advance_aecr]
    exact ⟨rfl, State.advance_seq _⟩
  · rw [State.mtspr_at hsm v .aesr (congrArg BitVec.toNat h) hp, State.advance_aesr]
    exact ⟨rfl, State.advance_seq _⟩
  · rw [State.mtspr_at hsm v .maclo (congrArg BitVec.toNat h) hp, State.advance_maclo]
    exact ⟨rfl, State.advance_seq _⟩
  · rw [State.mtspr_at hsm v .machi (congrArg BitVec.toNat h) hp, State.advance_machi]
    exact ⟨rfl, State.advance_seq _⟩
  · rw [State.mtspr_at hsm v .pmr (congrArg BitVec.toNat h) hp, State.advance_pmr]
    exact ⟨rfl, State.advance_seq _⟩
  · rw [State.mtspr_at hsm v .ttmr (congrArg BitVec.toNat h) hp, State.advance_ttmr]
    exact ⟨rfl, State.advance_seq _⟩
  · rw [State.mtspr_at hsm v .ttcr (congrArg BitVec.toNat h) hp, State.advance_ttcr]
    exact ⟨rfl, State.advance_seq _⟩
  · rw [State.mtspr_of hsm v (sprAt_dccr h) (and_true_of hd hcr), State.advance_dccr]
    exact ⟨rfl, State.advance_seq _⟩
  · rw [State.mtspr_of hsm v (sprAt_iccr h) (and_true_of hi hcr), State.advance_iccr]
    exact ⟨rfl, State.advance_seq _⟩
  · have hne : a ≠ 0x0010 := by rcases h with h | h | h | h | h <;> rw [h] <;> decide
    rw [State.afterMtspr_ignored hne (s.writeSprAt_block v h)]
    exact s.advance_seq
  · have hne : a ≠ 0x0010 := by bv_omega
    rw [State.afterMtspr_ignored hne (s.writeSprAt_readOnly v h)]
    exact s.advance_seq
  · rw [State.mtspr_at hsm v (.gpr j) ((congrArg BitVec.toNat h).trans (indexed_toNat 0x400 j (by decide) (by decide)))
      (gpr_present hn hm)]
    have hgpr : ∀ i, (s.writeSpr v (.gpr j)).advance.gprAt i = (s.setGprAt j v).gprAt i := fun i =>
      State.gprAt_congr (State.advance_gprs _) (State.advance_cfg _) i
    refine ⟨?_, fun i hi => ?_, ?_⟩
    · rw [hgpr, State.gprAt_setGprAt, if_pos rfl, hv]
    · rw [hgpr, State.gprAt_setGprAt, if_neg hi]
    · rw [State.advance_gprs]
      show (s.setGprAt j v).advance = { s.seqOf (s.setGprAt j v).advance with gprs := (s.setGprAt j v).gprs }
      have hrest := s.setGprAt_rest j v
      generalize s.setGprAt j v = u at hrest ⊢
      rw [hrest]
      exact State.advance_seq _

end Sys2Proof.Machine
end

section
/-! PROOFS. 10_state.md R51, R54: special-register moves in user mode. -/

namespace Sys2Proof.Machine

/-! ## Rights -/

/-- What user mode may access. -/
theorem mayAccess_user {s : State} (h : s.sr.getLsbD 0 = false) (r : Spr) :
    mayAccess s (some r) = (r.present s.cfg && match r.userRight with
      | .none => false
      | .readWrite => true
      | .write => true
      | .readSumra => s.sumra) := by
  show (s.sr.getLsbD 0 || _) = _
  rw [h]
  exact Bool.false_or _

/-- An address that user mode may access is one of those that the statement names. -/
theorem userOpen_of_mayAccess {s : State} (h : s.sr.getLsbD 0 = false) {a : BitVec 16} (hm : mayAccess s (sprAt s.cfg a) = true) :
    userOpen s a = true := by
  cases hat : sprAt s.cfg a with
  | none =>
    rw [hat, mayAccess, State.sm, h] at hm
    cases hm
  | some q =>
    rw [hat, mayAccess_user h, Bool.and_eq_true] at hm
    obtain ⟨hp, hright⟩ := hm
    obtain ⟨r, ha, hr⟩ := sprAt_some hat
    obtain rfl : r = q := by
      rcases r.shared_eq s.cfg with hs | ⟨hs, -⟩
      · exact hs.symm.trans hr
      · rw [hr] at hs
        rw [hs] at hright
        cases hright
    have hlit : ∀ b : BitVec 16, b.toNat = r.address → a = b := fun b hb => BitVec.eq_of_toNat_eq (ha.trans hb.symm)
    unfold userOpen
    cases r <;> simp only [Spr.userRight, Bool.false_eq_true] at hright
    case fpcsr =>
      have hp : (s.cfg.orfpx32 || s.cfg.orfpx64) = true := hp
      have hright : s.sr.getLsbD 16 = true := hright
      simp [hp, hright, hlit 0x0014 rfl]
    case pccr i =>
      obtain ⟨hpc, hi⟩ := Bool.and_eq_true_iff.mp (show (s.cfg.pcup && decide (i.toNat ≤ s.cfg.npc.toNat)) = true from hp)
      have hright : s.sr.getLsbD 16 = true := hright
      have ha : a.toNat = 0x3800 + i.toNat := ha
      have hrange : 0x3800 ≤ a.toNat ∧ a.toNat ≤ 0x3800 + s.cfg.npc.toNat := by
        have := of_decide_eq_true hi
        omega
      simp [hpc, hright, hrange]
    case ttcr =>
      have hp : s.cfg.ttp = true := hp
      have hright : s.sr.getLsbD 16 = true := hright
      simp [hp, hright, hlit 0x5001 rfl]
    case maclo =>
      have hp : s.cfg.mp = true := hp
      simp [hp, hlit 0x2801 rfl]
    case machi =>
      have hp : s.cfg.mp = true := hp
      simp [hp, hlit 0x2802 rfl]
    case dcbpr =>
      obtain ⟨hd, hb⟩ := Bool.and_eq_true_iff.mp (show (s.cfg.dcp && s.cfg.dc.cbpri) = true from hp)
      simp [hd, hb, hlit 0x1801 rfl]
    case dcbfr =>
      obtain ⟨hd, hb⟩ := Bool.and_eq_true_iff.mp (show (s.cfg.dcp && s.cfg.dc.cbfri) = true from hp)
      simp [hd, hb, hlit 0x1802 rfl]
    case dcbwr =>
      obtain ⟨hd, hb⟩ := Bool.and_eq_true_iff.mp (show (s.cfg.dcp && s.cfg.dc.cbwbri) = true from hp)
      simp [hd, hb, hlit 0x1804 rfl]
    case dcblr =>
      obtain ⟨hd, hb⟩ := Bool.and_eq_true_iff.mp (show (s.cfg.dcp && s.cfg.dc.cblri) = true from hp)
      simp [hd, hb, hlit 0x1805 rfl]
    case icbpr =>
      obtain ⟨hd, hb⟩ := Bool.and_eq_true_iff.mp (show (s.cfg.icp && s.cfg.ic.cbpri) = true from hp)
      simp [hd, hb, hlit 0x2001 rfl]
    case icbir =>
      obtain ⟨hd, hb⟩ := Bool.and_eq_true_iff.mp (show (s.cfg.icp && s.cfg.ic.cbiri) = true from hp)
      simp [hd, hb, hlit 0x2002 rfl]
    case icblr =>
      obtain ⟨hd, hb⟩ := Bool.and_eq_true_iff.mp (show (s.cfg.icp && s.cfg.ic.cblri) = true from hp)
      simp [hd, hb, hlit 0x2003 rfl]

/-! ## The moves -/

section Moves
variable {s : State} {r ra : Reg} {k : BitVec 16}

/-- Moves to an address that is closed trap. -/
theorem closed_traps (ha : mayAccess s (sprAt s.cfg (s.sprAddress ra k)) = false) (hx : s.redirects .illegal = false) :
    (Ready (.lMfspr r ra k) s → ∃ t, exec (.lMfspr r ra k) s = .next t ∧ Enters s t .illegal s.pc) ∧
    (Ready (.lMtspr ra r k) s → ∃ t, exec (.lMtspr ra r k) s = .next t ∧ Enters s t .illegal s.pc) := by
  obtain ⟨hread, hwrite⟩ := exec_spr_closed (r := r) ha
  exact ⟨fun h => ⟨_, hread h, State.enters_enter hx _⟩, fun h => ⟨_, hwrite h, State.enters_enter hx _⟩⟩

/-- A read that draws no free value. -/
theorem mfspr_reads (ha : mayAccess s (sprAt s.cfg (s.sprAddress ra k)) = true) (hr : s.regMissing r = false) {v : Word}
    (hv : s.readSprAt (sprAt s.cfg (s.sprAddress ra k)) = (v, s)) (h : Ready (.lMfspr r ra k) s) :
    ∃ t, exec (.lMfspr r ra k) s = .next t ∧ WritesOnly s t r v := by
  refine ⟨_, execLMfspr_run h ha hr, ?_⟩
  rw [hv]
  exact s.writesOnly r v

/-- A register with right `R*`: it is read, and a write does nothing, exactly while SR[SUMRA] = 1. -/
theorem sumra_access {x : Spr} (hu : s.sr.getLsbD 0 = false) (hr : s.regMissing r = false) (hx : s.redirects .illegal = false)
    (hat : sprAt s.cfg (s.sprAddress ra k) = some x) (hp : x.present s.cfg = true) (hright : x.userRight = .readSumra)
    {p : Word → Prop} (hv : p (s.readSpr x).1) :
    (s.sr.getLsbD 16 = true →
      (Ready (.lMfspr r ra k) s → ∃ (t : State) (v : Word), exec (.lMfspr r ra k) s = .next t ∧ p v ∧
        WritesReg s t r v ∧ Completes s t ∧ t = { s.seqOf t with gprs := t.gprs, freeCtr := t.freeCtr } ∧ MemSame s t) ∧
      (Ready (.lMtspr ra r k) s →
        ∃ t, exec (.lMtspr ra r k) s = .next t ∧ Completes s t ∧ t = s.seqOf t ∧ MemSame s t)) ∧
    (s.sr.getLsbD 16 = false →
      (Ready (.lMfspr r ra k) s → ∃ t, exec (.lMfspr r ra k) s = .next t ∧ Enters s t .illegal s.pc) ∧
      (Ready (.lMtspr ra r k) s → ∃ t, exec (.lMtspr ra r k) s = .next t ∧ Enters s t .illegal s.pc)) := by
  have hmay : mayAccess s (sprAt s.cfg (s.sprAddress ra k)) = s.sr.getLsbD 16 := by
    rw [hat, mayAccess_user hu, hp, hright, Bool.true_and]
    rfl
  refine ⟨fun hs => ⟨fun h => ?_, fun h => ?_⟩, fun hs => closed_traps (hmay.trans hs) hx⟩
  · obtain ⟨hreg, hc, hseq, hmem⟩ := s.readWrites (sprAt s.cfg (s.sprAddress ra k)) r
    refine ⟨_, _, execLMfspr_run h (hmay.trans hs) hr, ?_, hreg, hc, hseq, hmem⟩
    rw [State.reads_of hat hp]
    exact hv
  · have hignored : s.writeSprAt (some x) (s.gpr r) = s := by
      refine if_neg ?_
      rw [mayWrite, State.sm, hu, hright, hp]
      decide
    refine ⟨_, execLMtspr_run h (hmay.trans hs) hr, ?_⟩
    rw [hat, hignored, State.finishMtspr_of_ne]
    · exact s.advance_stays
    · intro hnpc
      rw [Option.some.inj hnpc] at hright
      cases hright

/-- An accumulator register: user mode reads and writes it. -/
theorem accumulator_access {x : Spr} (hu : s.sr.getLsbD 0 = false) (hr : s.regMissing r = false)
    (hat : sprAt s.cfg (s.sprAddress ra k) = some x) (hp : x.present s.cfg = true) (hright : x.userRight = .readWrite) {v : Word}
    (hv : s.readSpr x = (v, s)) :
    (Ready (.lMfspr r ra k) s → ∃ t, exec (.lMfspr r ra k) s = .next t ∧ WritesOnly s t r v) ∧
    (Ready (.lMtspr ra r k) s → exec (.lMtspr ra r k) s = .next (s.writeSpr (s.gpr r) x).advance) := by
  have hmay : mayAccess s (sprAt s.cfg (s.sprAddress ra k)) = true := by
    rw [hat, mayAccess_user hu, hp, hright, Bool.true_and]
  have hnpc : x ≠ .npc := by
    rintro rfl
    cases hright
  refine ⟨mfspr_reads hmay hr ((State.readSprAt_present hat hp).trans hv), fun h => ?_⟩
  rw [execLMtspr_run h hmay hr]
  have hmw : mayWrite s x = true := by rw [mayWrite, hright]; exact Bool.or_true _
  exact congrArg Host.Outcome.next (State.afterMtspr_present hat hp hmw hnpc)

/-- A cache block register that user mode may access: it reads as zero, and a write moves the record of replaced words at most. -/
theorem block_access {x : Spr} (hu : s.sr.getLsbD 0 = false) (hr : s.regMissing r = false)
    (hat : sprAt s.cfg (s.sprAddress ra k) = some x) (hp : x.present s.cfg = true) (hright : x.userRight = .write)
    (hv : s.readSpr x = (0, s))
    (hw : BlockWrites s (s.afterMtspr (s.sprAddress ra k) (s.gpr r)) (s.sprAddress ra k) (s.gpr r) ∧
      s.afterMtspr (s.sprAddress ra k) (s.gpr r) = { s.seqOf (s.afterMtspr (s.sprAddress ra k) (s.gpr r)) with
        stale := (s.afterMtspr (s.sprAddress ra k) (s.gpr r)).stale }) :
    (Ready (.lMfspr r ra k) s → ∃ t, exec (.lMfspr r ra k) s = .next t ∧ WritesOnly s t r 0) ∧
    (Ready (.lMtspr ra r k) s → ∃ t, exec (.lMtspr ra r k) s = .next t ∧ Completes s t ∧
      BlockWrites s t (s.sprAddress ra k) (s.gpr r) ∧ t = { s.seqOf t with stale := t.stale } ∧ MemSame s t) := by
  have hmay : mayAccess s (sprAt s.cfg (s.sprAddress ra k)) = true := by
    rw [hat, mayAccess_user hu, hp, hright, Bool.true_and]
  have hne : s.sprAddress ra k ≠ 0x0010 := by
    intro h
    rw [h, sprAt_fixed s.cfg .npc rfl] at hat
    cases hat
    cases hright
  obtain ⟨hmem, -, hc⟩ := s.afterMtspr_seq (s.sprAddress ra k) (s.gpr r)
  exact ⟨mfspr_reads hmay hr ((State.readSprAt_present hat hp).trans hv),
    fun h => ⟨_, execLMtspr_run h hmay hr, hc hne, hw.1, hw.2, hmem⟩⟩

end Moves

/-- A write of a cache block register that moves nothing. -/
theorem blockWrites_ignored (s : State) {a : BitVec 16} (v : Word) (h : a = 0x1801 ∨ a = 0x1805 ∨ a = 0x2001 ∨ a = 0x2003) :
    BlockWrites s (s.afterMtspr a v) a v ∧ s.afterMtspr a v = { s.seqOf (s.afterMtspr a v) with stale := (s.afterMtspr a v).stale } := by
  have hne : a ≠ 0x0010 ∧ a ≠ 0x1802 ∧ a ≠ 0x1804 ∧ a ≠ 0x2002 := by rcases h with rfl | rfl | rfl | rfl <;> decide
  obtain ⟨hn, hcbfr, hcbwr, hcbir⟩ := hne
  have hstale : s.advance.stale = s.stale := State.advance_stale s
  rw [State.afterMtspr_ignored hn (s.writeSprAt_block v (by tauto)), hstale]
  refine ⟨.of_stale (fun hw => ?_) (fun hi => absurd hi.2.1 hcbir) (fun _ _ => hstale), s.advance_seq⟩
  rcases hw.2 with ⟨hw, -⟩ | ⟨hw, -⟩
  · exact absurd hw hcbfr
  · exact absurd hw hcbwr

/-- Settles O49: the closed addresses, then the open ones by their right. -/
theorem userSprAccess : Obligations.UserSprAccess := by
  intro s r ra k hu hr hx a traps reads whileSumra
  have hv : trunc s.cfg.xlen (s.gpr r) = s.gpr r := s.trunc_gpr r
  refine ⟨fun hclosed => ?_, fun h hp => ?_, fun h hp => ?_, fun h hp => ?_, fun h hp => ?_, fun j h hp hj => ?_, fun h => ?_⟩
  · refine closed_traps (Bool.eq_false_iff.mpr fun hm => ?_) hx
    exact Bool.false_ne_true (hclosed.symm.trans (userOpen_of_mayAccess hu hm))
  · obtain ⟨hread, hwrite⟩ := accumulator_access (ra := ra) (k := k) hu hr (sprAt_fixed s.cfg .maclo (congrArg BitVec.toNat h)) hp
      rfl rfl
    refine ⟨hread, fun hready => ⟨_, hwrite hready, State.completes_advance _, State.advance_maclo _, ?_, fun _ => ?_⟩⟩
    · rw [State.advance_maclo]
      exact State.advance_seq _
    · rw [State.advance_mem]
      rfl
  · obtain ⟨hread, hwrite⟩ := accumulator_access (ra := ra) (k := k) hu hr (sprAt_fixed s.cfg .machi (congrArg BitVec.toNat h)) hp
      rfl rfl
    refine ⟨hread, fun hready => ⟨_, hwrite hready, State.completes_advance _, State.advance_machi _, ?_, fun _ => ?_⟩⟩
    · rw [State.advance_machi]
      exact State.advance_seq _
    · rw [State.advance_mem]
      rfl
  · exact sumra_access hu hr hx (sprAt_fixed s.cfg .ttcr (congrArg BitVec.toNat h)) hp rfl rfl
  · exact sumra_access hu hr hx (sprAt_fixed s.cfg .fpcsr (congrArg BitVec.toNat h)) (fpcsr_present hp) rfl rfl
  · exact sumra_access hu hr hx (sprAt_fixed s.cfg (.pccr j)
      ((congrArg BitVec.toNat h).trans (indexed_toNat 0x3800 j (by decide) (by decide)))) (and_decide_of hp hj) rfl
      (s.readSpr_pccr j).2
  · rcases h with ⟨hd, ⟨h, hb⟩ | ⟨h, hb⟩ | ⟨h, hb⟩ | ⟨h, hb⟩⟩ | ⟨hi, ⟨h, hb⟩ | ⟨h, hb⟩ | ⟨h, hb⟩⟩
    · exact block_access hu hr (sprAt_fixed s.cfg .dcbpr (congrArg BitVec.toNat h)) (and_true_of hd hb) rfl rfl
        (blockWrites_ignored s _ (.inl h))
    · exact block_access hu hr (sprAt_fixed s.cfg .dcbfr (congrArg BitVec.toNat h)) (and_true_of hd hb) rfl rfl
        (blockWrites_afterMtspr hv (.inl h))
    · exact block_access hu hr (sprAt_fixed s.cfg .dcbwr (congrArg BitVec.toNat h)) (and_true_of hd hb) rfl rfl
        (blockWrites_afterMtspr hv (.inr (.inl h)))
    · exact block_access hu hr (sprAt_fixed s.cfg .dcblr (congrArg BitVec.toNat h)) (and_true_of hd hb) rfl rfl
        (blockWrites_ignored s _ (.inr (.inl h)))
    · exact block_access hu hr (sprAt_fixed s.cfg .icbpr (congrArg BitVec.toNat h)) (and_true_of hi hb) rfl rfl
        (blockWrites_ignored s _ (.inr (.inr (.inl h))))
    · exact block_access hu hr (sprAt_fixed s.cfg .icbir (congrArg BitVec.toNat h)) (and_true_of hi hb) rfl rfl
        (blockWrites_afterMtspr hv (.inr (.inr h)))
    · exact block_access hu hr (sprAt_fixed s.cfg .icblr (congrArg BitVec.toNat h)) (and_true_of hi hb) rfl rfl
        (blockWrites_ignored s _ (.inr (.inr (.inr h))))

end Sys2Proof.Machine
end

section
/-! PROOFS. 60_exceptions.md R890, R891: what an instruction in user mode may change. -/

namespace Sys2Proof.Machine

/-! ## Reads of bytes that are not written, of any memory -/

theorem Memory.read_write_of_ne (m : Memory) {a b : Nat} (v : Byte) (h : b ≠ a) : (m.write a v).read b = m.read b := by
  induction m with
  | nil =>
    unfold Memory.write
    split
    · rfl
    · exact if_neg h
  | cons d m ih =>
    obtain ⟨e, w⟩ := d
    unfold Memory.write
    split
    · split
      · rfl
      · exact if_neg h
    · split
      · rename_i hae
        subst hae
        have hskip : Memory.read ((a, w) :: m) b = Memory.read m b := if_neg h
        rw [hskip]
        split
        · rfl
        · exact if_neg h
      · simp only [Memory.read, ih]

theorem Memory.read_writeAll_of_not_mem (cs : List Host.Cell) (m : Memory) {b : Nat} (h : ∀ c ∈ cs, c.1 ≠ b) :
    (m.writeAll cs).read b = m.read b := by
  induction cs generalizing m with
  | nil => rfl
  | cons c cs ih =>
    show ((m.write c.1 c.2).writeAll cs).read b = m.read b
    rw [ih _ fun d hd => h d (List.mem_cons_of_mem _ hd), Memory.read_write_of_ne _ _ (h c List.mem_cons_self).symm]

/-! ## Composing what user mode may change -/

theorem PageHistory.refl {n : Nat} (b : Bank n Word32) : PageHistory b b := ⟨0, .inl rfl, fun _ _ => rfl⟩

theorem edges_same (latch lines edge : Word32) : latch = latch ||| (lines &&& ~~~lines &&& edge) := by
  apply BitVec.eq_of_getLsbD_eq
  intro k hk
  simp only [BitVec.getLsbD_or, BitVec.getLsbD_and, BitVec.getLsbD_not, hk, decide_true, Bool.true_and, Bool.and_not_self,
    Bool.false_and, Bool.or_false]

theorem TouchesOnly.of_same {i : Instr} {s t : State} (hmem : t.mem = s.mem) (hompic : t.ompic = s.ompic)
    (hd : t.dtlbtr = s.dtlbtr) (ha : t.datbtr = s.datbtr) : TouchesOnly i s t := by
  unfold TouchesOnly
  dsimp only
  split
  · exact ⟨hmem, hompic, hd, ha⟩
  · exact .inl ⟨hmem, hompic, hd, ha⟩

section Compose
variable {i : Instr} {s u : State}

/-- What user mode may change by its own registers, the record of replaced words and the reservation. -/
theorem UserSame.of_registers (i : Instr) (s : State) (hi lo : Word32) (es : List StaleWord) (o : Option Nat) :
    UserSame i s { s with machi := hi, maclo := lo, stale := es, resv := o } :=
  ⟨rfl, rfl, fun _ _ => rfl, .refl _, .refl _, .of_same rfl rfl rfl rfl, fun h => absurd rfl h, BitVec.and_self, .inl ⟨rfl, rfl⟩,
    edges_same _ _ _, rfl⟩

theorem UserSame.refl (i : Instr) (s : State) : UserSame i s s := .of_registers i s _ _ _ _

/-- The sequencing of `pc` does not matter. -/
theorem UserSame.seq {t : State} (h : UserSame i s u) (ht : t = u.seqOf t) : UserSame i s t := by
  obtain ⟨pc, dp, dt, pp, hist, rfl⟩ : ∃ pc dp dt pp hist,
      t = { u with pc := pc, dsPending := dp, dsTarget := dt, ppc := pp, hist := hist } := ⟨_, _, _, _, _, ht⟩
  obtain ⟨hsr, hfp, hg, hpd, hpa, htouch, hae, hak, hdrr, hlatch, hrest⟩ := h
  refine ⟨hsr, hfp, hg, hpd, hpa, htouch, hae, hak, hdrr, hlatch, ?_⟩
  exact congrArg (fun x : State => { x with pc := pc, dsPending := dp, dsTarget := dt, ppc := pp, hist := hist }) hrest

/-- Computing in registers is allowed. -/
theorem UserSame.computes {v : State} (h : UserSame i s u) (hc : Computes u v) : UserSame i s v := by
  obtain ⟨hsr, hfp, hg, hpd, hpa, htouch, hae, hak, hdrr, hlatch, hrest⟩ := h
  have hcfg : u.cfg = s.cfg := by rw [hrest]; rfl
  have hsame : SrOutside 0xE00 s u := hsr
  have hctx : u.ctx = s.ctx :=
    State.ctx_congr (hsame.getLsbD (by decide) (by decide)) (hsame.extractLsb' (by decide) (by decide)) hcfg
  have hove : u.ove = s.ove := hsame.getLsbD (by decide) (by decide)
  have hcrest := hc.rest
  refine ⟨Eq.trans hc.sr hsr, ?_, fun j hj => ?_, ?_, ?_, ?_, fun hne => ?_, ?_, ?_, ?_, ?_⟩
  · exact (and_congr_outside hc.fpcsr (by decide)).trans hfp
  · rcases hc.gprs j with hj' | ⟨⟨r, hr⟩, -⟩
    · exact hj'.trans (hg j hj)
    · exact absurd (hctx ▸ hr) (hj r)
  · rw [hcrest]
    exact hpd
  · rw [hcrest]
    exact hpa
  · rw [hcrest]
    exact htouch
  · by_cases hu : u.aesr = s.aesr
    · have := hc.aesrChanged (hu ▸ hne)
      rwa [hcfg, hove] at this
    · exact hae hu
  · rw [← hak, ← BitVec.and_assoc, hc.aesrKept]
  · rw [hcrest]
    exact hdrr
  · rw [hcrest]
    exact hlatch
  · rw [hcrest]
    exact congrArg (fun x : State => { x with
      gprs := v.gprs, sr := v.sr, machi := v.machi, maclo := v.maclo, fpcsr := v.fpcsr, aesr := v.aesr, freeCtr := v.freeCtr }) hrest

theorem UserSame.of_computes (hc : Computes s u) : UserSame i s u := (UserSame.refl i s).computes hc

/-- A stop for the debugger is allowed. -/
theorem UserSame.stopped (hc : Computes s u) {x : Exc} (hx : s.redirects x = true) :
    UserSame i s { u with drr := setBit u.drr x.dsrBit true, debugStopped := true } := by
  obtain ⟨hsr, hfp, hg, hpd, hpa, htouch, hae, hak, -, hlatch, hrest⟩ := UserSame.of_computes (i := i) hc
  have hdrr : u.drr = s.drr := by rw [hc.rest]
  refine ⟨hsr, hfp, hg, hpd, hpa, htouch, hae, hak, .inr ⟨x, hx, by rw [hdrr], rfl⟩, hlatch, ?_⟩
  exact congrArg (fun y : State => { y with drr := setBit u.drr x.dsrBit true, debugStopped := true }) hrest

end Compose

/-! ## Accesses to data -/

theorem PageHistory.mark {n : Nat} (b : Bank n Word32) (i : BitVec n) {k : Access} : PageHistory b (b.put i (b.at i ||| k.history)) := by
  refine ⟨i, ?_, fun j hj => Bank.at_put_ne _ _ hj⟩
  rw [Bank.at_put_self]
  cases k
  · exact .inr (.inl rfl)
  · exact .inr (.inr rfl)
  · exact .inr (.inl rfl)

/-- The translation of an access to data records page history in the data MMU. -/
theorem translate_history {s : State} {k : Access} {ea : Word} {n : Nat} {l : Located} (hk : k ≠ .fetch)
    (h : translate s k ea n = .ok l) :
    ∃ d da, l.state = { s with dtlbtr := d, datbtr := da } ∧ PageHistory s.dtlbtr d ∧ PageHistory s.datbtr da := by
  rcases translate_ok h with ⟨_, rfl⟩ | ⟨_, e, _, hs, _⟩
  · exact ⟨_, _, rfl, .refl _, .refl _⟩
  · have hdata : s.byDataMmu k = true := by
      cases k
      · rfl
      · rfl
      · exact absurd rfl hk
    have htouch : s.touch k e = { s with dtlbtr := e.markTlb k.history s.dtlbtr, datbtr := e.markAtb k.history s.datbtr } := by
      simp only [State.touch, hdata, if_true]
    refine ⟨_, _, hs.trans htouch, ?_, ?_⟩
    · cases e
      · exact .mark _ _
      · exact .refl _
    · cases e
      · exact .refl _
      · exact .mark _ _

/-- An access to data: what its translation and its effect on memory leave. -/
theorem UserSame.access {i : Instr} {s u : State} {k : Access} {ra : Reg} {d : BitVec 16} {n : Nat} {l : Located}
    (hi : Instr.dataAccess i = some (k, ra, d, n)) (hk : k ≠ .fetch) (htr : translate s k (s.effAddr ra d) n = .ok l)
    (hu : u = { l.state with mem := u.mem, ompic := u.ompic, picLatch := u.picLatch, resv := u.resv, stale := u.stale })
    (hload : k = .load → u.mem = s.mem ∧ u.ompic = s.ompic)
    (hmem : ∀ a, u.mem.read a ≠ s.mem.read a → locate s .store (s.effAddr ra d) n = .ok l ∧ a ∈ l.addrs)
    (hompic : u.ompic ≠ s.ompic → locate s .store (s.effAddr ra d) n = .ok l ∧ ∃ a ∈ l.addrs, inOmpic s.cfg a = true)
    (hlatch : u.picLatch = s.picLatch ||| (u.irqLines &&& ~~~s.irqLines &&& s.cfg.picEdge)) : UserSame i s u := by
  have htouch : u.dtlbtr = l.state.dtlbtr → u.datbtr = l.state.datbtr → TouchesOnly i s u := by
    intro h1 h2
    rw [effAddr_eq] at htr hmem hompic
    unfold TouchesOnly
    rw [hi]
    exact .inr ⟨l, htr, h1, h2, hload, hmem, hompic⟩
  obtain ⟨dt, da, hs, hdt, hda⟩ := translate_history hk htr
  rw [hs] at hu htouch
  rw [hu] at hlatch htouch ⊢
  exact ⟨rfl, rfl, fun _ _ => rfl, hdt, hda, htouch rfl rfl, fun h => absurd rfl h, BitVec.and_self, .inl ⟨rfl, rfl⟩, hlatch, rfl⟩

/-- A load, which leaves memory alone: with its record and its reservation. -/
theorem UserSame.loads {i : Instr} {s : State} {k : Access} {ra : Reg} {d : BitVec 16} {n : Nat} {l : Located}
    (hi : Instr.dataAccess i = some (k, ra, d, n)) (hk : k ≠ .fetch) (htr : translate s k (s.effAddr ra d) n = .ok l)
    (es : List StaleWord) (o : Option Nat) : UserSame i s { l.state with stale := es, resv := o } := by
  obtain ⟨dt, da, hs, -⟩ := translate_history hk htr
  refine .access hi hk htr rfl (fun _ => ?_) (fun a h => absurd ?_ h) (fun h => absurd ?_ h) ?_
  · rw [hs]
    exact ⟨rfl, rfl⟩
  · rw [hs]
  · rw [hs]
  · rw [hs]
    exact edges_same _ _ _

/-- A store at located bytes, after a wait or not. -/
theorem UserSame.stores {i : Instr} {s u : State} {ra : Reg} {d : BitVec 16} {n : Nat} {l : Located} {v : Word}
    (hi : Instr.dataAccess i = some (.store, ra, d, n)) (hl : locate s .store (s.effAddr ra d) n = .ok l) (es : List StaleWord)
    (hu : State.storePhys { l.state with stale := es } l.addrs v l.cached = .ok u) : UserSame i s u := by
  have htr := (locate_ok hl).1
  obtain ⟨dt, da, hs, -⟩ := translate_history (by decide) htr
  have hcfg : l.state.cfg = s.cfg := translate_cfg htr
  rcases State.storePhys_next hu with ⟨ho, rfl | ⟨c, rfl⟩⟩ | ⟨ho, rfl⟩
  · exact .loads hi (by decide) htr es _
  · have hany : ∃ a ∈ l.addrs, inOmpic s.cfg a = true := List.any_eq_true.mp (hcfg ▸ ho)
    refine .access hi (by decide) htr rfl (fun h => by cases h) (fun a h => absurd ?_ h) (fun _ => ⟨hl, hany⟩) ?_
    · rw [hs]
      rfl
    · rw [hs]
      rfl
  · refine .access hi (by decide) htr rfl (fun h => by cases h) (fun a h => ⟨hl, ?_⟩) (fun h => absurd ?_ h) ?_
    · by_contra hna
      refine h ?_
      rw [hs]
      exact Memory.read_writeAll_of_not_mem _ _ fun c hc e => hna (e ▸ (List.of_mem_zip (a := c.1) (b := c.2) hc).1)
    · rw [hs]
    · rw [hs]
      exact edges_same _ _ _

/-! ## Moves in user mode -/

/-- A register that user mode writes is the accumulator's, or moves the record of replaced words. -/
theorem State.writeSprAt_user {s : State} (hsm : s.sr.getLsbD 0 = false) {o : Option Spr} (v : Word) (hm : mayAccess s o = true) :
    o ≠ some .npc ∧ ∃ hi lo es, s.writeSprAt o v = { s with machi := hi, maclo := lo, stale := es } := by
  cases o with
  | none =>
    rw [mayAccess, State.sm, hsm] at hm
    cases hm
  | some r =>
    rw [mayAccess_user hsm, Bool.and_eq_true] at hm
    obtain ⟨hp, hright⟩ := hm
    have hsumra : r.userRight = .readSumra → s.writeSprAt (some r) v = s := by
      intro hr
      refine if_neg ?_
      rw [mayWrite, State.sm, hsm, hr, hp]
      decide
    have hne : some r ≠ some .npc := by
      intro h
      rw [Option.some.inj h] at hright
      cases hright
    refine ⟨hne, ?_⟩
    rcases s.writeSprAt_cases (some r) v with h | ⟨q, hq, h⟩
    · exact ⟨_, _, _, h⟩
    · obtain rfl := Option.some.inj hq
      rw [h]
      cases r <;> simp only [Spr.userRight, Bool.false_eq_true] at hright
      case fpcsr | pccr | ttcr => exact ⟨_, _, _, h.symm.trans (hsumra rfl)⟩
      case maclo | machi | dcbpr | dcblr | icbpr | icblr => exact ⟨_, _, _, rfl⟩
      case dcbfr | dcbwr => exact ⟨_, _, _, s.writeBackBlock_rest _⟩
      case icbir =>
        simp only [State.writeSpr]
        split
        · exact ⟨_, _, _, rfl⟩
        · exact ⟨_, _, _, s.invalidateInsnBlock_rest _⟩

/-! ## The obligation -/

/-- The reservation is nobody's secret: any instruction may cancel it. -/
theorem UserSame.cancel {i : Instr} {s u : State} (h : UserSame i s u) : UserSame i s { u with resv := none } := by
  obtain ⟨hsr, hfp, hg, hpd, hpa, htouch, hae, hak, hdrr, hlatch, hrest⟩ := h
  exact ⟨hsr, hfp, hg, hpd, hpa, htouch, hae, hak, hdrr, hlatch, congrArg (fun x : State => { x with resv := none }) hrest⟩

/-- The end of `l.swa` keeps to the rules where the store under it does. -/
theorem UserSame.finishSwa {i : Instr} {s u : State} (h : UserSame i s { u with resv := none }) (b : Bool) :
    UserSame i s (u.finishSwa b) :=
  (h.computes (State.setFlag_computes { u with resv := none } b)).seq (State.advance_seq _)

/-- Settles O50, by the ways in which an instruction can end. -/
theorem userModeProtected : Obligations.UserModeProtected := by
  intro i s t hsm h
  cases exec_outcome h with
  | completed hc => exact .inl ((UserSame.of_computes hc).seq (State.advance_seq _))
  | @raised u x ea hc =>
    cases hx : u.redirects x
    · exact .inr ⟨u, x, ea, .of_computes hc, hx, rfl⟩
    · rw [State.enter_redirected hx]
      refine .inl (.stopped hc ?_)
      have hsame : u.redirects x = s.redirects x := by rw [hc.rest]; rfl
      exact hsame.symm.trans hx
  | transferred hc _ _ ht =>
    obtain ⟨-, ⟨-, rfl⟩ | ⟨-, rfl⟩⟩ := State.transfer_next ht
    · exact .inl ((UserSame.of_computes hc).seq rfl)
    · exact .inl ((UserSame.of_computes hc).seq rfl)
  | returned hs => exact absurd (hsm.symm.trans hs) (by decide)
  | moved v hm =>
    obtain ⟨hne, hi, lo, es, hw⟩ := State.writeSprAt_user hsm v hm
    rw [State.finishMtspr_of_ne _ hne, hw]
    exact .inl ((UserSame.of_registers i s hi lo es s.resv).seq (State.advance_seq _))
  | @synchronised es _ => exact .inl ((UserSame.of_registers i s s.machi s.maclo es s.resv).seq (State.advance_seq _))
  | @loaded _ _ _ r rd v hi hr =>
    have htr := (locate_ok (State.memRead_ok hr).2.1).1
    exact .inl (((UserSame.loads hi (by decide) htr r.2.state.stale r.2.state.resv).computes (State.setGpr_computes _ rd v)).seq
      (State.advance_seq _))
  | @loadedReserving _ _ r rd v hi hr =>
    have htr := (locate_ok (State.memRead_ok hr).2.1).1
    rw [State.setGpr_reserve, State.syncPoint_eq]
    exact .inl (((UserSame.loads hi (by decide) htr _ _).computes (State.setGpr_computes _ rd v)).seq (State.advance_seq _))
  | stored hi hw =>
    obtain ⟨-, l, hl, hu⟩ := State.memWrite_ok hw
    exact .inl ((UserSame.stores hi hl l.state.stale hu).seq (State.advance_seq _))
  | @storedReserved _ _ _ l _ hi hl hu =>
    rw [State.syncPoint_eq] at hu
    exact .inl ((UserSame.stores hi hl l.state.waited hu).cancel.finishSwa true)
  | @notStored _ _ l hi htr =>
    rw [State.syncPoint_eq]
    exact .inl ((UserSame.loads hi (by decide) htr l.state.waited none).finishSwa (u := { l.state with stale := l.state.waited })
      false)

end Sys2Proof.Machine
end

section
/-! PROOFS. The family 45_orfpx.md: what the instructions write, compare and raise. What the operations give stands in the parts after
this one. -/

namespace Sys2Proof.Machine

/-! ## Bit patterns -/

/-- The biased exponent and the fraction stand below the sign. -/
theorem pack_low_lt (f : Fmt) {e m : Nat} (he : e < 2 ^ f.ebits) (hm : m < 2 ^ f.fbits) :
    e * 2 ^ f.fbits + m < 2 ^ (f.ebits + f.fbits) := by
  rw [Nat.pow_add]
  calc e * 2 ^ f.fbits + m < e * 2 ^ f.fbits + 2 ^ f.fbits := Nat.add_lt_add_left hm _
    _ = (e + 1) * 2 ^ f.fbits := by ring
    _ ≤ 2 ^ f.ebits * 2 ^ f.fbits := Nat.mul_le_mul_right _ he

/-- A packed datum fits its format. -/
theorem pack_lt (f : Fmt) (neg : Bool) {e m : Nat} (he : e < 2 ^ f.ebits) (hm : m < 2 ^ f.fbits) : pack f neg e m < 2 ^ f.width := by
  have hlow := pack_low_lt f he hm
  have hw : 2 ^ f.width = 2 * 2 ^ (f.ebits + f.fbits) := by
    rw [Fmt.width, Nat.add_assoc, Nat.add_comm, Nat.pow_succ, Nat.mul_comm]
  have hneg : neg.toNat * 2 ^ (f.ebits + f.fbits) ≤ 1 * 2 ^ (f.ebits + f.fbits) := Nat.mul_le_mul_right _ neg.toNat_le
  rw [pack, hw]
  omega

/-- The three fields of a packed datum. -/
theorem pack_fields (f : Fmt) (neg : Bool) {e m : Nat} (he : e < 2 ^ f.ebits) (hm : m < 2 ^ f.fbits) :
    (pack f neg e m / 2 ^ (f.ebits + f.fbits) % 2 == 1) = neg ∧ pack f neg e m / 2 ^ f.fbits % 2 ^ f.ebits = e ∧
      pack f neg e m % 2 ^ f.fbits = m := by
  have hlow := pack_low_lt f he hm
  have hsign : pack f neg e m = e * 2 ^ f.fbits + m + 2 ^ (f.ebits + f.fbits) * neg.toNat := by rw [pack]; ring
  have hexp : pack f neg e m = m + 2 ^ f.fbits * (e + 2 ^ f.ebits * neg.toNat) := by rw [pack, Nat.pow_add]; ring
  refine ⟨?_, ?_, ?_⟩
  · rw [hsign, Nat.add_mul_div_left _ _ (Nat.two_pow_pos _), Nat.div_eq_of_lt hlow, Nat.zero_add]
    cases neg <;> rfl
  · rw [hexp, Nat.add_mul_div_left _ _ (Nat.two_pow_pos _), Nat.div_eq_of_lt hm, Nat.zero_add, Nat.add_mul_mod_self_left,
      Nat.mod_eq_of_lt he]
  · rw [hexp, Nat.add_mul_mod_self_left, Nat.mod_eq_of_lt hm]

theorem Fmt.emax_lt (f : Fmt) : f.emax < 2 ^ f.ebits := Nat.sub_lt (Nat.two_pow_pos _) Nat.one_pos

/-- The datum of a packed bit pattern. -/
theorem unpack_pack (f : Fmt) (env : FEnv) (neg : Bool) {e m : Nat} (he : e ≤ f.emax) (hm : m < 2 ^ f.fbits) :
    unpack f env (pack f neg e m) =
      if e = f.emax then (if m = 0 then .inf neg else .nan (decide (m < 2 ^ (f.fbits - 1))))
      else if e = 0 then .num neg (if env.denormals then m else 0) (f.emin - f.fbits)
      else .num neg (2 ^ f.fbits + m) (e - f.bias - f.fbits) := by
  obtain ⟨hsign, hexp, hfrac⟩ := pack_fields f neg (Nat.lt_of_le_of_lt he f.emax_lt) hm
  rw [unpack, hsign, hexp, hfrac]

/-- A drawn quiet NaN is one of the format. -/
theorem quietNanFrom_spec {f : Fmt} (hf : 0 < f.fbits) (w : Word) :
    quietNanFrom f w < 2 ^ f.width ∧ ∀ env, unpack f env (quietNanFrom f w) = .nan false := by
  have hhalf : 2 ^ f.fbits = 2 ^ (f.fbits - 1) + 2 ^ (f.fbits - 1) := by
    rw [← Nat.two_mul, ← Nat.pow_succ', Nat.succ_eq_add_one, Nat.sub_add_cancel hf]
  have hpos : 0 < 2 ^ (f.fbits - 1) := Nat.two_pow_pos _
  have hmod : w.toNat % 2 ^ (f.fbits - 1) < 2 ^ (f.fbits - 1) := Nat.mod_lt _ hpos
  have hm : 2 ^ (f.fbits - 1) + w.toNat % 2 ^ (f.fbits - 1) < 2 ^ f.fbits := by omega
  refine ⟨pack_lt f _ f.emax_lt hm, fun env => ?_⟩
  rw [quietNanFrom, unpack_pack f env _ (Nat.le_refl _) hm, if_pos rfl, if_neg (by omega), decide_eq_false (by omega)]

/-- A format whose data fit a register and whose fraction field is there. -/
def Fmt.Fits (f : Fmt) : Prop := f.width ≤ 64 ∧ 0 < f.fbits

theorem Fmt.single_fits : Fmt.single.Fits := ⟨by decide, by decide⟩

theorem Fmt.double_fits : Fmt.double.Fits := ⟨by decide, by decide⟩

/-- What an operation writes is what its result gives. -/
theorem State.fpOut_gives {f : Fmt} (hf : f.Fits) (s : State) (r : FRes) : FpGives f r (s.fpOut f r.out).1 := by
  obtain ⟨hw, hb⟩ := hf
  have h64 : 2 ^ f.width ≤ 2 ^ 64 := Nat.pow_le_pow_right (by decide) hw
  refine ⟨fun n hn => by rw [hn]; rfl, fun hq => ?_, fun ha => ?_⟩
  · obtain ⟨hlt, hnan⟩ := quietNanFrom_spec hb s.draw.1
    have hval : (s.fpOut f r.out).1.toNat = quietNanFrom f s.draw.1 := by
      rw [hq]
      exact Nat.mod_eq_of_lt (Nat.lt_of_lt_of_le hlt h64)
    rw [hval]
    exact ⟨hlt, hnan⟩
  · have hlt : s.draw.1.toNat % 2 ^ f.width < 2 ^ f.width := Nat.mod_lt _ (Nat.two_pow_pos _)
    have hval : (s.fpOut f r.out).1.toNat = s.draw.1.toNat % 2 ^ f.width := by
      rw [ha]
      exact Nat.mod_eq_of_lt (Nat.lt_of_lt_of_le hlt h64)
    rw [hval]
    exact hlt

/-! ## The state that an operation leaves -/

/-- The value that an operation with result `r` writes. -/
def State.fpValue (s : State) (f : Fmt) (r : FRes) : Word := (s.fpOut f r.out).1

/-- The state after rD and the flags are written. -/
def State.afterFp (s : State) (f : Fmt) (rd : Reg) (r : FRes) : State :=
  ((s.fpOut f r.out).2.setGpr rd (s.fpValue f r)).orFlags (r.flagsAt (s.fpValue f r))

/-- The flags of FP_TRAP_MASK that an operation produces (45_orfpx.md R604). -/
def State.fpTrapping (s : State) (f : Fmt) (r : FRes) : BitVec 9 := (r.flagsAt (s.fpValue f r)).bits &&& s.cfg.fpTrapMask

theorem State.finishFp_eq (s : State) (f : Fmt) (rd : Reg) (r : FRes) :
    s.finishFp f rd r = if s.fpcsr.getLsbD 0 && s.fpTrapping f r != 0 then (s.afterFp f rd r).raise .floatingPoint 0
      else .next (s.afterFp f rd r).advance := rfl

/-- FPCSR after an operation. -/
def State.fpFlagged (s : State) (f : Fmt) (r : FRes) : Word32 := s.fpcsr ||| ((r.flagsAt (s.fpValue f r)).bits.setWidth 32 <<< 3)

theorem State.setGpr_orFlags (s : State) (rd : Reg) (v : Word) (fl : FFlags) :
    (s.setGpr rd v).orFlags fl = (s.orFlags fl).setGpr rd v := by
  rw [State.orFlags, State.setGpr_fpcsr]
  unfold State.setGpr State.setGprAt
  split <;> rename_i h
  · exact (if_pos h).symm
  · exact (if_neg h).symm

/-- Only the count of drawn values tells the state after the draw from the one before. -/
theorem State.fpOut_rest (s : State) (f : Fmt) (o : FOut) : ∃ n, (s.fpOut f o).2 = { s with freeCtr := n } := by
  cases o with
  | bits n => exact ⟨s.freeCtr, rfl⟩
  | quietNan | anyInt => exact ⟨s.freeCtr + 1, rfl⟩

theorem State.afterFp_eq (s : State) (f : Fmt) (rd : Reg) (r : FRes) :
    ∃ n, s.afterFp f rd r = State.setGpr { s with fpcsr := s.fpFlagged f r, freeCtr := n } rd (s.fpValue f r) := by
  obtain ⟨n, hn⟩ := s.fpOut_rest f r.out
  refine ⟨n, ?_⟩
  rw [State.afterFp, State.setGpr_orFlags, hn]
  rfl

theorem State.afterFp_computes (s : State) (f : Fmt) (rd : Reg) (r : FRes) : Computes s (s.afterFp f rd r) :=
  ((s.fpOut_computes f r.out).trans (State.setGpr_computes _ rd _)).trans (State.orFlags_computes _ _)

theorem State.fpFlagged_eq (s : State) (f : Fmt) (r : FRes) :
    s.fpFlagged f r = s.fpcsr ||| fpcsrFlags (signalled r (s.fpValue f r)) := by
  rw [signalled_eq, (fpcsrFlags_eq _).1]
  rfl

theorem State.gprAt_advance (s : State) (j : BitVec 9) : s.advance.gprAt j = s.gprAt j :=
  State.gprAt_congr s.advance_gprs s.advance_cfg j

/-- An operation writes rD and the accumulated flags. -/
theorem State.afterFp_result {f : Fmt} (hf : f.Fits) (s : State) (rd : Reg) (r : FRes) :
    FpResult s (s.afterFp f rd r) f rd r (s.fpValue f r) := by
  obtain ⟨n, hn⟩ := s.afterFp_eq f rd r
  obtain ⟨⟨hreg, hother⟩, -, -, -⟩ :=
    State.writesOnly { s with fpcsr := s.fpFlagged f r, freeCtr := n } rd (s.fpValue f r)
  rw [← hn] at hreg hother
  have hgpr := (s.afterFp f rd r).gprAt_advance
  refine ⟨s.fpOut_gives hf r, ⟨(hgpr _).symm.trans hreg, fun j hj => (hgpr j).symm.trans (hother j hj)⟩, ?_, fun a => ?_⟩
  · rw [hn, State.setGpr_fpcsr, ← State.fpFlagged_eq]
  · rw [hn, State.setGpr_mem]

/-- It writes nothing else. -/
theorem State.afterFp_rest (s : State) (f : Fmt) (rd : Reg) (r : FRes) :
    s.afterFp f rd r =
      { s with gprs := (s.afterFp f rd r).gprs, fpcsr := (s.afterFp f rd r).fpcsr, freeCtr := (s.afterFp f rd r).freeCtr } := by
  obtain ⟨n, hn⟩ := s.afterFp_eq f rd r
  rw [hn]
  unfold State.setGpr State.setGprAt
  split <;> rfl

/-- An operation that raises nothing completes. -/
theorem State.afterFp_writes {f : Fmt} (hf : f.Fits) (s : State) (rd : Reg) (r : FRes) :
    FpWrites s (s.afterFp f rd r).advance f rd r (s.fpValue f r) := by
  obtain ⟨hgives, ⟨hreg, hother⟩, hflags, hmem⟩ := s.afterFp_result hf rd r
  have hgpr := (s.afterFp f rd r).gprAt_advance
  refine ⟨⟨hgives, ⟨(hgpr _).trans hreg, fun j hj => (hgpr j).trans (hother j hj)⟩, ?_, fun a => ?_⟩, ?_, ?_⟩
  · rw [State.advance_fpcsr, hflags]
  · rw [State.advance_mem, hmem a]
  · obtain ⟨n, hn⟩ := s.afterFp_eq f rd r
    rw [hn]
    simp [Completes]
  · rw [State.advance_gprs, State.advance_fpcsr, State.advance_freeCtr]
    exact (State.advance_seq _).trans (congrArg (fun x => State.seqOf x (s.afterFp f rd r).advance) (s.afterFp_rest f rd r))

/-! ## Instructions with a result -/

/-- With FPCSR[FPEE] = 0 an operation completes. -/
theorem fp_completes {j : Instr} {s : State} {f : Fmt} {rd : Reg} (r : State → FRes)
    (hexec : ∀ s, exec j s = issue j s fun s => s.finishFp f rd (r s)) (hf : f.Fits) (hee : s.fpcsr.getLsbD 0 = false)
    (h : Ready j s) : ∃ (t : State) (v : Word), exec j s = .next t ∧ FpWrites s t f rd (r s) v := by
  refine ⟨_, _, ?_, s.afterFp_writes hf rd (r s)⟩
  rw [hexec, issue_run h, State.finishFp_eq, hee]
  rfl

/-- With FPCSR[FPEE] = 1 it raises Floating Point after its result is written where it produced a trapping flag. -/
theorem fp_traps {j : Instr} {s : State} {f : Fmt} {rd : Reg} (r : State → FRes)
    (hexec : ∀ s, exec j s = issue j s fun s => s.finishFp f rd (r s)) (hf : f.Fits) (hee : s.fpcsr.getLsbD 0 = true)
    (h : Ready j s) :
    ∃ (v : Word) (t : State), FpGives f (r s) v ∧ exec j s = .next t ∧
      ((fpcsrFlags (signalled (r s) v)).extractLsb' 3 9 &&& s.cfg.fpTrapMask = 0 → FpWrites s t f rd (r s) v) ∧
      ((fpcsrFlags (signalled (r s) v)).extractLsb' 3 9 &&& s.cfg.fpTrapMask ≠ 0 → s.redirects .floatingPoint = false →
        ∃ u, FpResult s u f rd (r s) v ∧ u = { s with gprs := u.gprs, fpcsr := u.fpcsr, freeCtr := u.freeCtr } ∧
          Enters u t .floatingPoint 0 ∧
          t.epcr.at s.entryCtx = trunc s.cfg.xlen (if s.dsPending then s.pc - 4 else s.pc + 4)) := by
  have hrun : exec j s = if s.fpTrapping f (r s) != 0 then (s.afterFp f rd (r s)).raise .floatingPoint 0
      else .next (s.afterFp f rd (r s)).advance := by
    rw [hexec, issue_run h, State.finishFp_eq, hee, Bool.true_and]
  have hmask : (fpcsrFlags (signalled (r s) (s.fpValue f (r s)))).extractLsb' 3 9 &&& s.cfg.fpTrapMask = s.fpTrapping f (r s) := by
    rw [signalled_eq, (fpcsrFlags_eq _).2]
    rfl
  by_cases hz : s.fpTrapping f (r s) = 0
  · refine ⟨_, _, s.fpOut_gives hf (r s), by rw [hrun, hz]; rfl, fun _ => s.afterFp_writes hf rd (r s), fun hne => ?_⟩
    exact absurd (hmask.trans hz) hne
  · refine ⟨_, (s.afterFp f rd (r s)).enter .floatingPoint 0, s.fpOut_gives hf (r s), ?_, fun h0 => ?_, fun _ hx => ?_⟩
    · rw [hrun, bne_iff_ne.mpr hz]
      rfl
    · exact absurd (hmask.symm.trans h0) hz
    · have hc := s.afterFp_computes f rd (r s)
      have hux := (hc.redirects .floatingPoint).trans hx
      refine ⟨_, s.afterFp_result hf rd (r s), s.afterFp_rest f rd (r s), State.enters_enter hux 0, ?_⟩
      rw [State.enter_eq hux, ← hc.entryCtx]
      exact (Bank.at_put_self _ _ _).trans (hc.epcFor .floatingPoint)

/-! ## The integer operands -/

theorem State.fpIntReg_single (s : State) (r : Reg) : s.fpIntReg .single r = ((s.gpr r).setWidth 32).toInt :=
  congrArg BitVec.toInt (BitVec.ofNat_toNat 32 (s.gpr r))

theorem State.fpIntReg_double (s : State) (r : Reg) : s.fpIntReg .double r = (s.gpr r).toInt :=
  congrArg BitVec.toInt ((BitVec.ofNat_toNat 64 (s.gpr r)).trans (BitVec.setWidth_eq _))

/-! ## Arithmetic, conversions, and the instructions without an accumulator -/

/-- What holds of every instruction that ends with a result of its format holds of the fourteen that do. -/
theorem fp_operations (s : State) (rd ra rb : Reg) {p : Instr → Fmt → FRes → Prop}
    (hp : ∀ {j : Instr} {f : Fmt} (r : State → FRes), (∀ s, exec j s = issue j s fun s => s.finishFp f rd (r s)) → f.Fits →
      p j f (r s)) :
    p (.lfAddS rd ra rb) .single (fpAdd .single s.fpEnv (s.fpReg .single ra) (s.fpReg .single rb)) ∧
    p (.lfSubS rd ra rb) .single (fpSub .single s.fpEnv (s.fpReg .single ra) (s.fpReg .single rb)) ∧
    p (.lfMulS rd ra rb) .single (fpMul .single s.fpEnv (s.fpReg .single ra) (s.fpReg .single rb)) ∧
    p (.lfDivS rd ra rb) .single (fpDiv .single s.fpEnv (s.fpReg .single ra) (s.fpReg .single rb)) ∧
    p (.lfRemS rd ra rb) .single (fpRem .single s.fpEnv s.cfg.fpRem (s.fpReg .single ra) (s.fpReg .single rb)) ∧
    p (.lfItofS rd ra) .single (fpOfInt .single s.fpEnv (s.fpIntReg .single ra)) ∧
    p (.lfFtoiS rd ra) .single (fpToInt .single s.fpEnv (s.fpReg .single ra)) ∧
    p (.lfAddD rd ra rb) .double (fpAdd .double s.fpEnv (s.fpReg .double ra) (s.fpReg .double rb)) ∧
    p (.lfSubD rd ra rb) .double (fpSub .double s.fpEnv (s.fpReg .double ra) (s.fpReg .double rb)) ∧
    p (.lfMulD rd ra rb) .double (fpMul .double s.fpEnv (s.fpReg .double ra) (s.fpReg .double rb)) ∧
    p (.lfDivD rd ra rb) .double (fpDiv .double s.fpEnv (s.fpReg .double ra) (s.fpReg .double rb)) ∧
    p (.lfRemD rd ra rb) .double (fpRem .double s.fpEnv s.cfg.fpRem (s.fpReg .double ra) (s.fpReg .double rb)) ∧
    p (.lfItofD rd ra) .double (fpOfInt .double s.fpEnv (s.fpIntReg .double ra)) ∧
    p (.lfFtoiD rd ra) .double (fpToInt .double s.fpEnv (s.fpReg .double ra)) :=
  ⟨hp (fun s => fpAdd .single s.fpEnv (s.fpReg .single ra) (s.fpReg .single rb)) (fun _ => rfl) Fmt.single_fits,
    hp (fun s => fpSub .single s.fpEnv (s.fpReg .single ra) (s.fpReg .single rb)) (fun _ => rfl) Fmt.single_fits,
    hp (fun s => fpMul .single s.fpEnv (s.fpReg .single ra) (s.fpReg .single rb)) (fun _ => rfl) Fmt.single_fits,
    hp (fun s => fpDiv .single s.fpEnv (s.fpReg .single ra) (s.fpReg .single rb)) (fun _ => rfl) Fmt.single_fits,
    hp (fun s => fpRem .single s.fpEnv s.cfg.fpRem (s.fpReg .single ra) (s.fpReg .single rb)) (fun _ => rfl) Fmt.single_fits,
    hp (fun s => fpOfInt .single s.fpEnv (s.fpIntReg .single ra)) (fun _ => rfl) Fmt.single_fits,
    hp (fun s => fpToInt .single s.fpEnv (s.fpReg .single ra)) (fun _ => rfl) Fmt.single_fits,
    hp (fun s => fpAdd .double s.fpEnv (s.fpReg .double ra) (s.fpReg .double rb)) (fun _ => rfl) Fmt.double_fits,
    hp (fun s => fpSub .double s.fpEnv (s.fpReg .double ra) (s.fpReg .double rb)) (fun _ => rfl) Fmt.double_fits,
    hp (fun s => fpMul .double s.fpEnv (s.fpReg .double ra) (s.fpReg .double rb)) (fun _ => rfl) Fmt.double_fits,
    hp (fun s => fpDiv .double s.fpEnv (s.fpReg .double ra) (s.fpReg .double rb)) (fun _ => rfl) Fmt.double_fits,
    hp (fun s => fpRem .double s.fpEnv s.cfg.fpRem (s.fpReg .double ra) (s.fpReg .double rb)) (fun _ => rfl) Fmt.double_fits,
    hp (fun s => fpOfInt .double s.fpEnv (s.fpIntReg .double ra)) (fun _ => rfl) Fmt.double_fits,
    hp (fun s => fpToInt .double s.fpEnv (s.fpReg .double ra)) (fun _ => rfl) Fmt.double_fits⟩

/-- Settles O52. -/
theorem fpArithResults : Obligations.FpArithResults := by
  intro s rd ra rb hee
  rw [doubleOperand_eq, doubleOperand_eq, ← s.fpIntReg_single ra, ← s.fpIntReg_double ra]
  intro e does
  exact fp_operations s rd ra rb (p := does) fun r hexec hf => fp_completes r hexec hf hee

/-- Settles O55. -/
theorem fpTrap : Obligations.FpTrap := by
  intro s rd ra rb hee
  rw [doubleOperand_eq, doubleOperand_eq, ← s.fpIntReg_single ra, ← s.fpIntReg_double ra]
  intro e traps
  exact fp_operations s rd ra rb (p := traps) fun r hexec hf => fp_traps r hexec hf hee

/-- Settles O56. -/
theorem accumulatorStops : Obligations.AccumulatorStops := by
  intro s rd ra rb
  refine ⟨fun h => ?_, fun h => ?_, fun h => ?_, fun h => ?_⟩
  · show execLfMaddS rd ra rb s = _
    rw [execLfMaddS, issue_run h]
  · show execLfMaddD rd ra rb s = _
    rw [execLfMaddD, issue_run h]
  · show execLvMaddsH rd ra rb s = _
    rw [execLvMaddsH, issue_run h]
  · show execLvMsubsH rd ra rb s = _
    rw [execLvMsubsH, issue_run h]

end Sys2Proof.Machine
end

section
/-! PROOFS. The floating-point compares (45_orfpx.md R605, R618-R623, R633-R638). -/

namespace Sys2Proof.Machine

/-! ## Significands with a sign -/

theorem signedMan_mul (n : Bool) (x c : Nat) : signedMan n (x * c) = signedMan n x * c := by
  cases n
  · exact Int.natCast_mul x c
  · show -((x * c : Nat) : Int) = -(x : Int) * c
    rw [Int.natCast_mul, Int.neg_mul]

/-- Scaling in two parts. -/
theorem scale_split {e d p : Int} (hed : e ≤ d) (hdp : d ≤ p) (x : Nat) :
    x * 2 ^ (p - e).toNat = x * 2 ^ (p - d).toNat * 2 ^ (d - e).toNat := by
  have h : (p - e).toNat = (p - d).toNat + (d - e).toNat := by omega
  rw [h, Nat.pow_add, Nat.mul_assoc]

/-- Numbers compare by their significands at any common scale. -/
theorem fpLess_num {e p q : Int} (hp : e ≤ p) (hq : e ≤ q) (m n : Bool) (x y : Nat) :
    fpLess (.num m x p) (.num n y q) =
      decide (signedMan m (x * 2 ^ (p - e).toNat) < signedMan n (y * 2 ^ (q - e).toNat)) := by
  have hpos : (0 : Int) < ((2 ^ (min p q - e).toNat : Nat) : Int) := Int.natCast_pos.mpr (Nat.two_pow_pos _)
  have hmin : e ≤ min p q := Int.le_min.mpr ⟨hp, hq⟩
  rw [scale_split hmin (Int.min_le_left p q) x, scale_split hmin (Int.min_le_right p q) y, signedMan_mul m (x * _), signedMan_mul n (y * _),
    decide_eq_decide.mpr (Int.mul_lt_mul_right hpos)]
  show (decide ((0 : Int) < 0) || (decide ((0 : Int) = 0) && _)) = _
  rw [decide_eq_false (Int.lt_irrefl 0), decide_eq_true rfl, Bool.false_or, Bool.true_and]
  rfl

/-! ## The relations -/

/-- The six relations, by the order of the operands where both are no NaN. -/
theorem fpCompare_cases (a b : FVal) :
    fpCompare .eq a b = (!a.isNan && !b.isNan && !fpLess a b && !fpLess b a) ∧
    fpCompare .ne a b = (!(!a.isNan && !b.isNan) || fpLess a b || fpLess b a) ∧
    fpCompare .gt a b = (!a.isNan && !b.isNan && fpLess b a) ∧ fpCompare .ge a b = (!a.isNan && !b.isNan && !fpLess a b) ∧
    fpCompare .lt a b = (!a.isNan && !b.isNan && fpLess a b) ∧ fpCompare .le a b = (!a.isNan && !b.isNan && !fpLess b a) := by
  unfold fpCompare
  cases a.isNan <;> cases b.isNan <;> exact ⟨rfl, rfl, rfl, rfl, rfl, rfl⟩

/-- Settles O54. -/
theorem fpCompares : Obligations.FpCompares := by
  refine ⟨fun s ra rb => ?_, fun m n x y p q e => ⟨fun hp hq => fpLess_num hp hq m n x y, ?_, ?_, ?_⟩⟩
  · rw [doubleOperand_eq, doubleOperand_eq]
    obtain ⟨heq, hne, hgt, hge, hlt, hle⟩ := fpCompare_cases (s.fpReg .single ra) (s.fpReg .single rb)
    obtain ⟨deq, dne, dgt, dge, dlt, dle⟩ := fpCompare_cases (s.fpReg .double ra) (s.fpReg .double rb)
    exact ⟨
      fun h => flags_of_issue (fun s => fpCompare .eq (s.fpReg .single ra) (s.fpReg .single rb)) (fun _ => rfl) h heq,
      fun h => flags_of_issue (fun s => fpCompare .ne (s.fpReg .single ra) (s.fpReg .single rb)) (fun _ => rfl) h hne,
      fun h => flags_of_issue (fun s => fpCompare .gt (s.fpReg .single ra) (s.fpReg .single rb)) (fun _ => rfl) h hgt,
      fun h => flags_of_issue (fun s => fpCompare .ge (s.fpReg .single ra) (s.fpReg .single rb)) (fun _ => rfl) h hge,
      fun h => flags_of_issue (fun s => fpCompare .lt (s.fpReg .single ra) (s.fpReg .single rb)) (fun _ => rfl) h hlt,
      fun h => flags_of_issue (fun s => fpCompare .le (s.fpReg .single ra) (s.fpReg .single rb)) (fun _ => rfl) h hle,
      fun h => flags_of_issue (fun s => fpCompare .eq (s.fpReg .double ra) (s.fpReg .double rb)) (fun _ => rfl) h deq,
      fun h => flags_of_issue (fun s => fpCompare .ne (s.fpReg .double ra) (s.fpReg .double rb)) (fun _ => rfl) h dne,
      fun h => flags_of_issue (fun s => fpCompare .gt (s.fpReg .double ra) (s.fpReg .double rb)) (fun _ => rfl) h dgt,
      fun h => flags_of_issue (fun s => fpCompare .ge (s.fpReg .double ra) (s.fpReg .double rb)) (fun _ => rfl) h dge,
      fun h => flags_of_issue (fun s => fpCompare .lt (s.fpReg .double ra) (s.fpReg .double rb)) (fun _ => rfl) h dlt,
      fun h => flags_of_issue (fun s => fpCompare .le (s.fpReg .double ra) (s.fpReg .double rb)) (fun _ => rfl) h dle⟩
  · cases m <;> rfl
  · cases m <;> rfl
  · cases m <;> cases n <;> rfl

end Sys2Proof.Machine
end

section
/-! PROOFS. The families 46_orvdx_a.md and 47_orvdx_b.md: the vector instructions, element by element. -/

namespace Sys2Proof.Machine

/-! ## Instructions that write elements -/

/-- An instruction that writes `n` elements of width `w` and completes. -/
theorem lanes_of_issue {j : Instr} {s : State} {rd : Reg} {w n : Nat} {p : Nat → BitVec w → Prop} (f : State → Nat → BitVec w)
    (hexec : ∀ s, exec j s = issue j s fun s => s.writeReg rd (ofLanes w (f s) n)) (hn : w * n ≤ 64 ∧ 64 / w ≤ n)
    (hp : ∀ i < n, p i (f s i)) (h : Ready j s) : ∃ t, exec j s = .next t ∧ WritesLanes w s t rd p := by
  obtain ⟨t, ht, hw⟩ := writes_of_issue (fun s => ofLanes w (f s) n) hexec h
  refine ⟨t, ht, _, hw, fun i hi => ?_⟩
  have hin : i < n := Nat.lt_of_lt_of_le hi hn.2
  rw [lane_ofLanes _ hn.1 hin]
  exact hp i hin

/-- An instruction that combines the elements of two registers. -/
theorem lanes2_of_issue {j : Instr} {s : State} {rd ra rb : Reg} {w : Nat} {p : Nat → BitVec w → Prop}
    (f : Config → BitVec w → BitVec w → BitVec w) (hexec : ∀ s, exec j s = issue j s fun s => s.vecOp (lanes2 w (f s.cfg)) rd ra rb)
    (hp : ∀ i, p i (f s.cfg (lane w (s.gpr ra) i) (lane w (s.gpr rb) i))) (h : Ready j s) :
    ∃ t, exec j s = .next t ∧ WritesLanes w s t rd p :=
  lanes_of_issue (fun s i => f s.cfg (lane w (s.gpr ra) i) (lane w (s.gpr rb) i)) hexec
    ⟨Nat.mul_div_le 64 w, Nat.le_refl _⟩ (fun i _ => hp i) h

/-! ## Elements -/

/-- Signed saturation (00_scope.md R15). -/
theorem satS_toInt {w : Nat} {lo hi : Int} (hw : 0 < w) (hlo : lo = -2 ^ (w - 1)) (hhi : hi = 2 ^ (w - 1) - 1) (z : Int) :
    (satS w z).toInt = max lo (min hi z) := by
  have hpos : (0 : Int) < 2 ^ (w - 1) := by positivity
  rw [satS, BitVec.toInt_ofInt_eq_self hw (by omega) (by omega)]
  omega

/-- Unsigned saturation (00_scope.md R15). -/
theorem satU_toNat {w m : Nat} (hm : m + 1 = 2 ^ w) (z : Int) : ((satU w z).toNat : Int) = max 0 (min (m : Int) z) := by
  have hm' : (2 : Int) ^ w = m + 1 := by exact_mod_cast hm.symm
  have hlt : min (max z 0) (2 ^ w - 1) < (2 : Int) ^ w := by omega
  have hnn : 0 ≤ min (max z 0) (2 ^ w - 1) := by omega
  rw [satU, BitVec.toNat_ofInt, Int.toNat_of_nonneg (Int.emod_nonneg _ (by positivity))]
  push_cast
  rw [Int.emod_eq_of_lt hnn hlt, hm']
  omega

theorem satU_add {w m : Nat} (hm : m + 1 = 2 ^ w) (a b : Nat) : (satU w (a + b)).toNat = min m (a + b) := by
  have h := satU_toNat hm (a + b)
  omega

theorem satU_sub {w m : Nat} (hm : m + 1 = 2 ^ w) (a b : BitVec w) : (satU w (a.toNat - b.toNat : Int)).toNat = a.toNat - b.toNat := by
  have h := satU_toNat hm (a.toNat - b.toNat)
  have ha := a.isLt
  omega

theorem satU_val {w m : Nat} (hm : m + 1 = 2 ^ w) (a : Nat) : (satU w a).toNat = min m a := by
  have h := satU_toNat hm a
  omega

/-- An average stays among the values of the elements. -/
theorem laneVal_avg {w : Nat} (hw : 0 < w) (signed : Bool) (a b : BitVec w) :
    laneVal signed (laneAvg signed a b) = (laneVal signed a + laneVal signed b) / 2 := by
  cases signed
  · have ha := a.isLt
    have hb := b.isLt
    show ((BitVec.ofInt w (((a.toNat : Int) + b.toNat) / 2)).toNat : Int) = ((a.toNat : Int) + b.toNat) / 2
    rw [BitVec.toNat_ofInt, Int.toNat_of_nonneg (Int.emod_nonneg _ (by positivity))]
    apply Int.emod_eq_of_lt
    · omega
    · omega
  · have ha := a.toInt_lt
    have hb := b.toInt_lt
    have ha' := a.le_toInt
    have hb' := b.le_toInt
    show (BitVec.ofInt w ((a.toInt + b.toInt) / 2)).toInt = (a.toInt + b.toInt) / 2
    exact BitVec.toInt_ofInt_eq_self hw (by omega) (by omega)

theorem laneVal_max {w : Nat} (signed : Bool) (a b : BitVec w) :
    laneVal signed (laneMax signed a b) = max (laneVal signed a) (laneVal signed b) := by
  unfold laneMax
  split <;> omega

theorem laneVal_min {w : Nat} (signed : Bool) (a b : BitVec w) :
    laneVal signed (laneMin signed a b) = min (laneVal signed a) (laneVal signed b) := by
  unfold laneMin
  split <;> omega

/-- A merge takes an even element from the second register and an odd one from the first. -/
theorem merge_of_issue {j : Instr} {s : State} {rd ra rb : Reg} (w : Nat)
    (hexec : ∀ s, exec j s = issue j s fun s => s.vecOp (lanesMerge w) rd ra rb) (h : Ready j s) :
    ∃ t, exec j s = .next t ∧
      WritesLanes w s t rd fun i x => x = if i % 2 = 0 then lane w (s.gpr rb) i else lane w (s.gpr ra) i :=
  lanes_of_issue (fun s i => if i % 2 == 0 then lane w (s.gpr rb) i else lane w (s.gpr ra) i) hexec
    ⟨Nat.mul_div_le 64 w, Nat.le_refl _⟩ (fun i _ => by simp only [beq_iff_eq]) h

/-! ## Arithmetic -/

/-- Settles O57. -/
theorem vectorArith : Obligations.VectorArith := by
  intro s rd ra rb
  exact ⟨
    lanes2_of_issue (fun _ x y => x + y) (fun _ => rfl) fun _ => rfl,
    lanes2_of_issue (fun _ x y => x + y) (fun _ => rfl) fun _ => rfl,
    lanes2_of_issue (fun _ x y => x - y) (fun _ => rfl) fun _ => rfl,
    lanes2_of_issue (fun _ x y => x - y) (fun _ => rfl) fun _ => rfl,
    lanes2_of_issue (fun _ x y => satS 8 (x.toInt + y.toInt)) (fun _ => rfl) fun _ => satS_toInt (by decide) rfl rfl _,
    lanes2_of_issue (fun _ x y => satS 8 (x.toInt - y.toInt)) (fun _ => rfl) fun _ => satS_toInt (by decide) rfl rfl _,
    lanes2_of_issue (fun _ x y => satU 8 (x.toNat + y.toNat)) (fun _ => rfl) fun _ => satU_add rfl _ _,
    lanes2_of_issue (fun _ x y => satU 8 (x.toNat - y.toNat : Int)) (fun _ => rfl) fun _ => satU_sub rfl _ _,
    lanes2_of_issue (fun c => laneAvg c.lvOrderSigned) (fun _ => rfl) fun _ => laneVal_avg (by decide) _ _ _,
    lanes2_of_issue (fun c => laneMax c.lvOrderSigned) (fun _ => rfl) fun _ => laneVal_max _ _ _,
    lanes2_of_issue (fun c => laneMin c.lvOrderSigned) (fun _ => rfl) fun _ => laneVal_min _ _ _,
    merge_of_issue 8 fun _ => rfl,
    lanes2_of_issue (fun _ x y => x + y) (fun _ => rfl) fun _ => rfl,
    lanes2_of_issue (fun _ x y => x + y) (fun _ => rfl) fun _ => rfl,
    lanes2_of_issue (fun _ x y => x - y) (fun _ => rfl) fun _ => rfl,
    lanes2_of_issue (fun _ x y => x - y) (fun _ => rfl) fun _ => rfl,
    lanes2_of_issue (fun _ x y => satS 16 (x.toInt + y.toInt)) (fun _ => rfl) fun _ => satS_toInt (by decide) rfl rfl _,
    lanes2_of_issue (fun _ x y => satS 16 (x.toInt - y.toInt)) (fun _ => rfl) fun _ => satS_toInt (by decide) rfl rfl _,
    lanes2_of_issue (fun _ x y => satU 16 (x.toNat + y.toNat)) (fun _ => rfl) fun _ => satU_add rfl _ _,
    lanes2_of_issue (fun _ x y => satU 16 (x.toNat - y.toNat : Int)) (fun _ => rfl) fun _ => satU_sub rfl _ _,
    lanes2_of_issue (fun c => laneAvg c.lvOrderSigned) (fun _ => rfl) fun _ => laneVal_avg (by decide) _ _ _,
    lanes2_of_issue (fun c => laneMax c.lvOrderSigned) (fun _ => rfl) fun _ => laneVal_max _ _ _,
    lanes2_of_issue (fun c => laneMin c.lvOrderSigned) (fun _ => rfl) fun _ => laneVal_min _ _ _,
    merge_of_issue 16 fun _ => rfl,
    lanes2_of_issue (fun _ x y => satS 16 (x.toInt * y.toInt)) (fun _ => rfl) fun _ => satS_toInt (by decide) rfl rfl _⟩

end Sys2Proof.Machine
end

section
/-! PROOFS. Vector logic, shifts, packs and compares (46_orvdx_a.md, 47_orvdx_b.md). -/

namespace Sys2Proof.Machine

/-! ## Shifts of elements -/

/-- An instruction that shifts each element by the same element of rB. -/
theorem shift_of_issue {j : Instr} {s : State} {rd ra rb : Reg} {w : Nat} {p : Nat → BitVec w → Prop}
    (f : BitVec w → Nat → BitVec w) (hw : 0 < w) (hexec : ∀ s, exec j s = issue j s fun s => s.vecOp (lanesShift w f) rd ra rb)
    (hp : ∀ i n, n = (lane w (s.gpr rb) i).toNat % w → n < w → p i (f (lane w (s.gpr ra) i) n)) (h : Ready j s) :
    ∃ t, exec j s = .next t ∧ WritesLanes w s t rd p :=
  lanes_of_issue (fun s i => f (lane w (s.gpr ra) i) ((lane w (s.gpr rb) i).toNat % w)) hexec
    ⟨Nat.mul_div_le 64 w, Nat.le_refl _⟩ (fun i _ => hp i _ rfl (Nat.mod_lt _ hw)) h

section Element

variable {w : Nat} (x : BitVec w) {n : Nat}

theorem element_sll {k : Nat} (hk : k < w) : (x <<< n).getLsbD k = (decide (n ≤ k) && x.getLsbD (k - n)) := by
  rw [BitVec.getLsbD_shiftLeft, decide_eq_true hk, Bool.true_and]
  by_cases h : n ≤ k
  · rw [decide_eq_false (by omega), decide_eq_true h, Bool.not_false]
  · rw [decide_eq_true (by omega), decide_eq_false h, Bool.not_true]

theorem element_srl (k : Nat) : (x >>> n).getLsbD k = (decide (k + n < w) && x.getLsbD (k + n)) := by
  rw [BitVec.getLsbD_ushiftRight, Nat.add_comm n k]
  by_cases h : k + n < w
  · rw [decide_eq_true h, Bool.true_and]
  · rw [decide_eq_false h, BitVec.getLsbD_of_ge _ _ (by omega), Bool.false_and]

theorem element_sra {k : Nat} (hk : k < w) : (x.sshiftRight n).getLsbD k = x.getLsbD (min (k + n) (w - 1)) := by
  rw [BitVec.getLsbD_sshiftRight, decide_eq_false (by omega), Bool.not_false, Bool.true_and]
  by_cases h : n + k < w
  · rw [if_pos h, Nat.min_eq_left (by omega), Nat.add_comm]
  · rw [if_neg h, Nat.min_eq_right (by omega), BitVec.msb_eq_getLsbD_last]

theorem element_rl (hn : n < w) {k : Nat} (hk : k < w) : (x.rotateLeft n).getLsbD ((k + n) % w) = x.getLsbD k := by
  rw [BitVec.getLsbD_rotateLeft, Nat.mod_eq_of_lt hn]
  by_cases h : k + n < w
  · rw [Nat.mod_eq_of_lt h, decide_eq_false (by omega), cond_false, decide_eq_true h, Bool.true_and, Nat.add_sub_cancel]
  · have hmod : (k + n) % w = k + n - w := by rw [Nat.mod_eq_sub_mod (by omega), Nat.mod_eq_of_lt (by omega)]
    rw [hmod, decide_eq_true (by omega), cond_true]
    congr 1
    omega

end Element

/-- Settles O58. -/
theorem vectorLogicShift : Obligations.VectorLogicShift := by
  intro s rd ra rb
  exact ⟨
    writes_of_issue (fun s => s.gpr ra &&& s.gpr rb) fun _ => rfl,
    writes_of_issue (fun s => s.gpr ra ||| s.gpr rb) fun _ => rfl,
    writes_of_issue (fun s => s.gpr ra ^^^ s.gpr rb) fun _ => rfl,
    writes_of_issue (fun s => ~~~(s.gpr ra &&& s.gpr rb)) fun _ => rfl,
    writes_of_issue (fun s => ~~~(s.gpr ra ||| s.gpr rb)) fun _ => rfl,
    writes_of_issue (fun s => s.gpr ra <<< ((s.gpr rb).toNat % 8)) fun _ => rfl,
    writes_of_issue (fun s => s.gpr ra >>> ((s.gpr rb).toNat % 8)) fun _ => rfl,
    shift_of_issue (· <<< ·) (by decide) (fun _ => rfl) fun _ n hn _ _ hk => hn ▸ element_sll _ hk,
    shift_of_issue (· >>> ·) (by decide) (fun _ => rfl) fun _ n hn _ k _ => hn ▸ element_srl _ k,
    shift_of_issue BitVec.sshiftRight (by decide) (fun _ => rfl) fun _ n hn _ _ hk => hn ▸ element_sra _ hk,
    shift_of_issue BitVec.rotateLeft (by decide) (fun _ => rfl) fun _ n hn hlt _ hk => hn ▸ element_rl _ hlt hk,
    shift_of_issue (· <<< ·) (by decide) (fun _ => rfl) fun _ n hn _ _ hk => hn ▸ element_sll _ hk,
    shift_of_issue (· >>> ·) (by decide) (fun _ => rfl) fun _ n hn _ k _ => hn ▸ element_srl _ k,
    shift_of_issue BitVec.sshiftRight (by decide) (fun _ => rfl) fun _ n hn _ _ hk => hn ▸ element_sra _ hk,
    shift_of_issue BitVec.rotateLeft (by decide) (fun _ => rfl) fun _ n hn hlt _ hk => hn ▸ element_rl _ hlt hk⟩

/-! ## Packs -/

/-- An instruction that narrows the elements of two registers to half their width. -/
theorem pack_of_issue {j : Instr} {s : State} {rd ra rb : Reg} (w : Nat) {p : Nat → BitVec (w / 2) → Prop}
    (f : BitVec w → BitVec (w / 2)) (hw : w / 2 * (2 * laneCount w) ≤ 64 ∧ 64 / (w / 2) ≤ 2 * laneCount w)
    (hexec : ∀ s, exec j s = issue j s fun s => s.vecOp (lanesPack w f) rd ra rb)
    (hp : ∀ i v, v = (if i < laneCount w then lane w (s.gpr rb) i else lane w (s.gpr ra) (i - laneCount w)) → p i (f v))
    (h : Ready j s) : ∃ t, exec j s = .next t ∧ WritesLanes (w / 2) s t rd p := by
  refine lanes_of_issue (n := 2 * laneCount w)
    (fun s i => if i < laneCount w then f (lane w (s.gpr rb) i) else f (lane w (s.gpr ra) (i - laneCount w))) hexec hw
    (fun i _ => ?_) h
  show p i (if _ then f _ else f _)
  rw [← apply_ite f]
  exact hp i _ rfl

/-- An instruction that widens the low elements of a register. -/
theorem unpack_of_issue {j : Instr} {s : State} {rd ra rb : Reg} (w : Nat)
    (hexec : ∀ s, exec j s = issue j s fun s => s.vecOp (fun a _ => lanesUnpack w a) rd ra rb) (h : Ready j s) :
    ∃ t, exec j s = .next t ∧ WritesLanes w s t rd fun i x => x.toInt = (lane (w / 2) (s.gpr ra) i).toInt :=
  lanes_of_issue (fun s i => (lane (w / 2) (s.gpr ra) i).signExtend w) hexec ⟨Nat.mul_div_le 64 w, Nat.le_refl _⟩
    (fun _ _ => BitVec.toInt_signExtend_of_le (Nat.div_le_self w 2)) h

/-- Settles O60. -/
theorem vectorPack : Obligations.VectorPack := by
  intro s rd ra rb
  exact ⟨
    pack_of_issue 8 (fun v => v.setWidth 4) (by decide) (fun _ => rfl) fun _ v hv => hv ▸ BitVec.toNat_setWidth 4 v,
    pack_of_issue 8 (fun v => satS 4 v.toInt) (by decide) (fun _ => rfl) fun _ v hv => hv ▸ satS_toInt (by decide) rfl rfl v.toInt,
    pack_of_issue 8 (fun v => satU 4 v.toNat) (by decide) (fun _ => rfl) fun _ v hv => hv ▸ satU_val rfl v.toNat,
    unpack_of_issue 8 fun _ => rfl,
    pack_of_issue 16 (fun v => v.setWidth 8) (by decide) (fun _ => rfl) fun _ v hv => hv ▸ BitVec.toNat_setWidth 8 v,
    pack_of_issue 16 (fun v => satS 8 v.toInt) (by decide) (fun _ => rfl) fun _ v hv => hv ▸ satS_toInt (by decide) rfl rfl v.toInt,
    pack_of_issue 16 (fun v => satU 8 v.toNat) (by decide) (fun _ => rfl) fun _ v hv => hv ▸ satU_val rfl v.toNat,
    unpack_of_issue 16 fun _ => rfl,
    lanes_of_issue (fun s i => lane 4 (s.gpr ra) (lane 4 (s.gpr rb) i).toNat) (fun _ => rfl) (by decide) fun _ _ => rfl⟩

/-! ## Compares -/

/-- The relation that `r` names. -/
def VRel.Rel : VRel → Int → Int → Prop
  | .eq, x, y => x = y
  | .ne, x, y => x ≠ y
  | .gt, x, y => y < x
  | .ge, x, y => y ≤ x
  | .lt, x, y => x < y
  | .le, x, y => x ≤ y

theorem VRel.holds_iff (r : VRel) (x y : Int) : r.holds x y = true ↔ r.Rel x y := by
  cases r
  case eq => exact beq_iff_eq
  case ne => exact bne_iff_ne
  all_goals exact decide_eq_true_iff

/-- Elements `i` of two registers are so related. -/
def LaneRel (s : State) (r : VRel) (w : Nat) (ra rb : Reg) (i : Nat) : Prop :=
  r.Rel (laneVal s.cfg.lvOrderSigned (lane w (s.gpr ra) i)) (laneVal s.cfg.lvOrderSigned (lane w (s.gpr rb) i))

theorem laneRel_iff (s : State) (r : VRel) (w : Nat) (ra rb : Reg) (i : Nat) :
    laneRel s.cfg.lvOrderSigned r w (s.gpr ra) (s.gpr rb) i = true ↔ LaneRel s r w ra rb i := r.holds_iff _ _

theorem State.gprAt_setFlag (s : State) (b : Bool) (j : BitVec 9) : (s.setFlag b).gprAt j = s.gprAt j :=
  State.gprAt_congr rfl rfl j

/-- A compare writes SR[F] and every bit of rD. -/
theorem State.writesVecFlag (s : State) (rd : Reg) (b : Bool) :
    WritesVecFlag s ((s.setFlag b).setGpr rd (if b then BitVec.allOnes 64 else 0)).advance rd b := by
  unfold WritesVecFlag
  generalize (if b then BitVec.allOnes 64 else (0 : Word)) = v
  obtain ⟨⟨hreg, hother⟩, hdone, hrest, hmem⟩ := (s.setFlag b).writesOnly rd v
  have hctx : (s.setFlag b).ctx = s.ctx := (State.setFlag_computes s b).ctx
  rw [hctx] at hreg hother
  have hsr : ((s.setFlag b).setGpr rd v).advance.sr = (s.setFlag b).sr := by rw [State.advance_sr, State.setGpr_sr]
  refine ⟨?_, ⟨hreg, fun j hj => (hother j hj).trans (s.gprAt_setFlag b j)⟩, ?_, hdone, ?_, hmem⟩
  · exact (congrArg (BitVec.getLsbD · 9) hsr).trans (State.setFlag_flag s b)
  · exact (congrArg (· &&& ~~~0x200) hsr).trans (setBit_outside _ _ _ _ (by decide) (by decide))
  · rw [hsr]
    exact hrest

/-- An instruction that compares all elements, or any. -/
theorem vecFlag_of_issue {j : Instr} {s : State} {rd ra rb : Reg} {p : Prop} (f : Config → Word → Word → Bool)
    (hexec : ∀ s, exec j s = issue j s fun s => s.vecFlag (f s.cfg) rd ra rb) (hp : f s.cfg (s.gpr ra) (s.gpr rb) = true ↔ p)
    (h : Ready j s) : ∃ (t : State) (c : Bool), exec j s = .next t ∧ WritesVecFlag s t rd c ∧ (c = true ↔ p) :=
  ⟨_, _, by rw [hexec, issue_run h, State.vecFlag, State.writeReg_eq], s.writesVecFlag rd _, hp⟩

theorem all_of_issue {j : Instr} {s : State} {rd ra rb : Reg} (r : VRel) (w : Nat)
    (hexec : ∀ s, exec j s = issue j s fun s => s.vecFlag (lanesAll s.cfg.lvOrderSigned r w) rd ra rb) (h : Ready j s) :
    ∃ (t : State) (c : Bool), exec j s = .next t ∧ WritesVecFlag s t rd c ∧
      (c = true ↔ ∀ i < laneCount w, LaneRel s r w ra rb i) := by
  refine vecFlag_of_issue (fun c => lanesAll c.lvOrderSigned r w) hexec ?_ h
  simp only [lanesAll, List.all_eq_true, List.mem_range, laneRel_iff]

theorem any_of_issue {j : Instr} {s : State} {rd ra rb : Reg} (r : VRel) (w : Nat)
    (hexec : ∀ s, exec j s = issue j s fun s => s.vecFlag (lanesAny s.cfg.lvOrderSigned r w) rd ra rb) (h : Ready j s) :
    ∃ (t : State) (c : Bool), exec j s = .next t ∧ WritesVecFlag s t rd c ∧
      (c = true ↔ ∃ i < laneCount w, LaneRel s r w ra rb i) := by
  refine vecFlag_of_issue (fun c => lanesAny c.lvOrderSigned r w) hexec ?_ h
  simp only [lanesAny, List.any_eq_true, List.mem_range, laneRel_iff]

/-- An instruction that makes a mask of a relation. -/
theorem cmp_of_issue {j : Instr} {s : State} {rd ra rb : Reg} (r : VRel) (w : Nat)
    (hexec : ∀ s, exec j s = issue j s fun s => s.vecOp (lanesCmp s.cfg.lvOrderSigned r w) rd ra rb) (h : Ready j s) :
    ∃ t, exec j s = .next t ∧ WritesLanes w s t rd fun i x =>
      (LaneRel s r w ra rb i → x = BitVec.allOnes w) ∧ (¬ LaneRel s r w ra rb i → x = 0) := by
  refine lanes_of_issue
    (fun s i => if laneRel s.cfg.lvOrderSigned r w (s.gpr ra) (s.gpr rb) i then BitVec.allOnes w else 0) hexec
    ⟨Nat.mul_div_le 64 w, Nat.le_refl _⟩ (fun i _ => ⟨fun hr => ?_, fun hr => ?_⟩) h
  · exact if_pos ((laneRel_iff s r w ra rb i).mpr hr)
  · exact if_neg (mt (laneRel_iff s r w ra rb i).mp hr)

/-- Settles O59. -/
theorem vectorCompare : Obligations.VectorCompare := by
  intro s rd ra rb
  exact ⟨
    all_of_issue .eq 8 fun _ => rfl, any_of_issue .eq 8 fun _ => rfl, cmp_of_issue .eq 8 fun _ => rfl,
    all_of_issue .eq 16 fun _ => rfl, any_of_issue .eq 16 fun _ => rfl, cmp_of_issue .eq 16 fun _ => rfl,
    all_of_issue .ge 8 fun _ => rfl, any_of_issue .ge 8 fun _ => rfl, cmp_of_issue .ge 8 fun _ => rfl,
    all_of_issue .ge 16 fun _ => rfl, any_of_issue .ge 16 fun _ => rfl, cmp_of_issue .ge 16 fun _ => rfl,
    all_of_issue .gt 8 fun _ => rfl, any_of_issue .gt 8 fun _ => rfl, cmp_of_issue .gt 8 fun _ => rfl,
    all_of_issue .gt 16 fun _ => rfl, any_of_issue .gt 16 fun _ => rfl, cmp_of_issue .gt 16 fun _ => rfl,
    all_of_issue .le 8 fun _ => rfl, any_of_issue .le 8 fun _ => rfl, cmp_of_issue .le 8 fun _ => rfl,
    all_of_issue .le 16 fun _ => rfl, any_of_issue .le 16 fun _ => rfl, cmp_of_issue .le 16 fun _ => rfl,
    all_of_issue .lt 8 fun _ => rfl, any_of_issue .lt 8 fun _ => rfl, cmp_of_issue .lt 8 fun _ => rfl,
    all_of_issue .lt 16 fun _ => rfl, any_of_issue .lt 16 fun _ => rfl, cmp_of_issue .lt 16 fun _ => rfl,
    all_of_issue .ne 8 fun _ => rfl, any_of_issue .ne 8 fun _ => rfl, cmp_of_issue .ne 8 fun _ => rfl,
    all_of_issue .ne 16 fun _ => rfl, any_of_issue .ne 16 fun _ => rfl, cmp_of_issue .ne 16 fun _ => rfl⟩

end Sys2Proof.Machine
end

section
/-! PROOFS. What the floating-point operations give for NaNs, infinities and zeros, and as integers (45_orfpx.md R603, R606,
R610-R617). -/

namespace Sys2Proof.Machine

/-! ## NaN operands -/

/-- A NaN among the operands decides the result. -/
theorem nanOperand_of_isNan {a b : FVal} (h : a.isNan = true ∨ b.isNan = true) :
    nanOperand a b = some { out := .quietNan, flags := { qnf := true, ivf := decide (a = .nan true ∨ b = .nan true) } } := by
  cases a with
  | nan s =>
    cases s
    · cases b with
      | nan s => cases s <;> rfl
      | inf | num => rfl
    · rfl
  | inf | num =>
    cases b with
    | nan s => cases s <;> rfl
    | inf | num => exact h.elim nofun nofun

theorem FVal.negate_isNan (b : FVal) : b.negate.isNan = b.isNan := by cases b <;> rfl

theorem FVal.negate_eq_nan (b : FVal) : b.negate = .nan true ↔ b = .nan true := by
  cases b <;> simp [FVal.negate]

/-- Every operation with a NaN operand gives a quiet NaN, and is invalid with a signalling one. -/
theorem nan_rule (f : Fmt) (e : FEnv) (k : RemKind) {a b : FVal} (h : a.isNan = true ∨ b.isNan = true) :
    ∀ r ∈ [fpAdd f e a b, fpSub f e a b, fpMul f e a b, fpDiv f e a b, fpRem f e k a b],
      r = { out := .quietNan, flags := { qnf := true, ivf := decide (a = .nan true ∨ b = .nan true) } } := by
  have hnan := nanOperand_of_isNan h
  have hneg : nanOperand a b.negate =
      some { out := .quietNan, flags := { qnf := true, ivf := decide (a = .nan true ∨ b = .nan true) } } := by
    rw [nanOperand_of_isNan (by rwa [b.negate_isNan])]
    simp only [b.negate_eq_nan]
  simp only [List.forall_mem_cons, List.not_mem_nil, false_implies, implies_true, and_true]
  refine ⟨?_, ?_, ?_, ?_, ?_⟩
  · unfold fpAdd
    rw [hnan]
  · unfold fpSub fpAdd
    rw [hneg]
  · unfold fpMul
    rw [hnan]
  · unfold fpDiv
    rw [hnan]
  · unfold fpRem
    rw [hnan]

/-! ## Invalid operations, infinities and division by zero -/

/-- The invalid operations on data that are no NaN. -/
theorem invalid_rule (f : Fmt) (e : FEnv) (k : RemKind) (n m : Bool) (x : Nat) (p : Int) :
    ∀ r ∈ [fpAdd f e (.inf n) (.inf !n), fpSub f e (.inf n) (.inf n), fpMul f e (.num n 0 p) (.inf m),
        fpMul f e (.inf m) (.num n 0 p), fpDiv f e (.num n 0 p) (.num m 0 p), fpDiv f e (.inf n) (.inf m),
        fpRem f e k (.inf n) (.num m x p), fpRem f e k (.num n x p) (.num m 0 p)],
      r = { out := .quietNan, flags := { qnf := true, ivf := true } } := by
  simp only [List.forall_mem_cons, List.not_mem_nil, false_implies, implies_true, and_true]
  refine ⟨?_, ?_, rfl, rfl, rfl, rfl, rfl, rfl⟩
  · cases n <;> rfl
  · cases n <;> rfl

/-- Infinite operands of an operation that is valid. -/
theorem inf_rule (f : Fmt) (e : FEnv) (n m : Bool) (x : Nat) (p : Int) :
    let inf := fun (neg : Bool) => ({ out := .bits (pack f neg f.emax 0), flags := { inf := true } } : FRes)
    fpAdd f e (.inf n) (.num m x p) = inf n ∧ fpAdd f e (.num m x p) (.inf n) = inf n ∧
    fpAdd f e (.inf n) (.inf n) = inf n ∧ fpSub f e (.inf n) (.num m x p) = inf n ∧
    fpSub f e (.num m x p) (.inf n) = inf (!n) ∧ fpSub f e (.inf n) (.inf !n) = inf n ∧
    fpMul f e (.inf n) (.inf m) = inf (n != m) ∧
    (x ≠ 0 → fpMul f e (.inf n) (.num m x p) = inf (n != m) ∧ fpMul f e (.num m x p) (.inf n) = inf (n != m)) ∧
    fpDiv f e (.inf n) (.num m x p) = inf (n != m) ∧
    fpDiv f e (.num m x p) (.inf n) = { out := .bits (pack f (n != m) 0 0), flags := { zf := true } } := by
  intro inf
  have hxor : (m != n) = (n != m) := Bool.xor_comm m n
  refine ⟨rfl, rfl, ?_, rfl, rfl, ?_, rfl, fun hx => ⟨if_neg hx, ?_⟩, rfl, ?_⟩
  · cases n <;> rfl
  · cases n <;> rfl
  · rw [← hxor]
    exact if_neg hx
  · rw [← hxor]
    rfl

/-- A number that is not zero, divided by zero. -/
theorem divideByZero_rule (f : Fmt) (e : FEnv) (n m : Bool) {x : Nat} (p q : Int) (hx : x ≠ 0) :
    fpDiv f e (.num n x p) (.num m 0 q) =
      { out := .bits (pack f (n != m) f.emax 0), flags := { inf := true, dzf := true } } := by
  simp only [fpDiv, nanOperand, hx, if_true, if_false, infResult]

/-! ## Integers -/

/-- The integer of `lf.ftoi`. -/
theorem toInt_rule (f : Fmt) (env : FEnv) (n : Bool) (x : Nat) (p : Int) :
    let r := roundAt env.mode n x 1 p 0
    let z := signedMan n r.1
    (-(2 ^ (f.width - 1)) ≤ z ∧ z < 2 ^ (f.width - 1) → fpToInt f env (.num n x p) =
      { out := .bits (BitVec.ofInt f.width z).toNat, flags := { zf := decide (z = 0), ixf := !r.2 } }) ∧
    (¬ (-(2 ^ (f.width - 1)) ≤ z ∧ z < 2 ^ (f.width - 1)) →
      fpToInt f env (.num n x p) = { out := .anyInt, flags := { ivf := true } }) ∧
    (∀ a : FVal, a.isNan = true ∨ a = .inf n → fpToInt f env a = { out := .anyInt, flags := { ivf := true } }) := by
  refine ⟨fun ⟨hlo, hhi⟩ => if_neg fun hout => ?_, fun hout => if_pos ?_, fun a ha => ?_⟩
  · rcases hout with h | h
    · exact absurd hlo (Int.not_le.mpr h)
    · exact absurd hhi (Int.not_lt.mpr h)
  · rcases Classical.not_and_iff_not_or_not.mp hout with h | h
    · exact .inl (Int.not_le.mp h)
    · exact .inr (Int.not_lt.mp h)
  · cases a with
    | nan | inf => rfl
    | num => exact ha.elim nofun nofun

end Sys2Proof.Machine
end

section
/-! PROOFS. The floating-point operations on numbers are `roundResult` of the exact value (45_orfpx.md R602, R606, R610-R616). -/

namespace Sys2Proof.Machine

/-! ## Exact values -/

/-- The sign as a factor. -/
def signFactor (n : Bool) : Int := if n then -1 else 1

theorem signedMan_eq (n : Bool) (x : Nat) : signedMan n x = signFactor n * x := by
  cases n
  · exact (Int.one_mul _).symm
  · exact Int.neg_eq_neg_one_mul _

theorem signFactor_xor (n m : Bool) : signFactor (n != m) = signFactor n * signFactor m := by cases n <;> cases m <;> rfl

theorem signFactor_not (n : Bool) : signFactor (!n) = -signFactor n := by cases n <;> rfl

theorem signFactor_sq (n : Bool) : signFactor n * signFactor n = 1 := by cases n <;> rfl

theorem abs_signFactor (n : Bool) : |signFactor n| = 1 := by cases n <;> rfl

/-- A number at a smaller scale. -/
theorem exact_num {e p : Int} (h : e ≤ p) (n : Bool) (x : Nat) :
    (FVal.num n x p).exact = (signFactor n * (x * 2 ^ (p - e).toNat : Nat) : Int) * (2 : ℚ) ^ e := by
  have hp : (2 : ℚ) ^ p = 2 ^ (p - e).toNat * 2 ^ e := by
    rw [← zpow_natCast, Int.toNat_of_nonneg (Int.sub_nonneg.mpr h), ← zpow_add₀ two_ne_zero, Int.sub_add_cancel]
  rw [FVal.exact, signedMan_eq, hp]
  push_cast
  ring

/-- Any integer is a significand with its sign. -/
theorem signFactor_natAbs (z : Int) : signFactor (decide (z < 0)) * z.natAbs = z := by
  by_cases h : z < 0
  · rw [decide_eq_true h]
    show -1 * (z.natAbs : Int) = z
    omega
  · rw [decide_eq_false h]
    show 1 * (z.natAbs : Int) = z
    omega

theorem cast_signFactor_natAbs (z : Int) : (signFactor (decide (z < 0)) : ℚ) * (z.natAbs : ℚ) = z := by
  rw [← Int.cast_natCast, ← Int.cast_mul, signFactor_natAbs]

/-- The size of an integer with a sign at a scale. -/
theorem abs_signed {E : ℚ} (hE : 0 < E) (n : Bool) (w : Int) : |(signFactor n : ℚ) * (w * E)| = (|w| : Int) * E := by
  rw [abs_mul, ← Int.cast_abs, abs_signFactor, Int.cast_one, one_mul, abs_mul, abs_of_pos hE, Int.cast_abs]

/-! ## Rounded results -/

section Rounded

variable {f : Fmt} {env : FEnv} {neg : Bool} {x : ℚ}

theorem roundsTo_zero (h : x = 0) : RoundsTo f env neg x (zeroResult f neg {}) :=
  ⟨fun _ => rfl, fun hx => absurd h hx⟩

theorem roundsTo_round {s : Bool} {p q : Nat} {e : Int} (hp : 0 < p) (hq : 0 < q) (h : x = signFactor s * ((p : ℚ) / q * 2 ^ e)) :
    RoundsTo f env neg x (roundResult f env s p q e) := by
  have hpos : (0 : ℚ) < (p : ℚ) / q * 2 ^ e := by positivity
  refine ⟨fun h0 => ?_, fun _ => ⟨p, q, e, hp, hq, ?_, ?_⟩⟩
  · have hs : (signFactor s : ℚ) ≠ 0 := by cases s <;> norm_num [signFactor]
    exact absurd (h.symm.trans h0) (mul_ne_zero hs hpos.ne')
  · rw [h, abs_mul, ← Int.cast_abs, abs_signFactor, Int.cast_one, one_mul, abs_of_pos hpos]
  · congr 1
    cases s
    · rw [h, decide_eq_false]
      exact not_lt.mpr (by simpa [signFactor] using hpos.le)
    · rw [h, decide_eq_true]
      simpa [signFactor] using hpos

/-- The exact value is an integer at some scale. -/
theorem roundsTo_int {z e : Int} (h : x = z * (2 : ℚ) ^ e) :
    RoundsTo f env neg x (if z = 0 then zeroResult f neg {} else roundResult f env (decide (z < 0)) z.natAbs 1 e) := by
  by_cases hz : z = 0
  · rw [if_pos hz]
    exact roundsTo_zero (by rw [h, hz, Int.cast_zero, zero_mul])
  · rw [if_neg hz]
    refine roundsTo_round (Int.natAbs_pos.mpr hz) Nat.one_pos ?_
    rw [h, Nat.cast_one, div_one, ← mul_assoc, cast_signFactor_natAbs]

end Rounded

/-! ## Sums, products and quotients -/

section Exact

variable (f : Fmt) (env : FEnv) (n m : Bool) (x y : Nat) (p q : Int)

theorem fpAdd_rounds : RoundsTo f env (if n = m then n else env.mode == .down) ((FVal.num n x p).exact + (FVal.num m y q).exact)
    (fpAdd f env (.num n x p) (.num m y q)) := by
  refine roundsTo_int (z := signedMan n (x * 2 ^ (p - min p q).toNat) + signedMan m (y * 2 ^ (q - min p q).toNat)) ?_
  rw [exact_num (Int.min_le_left p q), exact_num (Int.min_le_right p q), signedMan_eq, signedMan_eq, Int.cast_add, add_mul]

theorem exact_negate (a : FVal) : a.negate.exact = -a.exact := by
  cases a with
  | nan | inf => exact neg_zero.symm
  | num m y q =>
    rw [FVal.negate, FVal.exact, FVal.exact, signedMan_eq, signedMan_eq, signFactor_not]
    push_cast
    ring

theorem fpSub_rounds : RoundsTo f env (if n = !m then n else env.mode == .down) ((FVal.num n x p).exact - (FVal.num m y q).exact)
    (fpSub f env (.num n x p) (.num m y q)) := by
  have h := fpAdd_rounds f env n (!m) x y p q
  have hneg : (FVal.num (!m) y q).exact = -(FVal.num m y q).exact := exact_negate (.num m y q)
  rw [hneg, ← sub_eq_add_neg] at h
  exact h

theorem fpMul_rounds : RoundsTo f env (n != m) ((FVal.num n x p).exact * (FVal.num m y q).exact)
    (fpMul f env (.num n x p) (.num m y q)) := by
  have hval : (FVal.num n x p).exact * (FVal.num m y q).exact =
      signFactor (n != m) * (((x * y : Nat) : ℚ) / (1 : Nat) * 2 ^ (p + q)) := by
    rw [FVal.exact, FVal.exact, signedMan_eq, signedMan_eq, signFactor_xor, zpow_add₀ two_ne_zero]
    push_cast
    ring
  show RoundsTo f env _ _ (if x = 0 ∨ y = 0 then _ else _)
  by_cases h0 : x = 0 ∨ y = 0
  · rw [if_pos h0]
    have hxy : x * y = 0 := Nat.mul_eq_zero.mpr h0
    refine roundsTo_zero ?_
    rw [hval, hxy, Nat.cast_zero, zero_div, zero_mul, mul_zero]
  · rw [if_neg h0]
    exact roundsTo_round (Nat.pos_of_ne_zero fun h => h0 (Nat.mul_eq_zero.mp h)) Nat.one_pos hval

theorem fpDiv_rounds (hy : y ≠ 0) : RoundsTo f env (n != m) ((FVal.num n x p).exact / (FVal.num m y q).exact)
    (fpDiv f env (.num n x p) (.num m y q)) := by
  have hval : (FVal.num n x p).exact / (FVal.num m y q).exact = signFactor (n != m) * ((x : ℚ) / y * 2 ^ (p - q)) := by
    have hs : (signFactor m : ℚ) * signFactor m = 1 := by exact_mod_cast signFactor_sq m
    have hm : (signFactor m : ℚ) ≠ 0 := left_ne_zero_of_mul_eq_one hs
    have hyq : (y : ℚ) ≠ 0 := Nat.cast_ne_zero.mpr hy
    rw [FVal.exact, FVal.exact, signedMan_eq, signedMan_eq, signFactor_xor, zpow_sub₀ two_ne_zero]
    push_cast
    field_simp
    linear_combination (-(signFactor n : ℚ) * x) * hs
  have hrun : fpDiv f env (.num n x p) (.num m y q) =
      if x = 0 then zeroResult f (n != m) {} else roundResult f env (n != m) x y (p - q) := by
    simp only [fpDiv, nanOperand, hy, if_false]
  rw [hrun]
  by_cases hx : x = 0
  · rw [if_pos hx]
    refine roundsTo_zero ?_
    rw [hval, hx, Nat.cast_zero, zero_div, zero_mul, mul_zero]
  · rw [if_neg hx]
    exact roundsTo_round (Nat.pos_of_ne_zero hx) (Nat.pos_of_ne_zero hy) hval

theorem fpOfInt_rounds (z : Int) : RoundsTo f env false (z : ℚ) (fpOfInt f env z) :=
  roundsTo_int (by rw [zpow_zero, mul_one])

/-! ## Remainders -/

/-- The remainder of two magnitudes: a multiple away from the dividend, of the size its kind asks for. -/
theorem remainderOf_spec (k : RemKind) (a : Nat) {b : Nat} (hb : 0 < b) : ∃ c : Int, remainderOf k a b = a - c * b ∧
    (k = .trunc → |remainderOf k a b| < b ∧ 0 ≤ remainderOf k a b) ∧
    (k = .ieee → 2 * |remainderOf k a b| ≤ b ∧ (2 * |remainderOf k a b| = b → Even c)) := by
  have hdiv : (a : Int) = (a / b : Nat) * b + (a % b : Nat) := by
    rw [Int.mul_comm]
    exact_mod_cast (Nat.div_add_mod a b).symm
  have hlt : a % b < b := Nat.mod_lt a hb
  have hnn : |((a % b : Nat) : Int)| = (a % b : Nat) := abs_of_nonneg (Int.natCast_nonneg _)
  by_cases hup : k = .ieee ∧ (2 * (a % b) > b ∨ (2 * (a % b) = b ∧ a / b % 2 = 1))
  · obtain ⟨rfl, hup⟩ := hup
    have hrem : remainderOf .ieee a b = (a % b : Nat) - (b : Int) := if_pos hup
    have habs : |((a % b : Nat) : Int) - b| = b - (a % b : Nat) := by
      rw [abs_of_nonpos (by omega)]
      omega
    refine ⟨(a / b : Nat) + 1, ?_, nofun, fun _ => ?_⟩
    · rw [hrem, Int.add_mul]
      omega
    · rw [hrem, habs]
      refine ⟨by omega, fun htie => ?_⟩
      rw [Int.even_add_one, Int.not_even_iff]
      omega
  · have hrem : remainderOf k a b = (a % b : Nat) := by
      cases k with
      | trunc => rfl
      | ieee => exact if_neg fun h => hup ⟨rfl, h⟩
    refine ⟨(a / b : Nat), by rw [hrem]; omega, fun _ => ?_, fun hk => ?_⟩
    · rw [hrem, hnn]
      omega
    · rw [hrem, hnn]
      have hdown : ¬ (2 * (a % b) > b ∨ (2 * (a % b) = b ∧ a / b % 2 = 1)) := fun h => hup ⟨hk, h⟩
      refine ⟨by omega, fun htie => ?_⟩
      rw [Int.even_iff]
      omega

theorem neverInexact_zero {neg : Bool} {v : ℚ} (h : v = 0) :
    NeverInexact (RoundsTo f env neg v) (zeroResult f neg {}) := ⟨_, roundsTo_zero h, rfl⟩

theorem fpRem_inf_rounds (k : RemKind) : NeverInexact (RoundsTo f env n (FVal.num n x p).exact)
    (fpRem f env k (.num n x p) (.inf m)) := by
  have hval : (FVal.num n x p).exact = signFactor n * ((x : ℚ) / (1 : Nat) * 2 ^ p) := by
    rw [FVal.exact, signedMan_eq]
    push_cast
    ring
  show NeverInexact _ (if x = 0 then _ else _)
  by_cases hx : x = 0
  · rw [if_pos hx]
    refine neverInexact_zero f env ?_
    rw [hval, hx, Nat.cast_zero, zero_div, zero_mul, mul_zero]
  · rw [if_neg hx]
    exact ⟨_, roundsTo_round (Nat.pos_of_ne_zero hx) Nat.one_pos hval, rfl⟩

/-- The remainder of two numbers, and how far from the dividend it is. -/
theorem fpRem_rounds (hy : y ≠ 0) (k : RemKind) : ∃ z : Int,
    let a := (FVal.num n x p).exact
    let b := (FVal.num m y q).exact
    let r := a - z * b
    NeverInexact (RoundsTo f env n r) (fpRem f env k (.num n x p) (.num m y q)) ∧
    (k = .trunc → |r| < |b| ∧ 0 ≤ r * a) ∧ (k = .ieee → 2 * |r| ≤ |b| ∧ (2 * |r| = |b| → Even z)) := by
  have ha := exact_num (Int.min_le_left p q) n x
  have hb := exact_num (Int.min_le_right p q) m y
  have hY : 0 < y * 2 ^ (q - min p q).toNat := Nat.mul_pos (Nat.pos_of_ne_zero hy) (Nat.two_pow_pos _)
  have hrun : fpRem f env k (.num n x p) (.num m y q) =
      if remainderOf k (x * 2 ^ (p - min p q).toNat) (y * 2 ^ (q - min p q).toNat) = 0 then zeroResult f n {}
      else (roundResult f env (n != decide (remainderOf k (x * 2 ^ (p - min p q).toNat) (y * 2 ^ (q - min p q).toNat) < 0))
        (remainderOf k (x * 2 ^ (p - min p q).toNat) (y * 2 ^ (q - min p q).toNat)).natAbs 1 (min p q)).neverInexact := by
    simp only [fpRem, nanOperand, hy, if_false]
  rw [hrun, ha, hb]
  clear hrun ha hb
  generalize x * 2 ^ (p - min p q).toNat = u
  generalize y * 2 ^ (q - min p q).toNat = v at hY
  obtain ⟨c, hc, htrunc, hieee⟩ := remainderOf_spec k u hY
  generalize remainderOf k u v = w at hc htrunc hieee
  generalize hE : (2 : ℚ) ^ min p q = E
  have hpos : 0 < E := hE ▸ zpow_pos two_pos _
  have hsn : (signFactor n : ℚ) * signFactor n = 1 := by exact_mod_cast signFactor_sq n
  have hsm : (signFactor m : ℚ) * signFactor m = 1 := by exact_mod_cast signFactor_sq m
  have hr : ((signFactor n * (u : Nat) : Int) : ℚ) * E - ((c * (signFactor n * signFactor m) : Int) : ℚ) *
      (((signFactor m * (v : Nat) : Int) : ℚ) * E) = signFactor n * (w * E) := by
    rw [hc]
    push_cast
    linear_combination (-(c : ℚ) * signFactor n * v * E) * hsm
  have hbabs : |((signFactor m * (v : Nat) : Int) : ℚ) * E| = ((v : Int) : ℚ) * E := by
    rw [Int.cast_mul, mul_assoc, abs_signed hpos, Nat.abs_cast]
  refine ⟨c * (signFactor n * signFactor m), ?_⟩
  dsimp only
  rw [hr, abs_signed hpos, hbabs]
  refine ⟨?_, fun hk => ⟨?_, ?_⟩, fun hk => ⟨?_, fun htie => ?_⟩⟩
  · by_cases hw : w = 0
    · rw [if_pos hw]
      refine neverInexact_zero f env ?_
      rw [hw, Int.cast_zero, zero_mul, mul_zero]
    · rw [if_neg hw]
      refine ⟨_, roundsTo_round (Int.natAbs_pos.mpr hw) Nat.one_pos ?_, rfl⟩
      rw [signFactor_xor, hE, Nat.cast_one, div_one, Int.cast_mul]
      linear_combination (-(signFactor n : ℚ) * E) * cast_signFactor_natAbs w
  · exact mul_lt_mul_of_pos_right (Int.cast_lt.mpr (htrunc hk).1) hpos
  · have hw : (0 : ℚ) ≤ w := Int.cast_nonneg (htrunc hk).2
    have hsq : (signFactor n : ℚ) * (w * E) * (((signFactor n * (u : Nat) : Int) : ℚ) * E) = w * u * (E * E) := by
      push_cast
      linear_combination (w * u * (E * E)) * hsn
    rw [hsq]
    positivity
  · rw [← mul_assoc]
    exact mul_le_mul_of_nonneg_right (by exact_mod_cast (hieee hk).1) hpos.le
  · rw [← mul_assoc] at htie
    exact ((hieee hk).2 (by exact_mod_cast mul_right_cancel₀ hpos.ne' htie)).mul_right _

end Exact

end Sys2Proof.Machine
end

section
/-! PROOFS. Rounding: `roundAt` is the nearest multiple in the rounding mode, `binade` the exponent (45_orfpx.md R602). -/

namespace Sys2Proof.Machine

/-! ## Scaling -/

theorem scaledDen_pos {q : Nat} (hq : 0 < q) (e t : Int) : 0 < scaledDen q e t := Nat.mul_pos hq (Nat.two_pow_pos _)

/-- A power of two as a quotient of whole ones. -/
theorem two_zpow_eq (d : Int) : (2 : ℚ) ^ d = 2 ^ d.toNat / 2 ^ (-d).toNat := by
  rcases Int.le_total 0 d with h | h
  · have h0 : (-d).toNat = 0 := by omega
    rw [h0, pow_zero, div_one, ← zpow_natCast, Int.toNat_of_nonneg h]
  · have h0 : d.toNat = 0 := by omega
    rw [h0, pow_zero, one_div, ← zpow_natCast, ← zpow_neg, Int.toNat_of_nonneg (Int.neg_nonneg.mpr h), neg_neg]

/-- The scaled numerator over the scaled denominator is the value in units of `2^t`. -/
theorem scaled_ratio {q : Nat} (hq : 0 < q) (p : Nat) (e t : Int) :
    (scaledNum p e t : ℚ) / scaledDen q e t = (p : ℚ) / q * 2 ^ (e - t) := by
  rw [scaledNum, scaledDen, two_zpow_eq (e - t), neg_sub]
  push_cast
  have hq' : (q : ℚ) ≠ 0 := Nat.cast_ne_zero.mpr hq.ne'
  field_simp

/-- The value in units of `2^t`, as a product. -/
theorem scaledNum_eq {q : Nat} (hq : 0 < q) (p : Nat) (e t : Int) :
    (scaledNum p e t : ℚ) * 2 ^ t = (p : ℚ) / q * 2 ^ e * scaledDen q e t := by
  have hd : (scaledDen q e t : ℚ) ≠ 0 := Nat.cast_ne_zero.mpr (scaledDen_pos hq e t).ne'
  have h := scaled_ratio hq p e t
  rw [div_eq_iff hd, zpow_sub₀ two_ne_zero] at h
  rw [h]
  field_simp

section Compare

variable {q : Nat} (hq : 0 < q) (p c : Nat) (e t : Int)
include hq

/-- Whole multiples of the unit compare as the scaled numbers do. -/
theorem scaled_le_iff : c * scaledDen q e t ≤ scaledNum p e t ↔ (c : ℚ) * 2 ^ t ≤ (p : ℚ) / q * 2 ^ e := by
  have hd : (0 : ℚ) < scaledDen q e t := Nat.cast_pos.mpr (scaledDen_pos hq e t)
  have ht : (0 : ℚ) < 2 ^ t := zpow_pos two_pos t
  rw [← Nat.cast_le (α := ℚ), Nat.cast_mul, ← mul_le_mul_iff_left₀ ht, scaledNum_eq hq, mul_right_comm, mul_le_mul_iff_left₀ hd]

theorem scaled_ge_iff : scaledNum p e t ≤ c * scaledDen q e t ↔ (p : ℚ) / q * 2 ^ e ≤ (c : ℚ) * 2 ^ t := by
  have hd : (0 : ℚ) < scaledDen q e t := Nat.cast_pos.mpr (scaledDen_pos hq e t)
  have ht : (0 : ℚ) < 2 ^ t := zpow_pos two_pos t
  rw [← Nat.cast_le (α := ℚ), Nat.cast_mul, ← mul_le_mul_iff_left₀ ht, scaledNum_eq hq, mul_right_comm (c : ℚ),
    mul_le_mul_iff_left₀ hd]

end Compare

/-! ## The exponent -/

theorem log2_bounds {p : Nat} (hp : 0 < p) : (2 : ℚ) ^ (Nat.log2 p : Int) ≤ p ∧ (p : ℚ) < 2 ^ ((Nat.log2 p : Int) + 1) := by
  have hlo : 2 ^ Nat.log2 p ≤ p := Nat.log2_self_le hp.ne'
  have hhi : p < 2 ^ (Nat.log2 p + 1) := Nat.lt_log2_self
  refine ⟨by exact_mod_cast hlo, by exact_mod_cast hhi⟩

/-- `binade` is the exponent of the greatest power of two that is not above the value. -/
theorem binade_spec {p q : Nat} (hp : 0 < p) (hq : 0 < q) (e : Int) :
    (2 : ℚ) ^ binade p q e ≤ (p : ℚ) / q * 2 ^ e ∧ (p : ℚ) / q * 2 ^ e < 2 ^ (binade p q e + 1) := by
  obtain ⟨hplo, hphi⟩ := log2_bounds hp
  obtain ⟨hqlo, hqhi⟩ := log2_bounds hq
  have hq' : (0 : ℚ) < q := Nat.cast_pos.mpr hq
  have he : (0 : ℚ) < 2 ^ e := zpow_pos two_pos e
  have hsplit : ∀ k : Int, (2 : ℚ) ^ (k + e) = 2 ^ k * 2 ^ e := fun k => zpow_add₀ two_ne_zero k e
  have hiff := scaled_le_iff hq p 1 0 ((Nat.log2 p : Int) - Nat.log2 q)
  rw [Nat.one_mul, Nat.cast_one, one_mul, zpow_zero, mul_one] at hiff
  have hlow : (2 : ℚ) ^ ((Nat.log2 p : Int) - Nat.log2 q - 1) ≤ (p : ℚ) / q := by
    rw [le_div_iff₀ hq']
    calc (2 : ℚ) ^ ((Nat.log2 p : Int) - Nat.log2 q - 1) * q
        ≤ 2 ^ ((Nat.log2 p : Int) - Nat.log2 q - 1) * 2 ^ ((Nat.log2 q : Int) + 1) := by gcongr
      _ = 2 ^ (Nat.log2 p : Int) := by rw [← zpow_add₀ two_ne_zero]; congr 1; ring
      _ ≤ p := hplo
  have hhigh : (p : ℚ) / q < 2 ^ ((Nat.log2 p : Int) - Nat.log2 q + 1) := by
    rw [div_lt_iff₀ hq']
    calc (p : ℚ) < 2 ^ ((Nat.log2 p : Int) + 1) := hphi
      _ = 2 ^ ((Nat.log2 p : Int) - Nat.log2 q + 1) * 2 ^ (Nat.log2 q : Int) := by rw [← zpow_add₀ two_ne_zero]; congr 1; ring
      _ ≤ 2 ^ ((Nat.log2 p : Int) - Nat.log2 q + 1) * q := by gcongr
  unfold binade
  dsimp only
  split
  next hlt =>
    have hlt' : (p : ℚ) / q < 2 ^ ((Nat.log2 p : Int) - Nat.log2 q) := not_le.mp fun h => absurd (hiff.mpr h) (Nat.not_le.mpr hlt)
    rw [hsplit, add_right_comm, hsplit, sub_add_cancel]
    exact ⟨mul_le_mul_of_nonneg_right hlow he.le, mul_lt_mul_of_pos_right hlt' he⟩
  next hge =>
    have hge' := hiff.mp (Nat.not_lt.mp hge)
    rw [hsplit, add_right_comm, hsplit]
    exact ⟨mul_le_mul_of_nonneg_right hge' he.le, mul_lt_mul_of_pos_right hhigh he⟩

/-! ## Rounding to a multiple -/

/-- The rounded quotient of two numbers, by the modes. -/
theorem rounded_quotient (mode : RMode) (neg : Bool) (n : Nat) {d : Nat} (hd : 0 < d) :
    let m := n / d + (roundsUp mode neg (n / d) (n % d) d).toNat
    ((n % d == 0) = true ↔ n = m * d) ∧ n < m * d + d ∧ m * d < n + d ∧
    (mode = .zero → m * d ≤ n) ∧ (mode = .up → if neg then m * d ≤ n else n ≤ m * d) ∧
    (mode = .down → if neg then n ≤ m * d else m * d ≤ n) ∧
    (mode = .nearest → 2 * (m * d) ≤ 2 * n + d ∧ 2 * n ≤ 2 * (m * d) + d ∧
      (2 * (m * d) = 2 * n + d ∨ 2 * n = 2 * (m * d) + d → m % 2 = 0)) := by
  have hn : n = n / d * d + n % d := by rw [Nat.mul_comm]; exact (Nat.div_add_mod n d).symm
  have hlt : n % d < d := Nat.mod_lt n hd
  have hmul : ∀ b : Bool, (n / d + b.toNat) * d = n / d * d + (if b then d else 0) := by
    intro b
    rw [Nat.add_mul]
    cases b
    · rw [Bool.toNat_false, Nat.zero_mul]; rfl
    · rw [Bool.toNat_true, Nat.one_mul]; rfl
  dsimp only
  rw [hmul, beq_iff_eq]
  generalize n % d = r at hn hlt
  generalize n / d * d = x at hn
  generalize n / d = c
  subst hn
  cases mode with
  | nearest =>
    simp only [reduceCtorEq, false_implies, true_implies, true_and]
    have hup : roundsUp .nearest neg c r d = true ↔ 2 * r > d ∨ 2 * r = d ∧ c % 2 = 1 := by
      simp only [roundsUp, Bool.or_eq_true, Bool.and_eq_true, decide_eq_true_eq, beq_iff_eq]
    cases h : roundsUp .nearest neg c r d
    · have hdown := mt hup.mpr (Bool.eq_false_iff.mp h)
      simp only [Bool.false_eq_true, if_false, Bool.toNat_false]
      omega
    · have hup' := hup.mp h
      simp only [if_true, Bool.toNat_true]
      omega
  | zero =>
    simp only [roundsUp, reduceCtorEq, false_implies, true_implies, and_true, Bool.false_eq_true, if_false]
    omega
  | up | down =>
    simp only [roundsUp, reduceCtorEq, false_implies, true_implies]
    by_cases h : r = 0 <;> cases neg <;> simp [h] <;> omega

end Sys2Proof.Machine
end

section
/-! PROOFS. `roundResult` is the rounded value as a datum of the format, with its flags (45_orfpx.md R602,
R603, 93_implementation_defined.md U13), and with it all that the operations give. -/

namespace Sys2Proof.Machine

/-! ## The rounded significand -/

/-- Rounding keeps to the whole multiples of the unit: it does not pass below one that the value has reached. -/
theorem le_roundAt {mode : RMode} {neg : Bool} {p q c : Nat} {e t : Int} (hq : 0 < q)
    (h : (c : ℚ) * 2 ^ t ≤ (p : ℚ) / q * 2 ^ e) : c ≤ (roundAt mode neg p q e t).1 := by
  have hd := scaledDen_pos hq e t
  obtain ⟨-, hlt, -⟩ := rounded_quotient mode neg (scaledNum p e t) hd
  have hc := (scaled_le_iff hq p c e t).mpr h
  have hmul : c * scaledDen q e t < ((roundAt mode neg p q e t).1 + 1) * scaledDen q e t := by
    rw [Nat.add_mul, Nat.one_mul]
    exact Nat.lt_of_le_of_lt hc hlt
  exact Nat.lt_succ_iff.mp (Nat.lt_of_mul_lt_mul_right hmul)

/-- Nor above one that the value does not exceed. -/
theorem roundAt_le {mode : RMode} {neg : Bool} {p q c : Nat} {e t : Int} (hq : 0 < q)
    (h : (p : ℚ) / q * 2 ^ e ≤ (c : ℚ) * 2 ^ t) : (roundAt mode neg p q e t).1 ≤ c := by
  have hd := scaledDen_pos hq e t
  obtain ⟨-, -, hlt, -⟩ := rounded_quotient mode neg (scaledNum p e t) hd
  have hc := (scaled_ge_iff hq p c e t).mpr h
  have hmul : (roundAt mode neg p q e t).1 * scaledDen q e t < (c + 1) * scaledDen q e t := by
    rw [Nat.add_mul, Nat.one_mul]
    exact Nat.lt_of_lt_of_le hlt (Nat.add_le_add_right hc _)
  exact Nat.lt_succ_iff.mp (Nat.lt_of_mul_lt_mul_right hmul)

/-- A power of two of units. -/
theorem natPow_mul_zpow (n : Nat) (t : Int) : ((2 ^ n : Nat) : ℚ) * 2 ^ t = 2 ^ ((n : Int) + t) := by
  rw [zpow_add₀ two_ne_zero, zpow_natCast]
  push_cast
  rfl

/-- The unit of the last place of the result. -/
def unitExp (f : Fmt) (p q : Nat) (e : Int) : Int := max (binade p q e) f.emin - f.fbits

section Value

variable (f : Fmt) (env : FEnv) (neg : Bool) {p q : Nat} (hp : 0 < p) (hq : 0 < q) (e : Int)
include hp hq

/-- Rounded to the bits of the format below its own leading bit, the significand has one bit more than the fraction, or carries. -/
theorem roundAt_binade : 2 ^ f.fbits ≤ (roundAt env.mode neg p q e (binade p q e - f.fbits)).1 ∧
    (roundAt env.mode neg p q e (binade p q e - f.fbits)).1 ≤ 2 ^ (f.fbits + 1) := by
  obtain ⟨hlo, hhi⟩ := binade_spec hp hq e
  refine ⟨le_roundAt hq ?_, roundAt_le hq ?_⟩
  · rw [natPow_mul_zpow, add_sub_cancel]
    exact hlo
  · have hexp : ((f.fbits + 1 : Nat) : Int) + (binade p q e - f.fbits) = binade p q e + 1 := by omega
    rw [natPow_mul_zpow, hexp]
    exact hhi.le

/-- The significand never has more than one bit above the fraction, but for a carry; and less only below the normal numbers. -/
theorem roundAt_unit : (roundAt env.mode neg p q e (unitExp f p q e)).1 ≤ 2 ^ (f.fbits + 1) ∧
    ((roundAt env.mode neg p q e (unitExp f p q e)).1 < 2 ^ f.fbits → unitExp f p q e = f.emin - f.fbits) := by
  unfold unitExp
  rcases Int.le_total f.emin (binade p q e) with h | h
  · rw [max_eq_left h]
    obtain ⟨hlo, hhi⟩ := roundAt_binade f env neg hp hq e
    exact ⟨hhi, fun hlt => absurd hlo (Nat.not_le.mpr hlt)⟩
  · rw [max_eq_right h]
    refine ⟨roundAt_le hq ?_, fun _ => rfl⟩
    obtain ⟨-, hhi⟩ := binade_spec hp hq e
    have hexp : ((f.fbits + 1 : Nat) : Int) + (f.emin - f.fbits) = f.emin + 1 := by omega
    rw [natPow_mul_zpow, hexp]
    exact hhi.le.trans (zpow_le_zpow_right₀ one_le_two (by omega))

/-- Tininess after rounding: the value rounded with an unbounded exponent stays below the normal numbers. -/
theorem carries_iff (h : binade p q e < f.emin) :
    (2 : ℚ) ^ f.emin ≤ (roundAt env.mode neg p q e (binade p q e - f.fbits)).1 * 2 ^ (binade p q e - f.fbits) ↔
      binade p q e = f.emin - 1 ∧ (roundAt env.mode neg p q e (binade p q e - f.fbits)).1 = 2 ^ (f.fbits + 1) := by
  obtain ⟨-, hhi⟩ := roundAt_binade f env neg hp hq e
  generalize (roundAt env.mode neg p q e (binade p q e - f.fbits)).1 = m at hhi
  generalize binade p q e = k at h
  have hexp : ((f.fbits + 1 : Nat) : Int) + (k - f.fbits) = k + 1 := by omega
  have hunit : (0 : ℚ) < 2 ^ (k - (f.fbits : Int)) := zpow_pos two_pos _
  have htop : ((2 ^ (f.fbits + 1) : Nat) : ℚ) * 2 ^ (k - (f.fbits : Int)) = 2 ^ (k + 1) := by rw [natPow_mul_zpow, hexp]
  refine ⟨fun hle => ?_, fun ⟨hk, hm⟩ => ?_⟩
  · have hup : (2 : ℚ) ^ f.emin ≤ 2 ^ (k + 1) := by
      rw [← htop]
      exact hle.trans (mul_le_mul_of_nonneg_right (Nat.cast_le.mpr hhi) hunit.le)
    have hk : k + 1 = f.emin := Int.le_antisymm h ((zpow_le_zpow_iff_right₀ one_lt_two).mp hup)
    rw [← hk, ← htop, mul_le_mul_iff_left₀ hunit, Nat.cast_le] at hle
    exact ⟨by omega, Nat.le_antisymm hhi hle⟩
  · have hk' : k + 1 = f.emin := by omega
    rw [hm, htop, hk']

end Value

/-! ## The result by its rounded significand -/

/-- Whether the result is tiny, as the parameter says (U13). -/
def isTiny (f : Fmt) (env : FEnv) (neg : Bool) (p q : Nat) (e : Int) : Bool :=
  decide (binade p q e < f.emin) && !(env.tinyAfter && decide ((2 : ℚ) ^ f.emin ≤
    (roundAt env.mode neg p q e (binade p q e - f.fbits)).1 * 2 ^ (binade p q e - f.fbits)))

/-- UNF and IXF of a result. -/
def roundFlags (f : Fmt) (env : FEnv) (neg : Bool) (p q : Nat) (e : Int) : FFlags :=
  { unf := isTiny f env neg p q e && !(roundAt env.mode neg p q e (unitExp f p q e)).2
    ixf := !(roundAt env.mode neg p q e (unitExp f p q e)).2 }

/-- The significand of a normal result, after a carry into the next binade. -/
def carried (f : Fmt) (m : Nat) : Bool := m == 2 ^ (f.fbits + 1)

theorem isTiny_eq (f : Fmt) (env : FEnv) (neg : Bool) {p q : Nat} (hp : 0 < p) (hq : 0 < q) (e : Int) :
    (decide (binade p q e < f.emin) && !(env.tinyAfter && binade p q e == f.emin - 1 &&
      (roundAt env.mode neg p q e (binade p q e - f.fbits)).1 == 2 ^ (f.fbits + 1))) = isTiny f env neg p q e := by
  unfold isTiny
  by_cases h : binade p q e < f.emin
  · have hcarry : (binade p q e == f.emin - 1 && (roundAt env.mode neg p q e (binade p q e - f.fbits)).1 == 2 ^ (f.fbits + 1)) =
        decide ((2 : ℚ) ^ f.emin ≤ (roundAt env.mode neg p q e (binade p q e - f.fbits)).1 * 2 ^ (binade p q e - f.fbits)) := by
      rw [Bool.eq_iff_iff, Bool.and_eq_true, beq_iff_eq, beq_iff_eq, decide_eq_true_iff, carries_iff f env neg hp hq e h]
    rw [Bool.and_assoc, hcarry]
  · rw [decide_eq_false h, Bool.false_and, Bool.false_and]

theorem roundResult_eq (f : Fmt) (env : FEnv) (neg : Bool) {p q : Nat} (hp : 0 < p) (hq : 0 < q) (e : Int) :
    roundResult f env neg p q e =
      let t := unitExp f p q e
      let m := (roundAt env.mode neg p q e t).1
      let be := (t + f.fbits + f.bias + (if carried f m then 1 else 0)).toNat
      if m = 0 then zeroResult f neg (roundFlags f env neg p q e)
      else if m < 2 ^ f.fbits then
        if env.denormals then { out := .bits (pack f neg 0 m), flags := roundFlags f env neg p q e }
        else zeroResult f neg { unf := true, ixf := true }
      else if f.emax ≤ be then overflowResult f env.mode neg
      else { out := .bits (pack f neg be (if carried f m then 0 else m - 2 ^ f.fbits)), flags := roundFlags f env neg p q e } := by
  unfold roundResult roundFlags
  rw [← isTiny_eq f env neg hp hq e]
  rfl

/-- A normal result as a significand with its leading bit. -/
theorem normal_value (f : Fmt) {m : Nat} (hlo : 2 ^ f.fbits ≤ m) (hhi : m ≤ 2 ^ (f.fbits + 1)) (t : Int) :
    (if carried f m then 0 else m - 2 ^ f.fbits) < 2 ^ f.fbits ∧
    (m : ℚ) * 2 ^ t = ((2 ^ f.fbits + (if carried f m then 0 else m - 2 ^ f.fbits) : Nat) : ℚ) *
      2 ^ (t + (if carried f m then 1 else 0)) := by
  have hpow : 2 ^ (f.fbits + 1) = 2 * 2 ^ f.fbits := Nat.pow_succ'
  have hpos : 0 < 2 ^ f.fbits := Nat.two_pow_pos _
  by_cases h : m = 2 ^ (f.fbits + 1)
  · have hc : carried f m = true := beq_iff_eq.mpr h
    rw [hc, if_pos rfl, if_pos rfl, h, hpow, zpow_add₀ two_ne_zero]
    refine ⟨hpos, ?_⟩
    push_cast
    ring
  · have hc : carried f m = false := beq_eq_false_iff_ne.mpr h
    rw [hc]
    simp only [Bool.false_eq_true, if_false, add_zero]
    rw [Nat.add_sub_cancel' hlo]
    exact ⟨by omega, rfl⟩

/-- A normal result is out of range exactly where its exponent is. -/
theorem normal_overflows (f : Fmt) {x : Nat} (hx : x < 2 ^ f.fbits) (t b : Int) :
    (2 : ℚ) ^ b ≤ ((2 ^ f.fbits + x : Nat) : ℚ) * 2 ^ t ↔ b ≤ f.fbits + t := by
  have ht : (0 : ℚ) < 2 ^ t := zpow_pos two_pos t
  have hlo : (2 : ℚ) ^ ((f.fbits : Int) + t) ≤ ((2 ^ f.fbits + x : Nat) : ℚ) * 2 ^ t := by
    rw [← natPow_mul_zpow]
    exact mul_le_mul_of_nonneg_right (Nat.cast_le.mpr (Nat.le_add_right _ _)) ht.le
  have hhi : ((2 ^ f.fbits + x : Nat) : ℚ) * 2 ^ t < 2 ^ ((f.fbits : Int) + t + 1) := by
    have hexp : (f.fbits : Int) + t + 1 = ((f.fbits + 1 : Nat) : Int) + t := by omega
    rw [hexp, ← natPow_mul_zpow]
    refine mul_lt_mul_of_pos_right (Nat.cast_lt.mpr ?_) ht
    rw [Nat.pow_succ]
    omega
  refine ⟨fun h => ?_, fun h => (zpow_le_zpow_right₀ one_le_two h).trans hlo⟩
  exact Int.lt_add_one_iff.mp ((zpow_lt_zpow_iff_right₀ one_lt_two).mp (h.trans_lt hhi))

/-! ## The clauses of rounding -/

theorem overflowResult_eq (f : Fmt) (mode : RMode) (neg : Bool) :
    let toInf := mode = .nearest ∨ mode = (if neg then .down else .up)
    overflowResult f mode neg =
      { out := .bits (if toInf then pack f neg f.emax 0 else pack f neg (f.emax - 1) (2 ^ f.fbits - 1))
        flags := { ovf := true, ixf := true, inf := decide toInf } } := by
  cases mode <;> cases neg <;> rfl

/-- The exponents of the two formats. -/
theorem Fmt.emax_eq {f : Fmt} (hf : f = .single ∨ f = .double) : (f.emax : Int) = 2 * f.bias + 1 ∧ 0 < f.bias := by
  rcases hf with rfl | rfl <;> decide

section Rules

variable {f : Fmt} (hf : f = .single ∨ f = .double) (env : FEnv) (neg : Bool) {p q : Nat} (hp : 0 < p) (hq : 0 < q) (e : Int)
include hf hp hq

/-- What a significand with its leading bit gives: an overflow where the exponent is out of range, else a normal datum. -/
theorem roundResult_normal {m : Nat} (hm : m = (roundAt env.mode neg p q e (unitExp f p q e)).1) (hlo : 2 ^ f.fbits ≤ m) :
    ((2 : ℚ) ^ (f.bias + 1) ≤ m * 2 ^ unitExp f p q e → roundResult f env neg p q e = overflowResult f env.mode neg) ∧
    ((m : ℚ) * 2 ^ unitExp f p q e < 2 ^ (f.bias + 1) → ∃ be x, 0 < be ∧ be < f.emax ∧ x < 2 ^ f.fbits ∧
      roundResult f env neg p q e = { out := .bits (pack f neg be x), flags := roundFlags f env neg p q e } ∧
      ((2 ^ f.fbits + x : Nat) : ℚ) * 2 ^ ((be : Int) - f.bias - f.fbits) = m * 2 ^ unitExp f p q e) := by
  obtain ⟨hemax, hbias⟩ := Fmt.emax_eq hf
  obtain ⟨hhi, -⟩ := roundAt_unit f env neg hp hq e
  rw [← hm] at hhi
  have hT : f.emin ≤ unitExp f p q e + f.fbits := by
    unfold unitExp
    omega
  have hemin : f.emin = 1 - f.bias := rfl
  have hrun := roundResult_eq f env neg hp hq e
  dsimp only at hrun
  rw [← hm, if_neg (Nat.ne_of_gt (Nat.lt_of_lt_of_le (Nat.two_pow_pos _) hlo)), if_neg (Nat.not_lt.mpr hlo)] at hrun
  obtain ⟨hx, hval⟩ := normal_value f hlo hhi (unitExp f p q e)
  have hover := normal_overflows f hx (unitExp f p q e + (if carried f m then 1 else 0)) (f.bias + 1)
  rw [hval]
  generalize (if carried f m then 0 else m - 2 ^ f.fbits) = x at hrun hx hover
  have hc : (0 : Int) ≤ if carried f m then 1 else 0 := by split <;> decide
  generalize (if carried f m then (1 : Int) else 0) = c at hrun hover hc
  generalize unitExp f p q e = t at hT hrun hover
  have hbe : ((t + f.fbits + f.bias + c).toNat : Int) = t + f.fbits + f.bias + c := Int.toNat_of_nonneg (by omega)
  generalize (t + f.fbits + f.bias + c).toNat = be at hrun hbe
  refine ⟨fun h => ?_, fun h => ⟨be, x, ?_, ?_, hx, ?_, ?_⟩⟩
  · have := hover.mp h
    rw [hrun, if_pos (by omega)]
  · omega
  · have := mt hover.mpr (not_le.mpr h)
    omega
  · have := mt hover.mpr (not_le.mpr h)
    rw [hrun, if_neg (by omega)]
  · have hexp : (be : Int) - f.bias - f.fbits = t + c := by omega
    rw [hexp]

/-- A significand short of its leading bit is a value below the normal numbers. -/
theorem subnormal_in_range {m : Nat} (hm : m = (roundAt env.mode neg p q e (unitExp f p q e)).1) (hlt : m < 2 ^ f.fbits) :
    unitExp f p q e = f.emin - f.fbits ∧ (m : ℚ) * 2 ^ unitExp f p q e < 2 ^ (f.bias + 1) := by
  obtain ⟨-, hbias⟩ := Fmt.emax_eq hf
  have ht := (roundAt_unit f env neg hp hq e).2 (hm ▸ hlt)
  refine ⟨ht, ?_⟩
  have hemin : f.emin = 1 - f.bias := rfl
  calc (m : ℚ) * 2 ^ unitExp f p q e < ((2 ^ f.fbits : Nat) : ℚ) * 2 ^ unitExp f p q e :=
        mul_lt_mul_of_pos_right (Nat.cast_lt.mpr hlt) (zpow_pos two_pos _)
    _ = 2 ^ f.emin := by rw [natPow_mul_zpow, ht, add_sub_cancel]
    _ ≤ 2 ^ (f.bias + 1) := zpow_le_zpow_right₀ one_le_two (by omega)

/-- A value out of range overflows. -/
theorem overflow_rule {m : Nat} (hm : m = (roundAt env.mode neg p q e (unitExp f p q e)).1)
    (h : (2 : ℚ) ^ (f.bias + 1) ≤ m * 2 ^ unitExp f p q e) : roundResult f env neg p q e = overflowResult f env.mode neg := by
  have hlo : 2 ^ f.fbits ≤ m := Nat.not_lt.mp fun hlt => not_lt.mpr h (subnormal_in_range hf env neg hp hq e hm hlt).2
  exact (roundResult_normal hf env neg hp hq e hm hlo).1 h

omit hp hq in
/-- The datum of a bit pattern with a biased exponent of zero. -/
theorem unpack_subnormal {x : Nat} (hx : x < 2 ^ f.fbits) (hd : env.denormals = true ∨ x = 0) :
    unpack f env (pack f neg 0 x) = .num neg x (f.emin - f.fbits) := by
  obtain ⟨hemax, hbias⟩ := Fmt.emax_eq hf
  rw [unpack_pack f env neg (Nat.zero_le _) hx, if_neg (by omega), if_pos rfl]
  rcases hd with hd | rfl
  · rw [hd, if_pos rfl]
  · rw [ite_self]

/-- A value in range that the format can hold is the datum of the result. -/
theorem inRange_rule {m : Nat} (hm : m = (roundAt env.mode neg p q e (unitExp f p q e)).1)
    (h : (m : ℚ) * 2 ^ unitExp f p q e < 2 ^ (f.bias + 1)) (hd : env.denormals = true ∨ m = 0 ∨ 2 ^ f.fbits ≤ m) :
    (∃ n, (roundResult f env neg p q e).out = .bits n ∧ n < 2 ^ f.width ∧
      ∃ (m' : Nat) (e' : Int), unpack f env n = .num neg m' e' ∧ (m' : ℚ) * 2 ^ e' = m * 2 ^ unitExp f p q e) ∧
    (roundResult f env neg p q e).flags = { roundFlags f env neg p q e with zf := decide (m = 0) } := by
  obtain ⟨hemax, hbias⟩ := Fmt.emax_eq hf
  have hrun := roundResult_eq f env neg hp hq e
  dsimp only at hrun
  rw [← hm] at hrun
  rcases Nat.lt_or_ge m (2 ^ f.fbits) with hlt | hlo
  · obtain ⟨ht, -⟩ := subnormal_in_range hf env neg hp hq e hm hlt
    have hd' : env.denormals = true ∨ m = 0 := by
      rcases hd with hd | hd | hd
      · exact .inl hd
      · exact .inr hd
      · exact absurd hd (Nat.not_le.mpr hlt)
    have hdatum := unpack_subnormal hf env neg hlt hd'
    have hbits : pack f neg 0 m < 2 ^ f.width := pack_lt f neg (Nat.two_pow_pos _) hlt
    have hout : roundResult f env neg p q e =
        { out := .bits (pack f neg 0 m), flags := { roundFlags f env neg p q e with zf := decide (m = 0) } } := by
      by_cases h0 : m = 0
      · rw [hrun, if_pos h0, h0]
        rfl
      · rw [hrun, if_neg h0, if_pos hlt, hd'.resolve_right h0, if_pos rfl, decide_eq_false h0]
        rfl
    rw [hout, ht]
    exact ⟨⟨_, rfl, hbits, m, _, hdatum, rfl⟩, rfl⟩
  · obtain ⟨be, x, hbe, hlt, hx, hout, hval⟩ := (roundResult_normal hf env neg hp hq e hm hlo).2 h
    have hbits : pack f neg be x < 2 ^ f.width := pack_lt f neg (hlt.trans f.emax_lt) hx
    have hdatum : unpack f env (pack f neg be x) = .num neg (2 ^ f.fbits + x) (be - f.bias - f.fbits) := by
      rw [unpack_pack f env neg hlt.le hx, if_neg hlt.ne, if_neg hbe.ne']
    have hm0 : m ≠ 0 := Nat.ne_of_gt (Nat.lt_of_lt_of_le (Nat.two_pow_pos _) hlo)
    rw [hout, decide_eq_false hm0]
    exact ⟨⟨_, rfl, hbits, _, _, hdatum, hval⟩, rfl⟩

omit hf in
/-- Without denormal support a denormal result is flushed to zero. -/
theorem flushed_rule {m : Nat} (hm : m = (roundAt env.mode neg p q e (unitExp f p q e)).1) (hd : env.denormals = false)
    (hpos : 0 < m) (hlt : m < 2 ^ f.fbits) :
    roundResult f env neg p q e = { out := .bits (pack f neg 0 0), flags := { unf := true, ixf := true, zf := true } } := by
  have hrun := roundResult_eq f env neg hp hq e
  dsimp only at hrun
  rw [hrun, ← hm, if_neg hpos.ne', if_pos hlt, hd]
  rfl

end Rules

/-! ## The obligation -/

/-- Settles O53, clause by clause. -/
theorem fpValueRules : Obligations.FpValueRules := by
  refine ⟨fun f e k a b h => nan_rule f e k h, fun f e k n m x p => invalid_rule f e k n m x p,
    fun f e n m x p => inf_rule f e n m x p, fun f e n m x p q hx => divideByZero_rule f e n m p q hx, ?_, ?_, ?_, ?_,
    fun f env n x p _ => toInt_rule f env n x p, fun f env neg be m _ hbe hm => unpack_pack f env neg hbe hm⟩
  · exact fun f e n m x y p q => ⟨fpAdd_rounds f e n m x y p q, fpSub_rounds f e n m x y p q, fpMul_rounds f e n m x y p q,
      fun hy => ⟨fpDiv_rounds f e n m x y p q hy, fpRem_rounds f e n m x y p q hy⟩, fpRem_inf_rounds f e n m x p,
      fpOfInt_rounds f e⟩
  · intro p q e hp hq
    obtain ⟨hlo, hhi⟩ := binade_spec hp hq e
    refine ⟨?_, ?_⟩
    · have h := scaled_le_iff hq p 1 e (binade p q e)
      rw [Nat.one_mul, Nat.cast_one, one_mul] at h
      exact h.mpr hlo
    · refine Nat.not_le.mp fun h => not_le.mpr hhi ?_
      rw [zpow_add_one₀ two_ne_zero, mul_comm]
      exact (scaled_le_iff hq p 2 e _).mp h
  · exact fun mode neg p q e t hq => ⟨scaled_ratio hq p e t, rounded_quotient mode neg _ (scaledDen_pos hq e t)⟩
  · intro f env neg p q e hf hp hq
    exact ⟨fun h => (overflow_rule hf env neg hp hq e rfl h).trans (overflowResult_eq f env.mode neg),
      fun h hd => inRange_rule hf env neg hp hq e rfl h hd, fun hd hpos hlt => flushed_rule env neg hp hq e rfl hd hpos hlt⟩

end Sys2Proof.Machine
end
